-- ==== Sys2Proof/Word.lean ====
section
/-! DEFINITION. The bytes the station ports carry (R149) and the readers' sequence numbers (R18). -/

namespace Sys2Proof

/-- One byte on a station port line (R149), or a reader's sequence number (chapter 2, section 2.1). -/
abbrev Byte := BitVec 8

end Sys2Proof
end

