-- ==== Sys2Proof/Syntax.lean ====
section
/-! DEFINITION. The names the manual fixes and the commands of the part: one constructor of `Instr` for each row of
spec/opcode_table.json. -/

namespace Sys2Proof

/-- The five movers, numbered 1 to 5 in this order (R3). -/
inductive Mover where
  | p1 | p2 | p3 | p4 | tray
deriving DecidableEq, Repr, Inhabited

/-- The twelve axes, numbered 1 to 12 (R3). -/
inductive Axis where
  | a1 | a2 | a3 | a4 | a5 | a6 | a7 | a8 | a9 | a10 | a11 | a12
deriving DecidableEq, Repr, Inhabited

/-- The two readers of an axis (R3). -/
inductive ReaderRole where
  | primary | check
deriving DecidableEq, Repr, Inhabited

/-- The two reader buses: primaries on A, checks on B (section 2.1). -/
inductive ReaderBus where
  | a | b
deriving DecidableEq, Repr, Inhabited

/-- The status field of a reading (section 2.1). -/
inductive ReaderStatus where
  | ok | warn | fault
deriving DecidableEq, Repr, Inhabited

/-- The three station ports, each with its fixed role (chapter 10). -/
inductive Port where
  | roof | pitch | venue
deriving DecidableEq, Repr, Inhabited

/-- The two portal braces (R112). -/
inductive Brace where
  | east | west
deriving DecidableEq, Repr, Inhabited

/-- The two channels of the safety loop (R143). -/
inductive LoopChannel where
  | a | b
deriving DecidableEq, Repr, Inhabited

/-- The two anemometers (chapter 8). -/
inductive Anemometer where
  | first | second
deriving DecidableEq, Repr, Inhabited

/-- The blocks that post notices (R162). -/
inductive Block where
  | pos | zt | asu | msu | brc | wm | spu | dsu | slu
deriving DecidableEq, Repr, Inhabited

/-- What BRC tests the demand condition on (R123): a closure of a wind measurement interval, a brace change, a position
update of a mover, a report of a changed hold or clearing, a change of device state, a committed image. -/
inductive DemandSource where
  | closure | braceChange | bodyChange (mover : Mover) | holdReport | deviceChange | commit
deriving DecidableEq, Repr, Inhabited

/-- A reading frame as it arrives on a reader bus (section 2.1, R17). How a reader forms its check value is the
reader's own design, so the frame carries only whether the check the part recomputes matches (DESIGN CHOICE, log 12).
The address is whatever the frame carries; R17 tests it. -/
structure ReadingFrame where
  checkMatches : Bool
  address : Nat
  sequence : Byte
  position : Int
  status : ReaderStatus
deriving DecidableEq, Repr, Inhabited

/-- The commands of the part, one for each row of spec/opcode_table.json in the table's order.

A request row has no operand: it is the request handler's next grant, and its operands are the body bytes of the
request at the granted head (R153, log 2). A row in which one block takes what another handed it names which hand-over
in flight is taken (log 1): by the mover, axis, block or source concerned, or by its place among those in flight where
the spec lets any be taken first. -/
inductive Instr where
  /-- R147: the supply comes up, or is lost during operation. -/
  | powerOnReset
  /-- R146: the reset line is asserted. -/
  | resetLineAssertion
  /-- R146: the reset line's filter timer expires. -/
  | lineReset
  /-- R146: the reset line is released. -/
  | resetLineRelease
  /-- R148: the commanded reset is taken. -/
  | commandedReset
  /-- R150: a frame complete on a port is tested. -/
  | completeFrame (port : Port)
  /-- R149: a port's frame timer expires. -/
  | frameTimerExpiry (port : Port)
  /-- R152: the last byte of a port's oldest reply frame leaves. -/
  | replyFrameSent (port : Port)
  /-- R157: a port's silence timer expires. -/
  | silenceTimerExpiry (port : Port)
  /-- R154: the granted request has an unknown code. -/
  | unknownRequestCode
  /-- R159: the granted request is STATUS. -/
  | status
  /-- R160: the granted request is the mover form of STATUS. -/
  | moverStatus
  /-- R165: the granted request is NOTICE. -/
  | notice
  /-- R158: the granted request is MASK. -/
  | mask
  /-- R39: the granted request is RESERVE. -/
  | reserve
  /-- R47: the granted request is RELEASE. -/
  | release
  /-- R61: the granted request is MOVE. -/
  | move
  /-- R108: the granted request is STOP. -/
  | stop
  /-- R107: the granted request is CLEAR. -/
  | clear
  /-- R114: the granted request is BRACE with the engage direction. -/
  | braceEngage
  /-- R114: the granted request is BRACE with the withdraw direction. -/
  | braceWithdraw
  /-- R120: the granted request is BRACE CLEAR. -/
  | braceClear
  /-- R54: the granted request is BARRIER with the close action. -/
  | barrierClose
  /-- R54: the granted request is BARRIER with the open action. -/
  | barrierOpen
  /-- R141: the granted request is PERMITS with the value off. -/
  | permitsOff
  /-- R141: the granted request is PERMITS with the value on. -/
  | permitsOn
  /-- R137: the granted request is ARM. -/
  | arm
  /-- R140: the granted request is STANDBY. -/
  | standby
  /-- R148: the granted request is RESET. -/
  | reset
  /-- R168: the granted request is FAULT READ. -/
  | faultRead
  /-- R168: the granted request is FAULT CLEAR. -/
  | faultClear
  /-- R9: the granted request is CONFIG READ. -/
  | configRead
  /-- R8: the granted request is CONFIG WRITE. -/
  | configWrite
  /-- R10: the granted request is COMMIT. -/
  | commit
  /-- R11, R13: the storage write ends; whether the readback's check value is the one computed at its start. -/
  | storageWriteComplete (readbackMatches : Bool)
  /-- R17, R18: a reading frame arrives on a bus. -/
  | readingArrival (bus : ReaderBus) (frame : ReadingFrame)
  /-- R19: a reader's gap timer expires. -/
  | gapTimerExpiry (axis : Axis) (role : ReaderRole)
  /-- R19: an axis's loss timer expires. -/
  | lossTimerExpiry (axis : Axis)
  /-- R139: DSU takes the oldest validity change in flight of an axis. -/
  | validityChange (axis : Axis)
  /-- R44: ZT takes the oldest position update in flight of a mover. -/
  | positionUpdateZT (mover : Mover)
  /-- R68: ASU takes the oldest position update in flight of a mover. -/
  | positionUpdateASU (mover : Mover)
  /-- R79: MSU takes the oldest consumption hand-over in flight of a mover. -/
  | authorityConsumed (mover : Mover)
  /-- R106: MSU takes the oldest position update in flight of a mover. -/
  | positionUpdateMSU (mover : Mover)
  /-- R99: MSU takes an Immediate cause, the `which`-th oldest in flight. -/
  | immediateCauseTaken (which : Nat)
  /-- R96: MSU takes a controlled cause, the `which`-th oldest in flight. -/
  | controlledCauseTaken (which : Nat)
  /-- R95: MSU takes VENUE SILENCE, the `which`-th oldest in flight. -/
  | holdCauseTaken (which : Nat)
  /-- R102: MSU takes the oldest change of device state in flight. -/
  | deviceStateChangeMSU
  /-- R101: a mover's trip timer expires. -/
  | tripTimerExpiry (mover : Mover)
  /-- R104: a relay's readback timer expires. -/
  | readbackTimerExpiry (mover : Mover)
  /-- R104, R138: a relay's readback contact changes to the level given. -/
  | readbackContactChange (mover : Mover) (closed : Bool)
  /-- R138: the arming step timer expires. -/
  | stepTimerExpiry
  /-- R140: DSU takes the oldest change of mover state in flight. -/
  | moverStateChange
  /-- R143: a loop channel's raw level changes to the level given. -/
  | loopChannelChange (channel : LoopChannel) (closed : Bool)
  /-- R143: a loop channel's filter timer expires. -/
  | loopFilterExpiry (channel : LoopChannel)
  /-- R143: the discrepancy timer expires. -/
  | discrepancyTimerExpiry
  /-- R145: a drive-trip input's raw level changes to the level given. -/
  | driveTripInputChange (mover : Mover) (active : Bool)
  /-- R145: a drive-trip input's filter timer expires. -/
  | driveTripFilterExpiry (mover : Mover)
  /-- R113, R118: a brace's end switches change to the levels given (closed or not). -/
  | braceSwitchChange (brace : Brace) (engagedClosed : Bool) (withdrawnClosed : Bool)
  /-- R57: ZT takes the oldest brace switch loss in flight. -/
  | braceSwitchLoss
  /-- R119: a brace's operation timer expires. -/
  | operationTimerExpiry (brace : Brace)
  /-- R121: BRC takes the oldest change out of Armed or loop opening in flight. -/
  | cutShort
  /-- R123: BRC takes the oldest event in flight of a source, and tests the demand condition on it. The source is the
  model's operand (log 1); written without one the command takes a closure, the first event R123 lists. -/
  | demandConditionTest (source : DemandSource := .closure)
  /-- R127: a pulse arrives on an anemometer's input. -/
  | anemometerPulse (which : Anemometer)
  /-- R127: the 1 s interval timer expires. -/
  | intervalClosure
  /-- R162: NU takes the oldest posting in flight of a block. -/
  | noticePosting (source : Block)
  /-- R167: FR takes a handed-over cause, the `which`-th oldest in flight. -/
  | causeHandover (which : Nat)
  /-- R149: a byte arrives on a port's receiver, with or without a framing error. -/
  | stationPortByte (port : Port) (byte : Byte) (framingError : Bool)
deriving DecidableEq, Repr, Inhabited

end Sys2Proof
end

