-- ==== Sys2Proof/Decode.lean ====
section
/-! DEFINITION. spec/opcode_table.json gives no row any bits (its "fields" are empty and it has no "fixed"), so no word
spells a command. The frames a station sends are decoded by the receiver and the request handler, which are part of the
machine (R149, R154). -/

namespace Sys2Proof

/-- The command a word of the table's bits spells: none, as no row of the table gives bits. -/
def decodeTableWord (_nbits _w : Nat) : Option Instr := none

end Sys2Proof
end

