-- ==== Sys2Proof/Config.lean ====
section
/-! DEFINITION. The free values: constants without a body, so nothing can be proved of the values they take. -/

namespace Sys2Proof

/-- What a partly written or unreadable stored image holds in its n-th entry in serial order (R13, R15 give only that
its check fails). The first argument is the state's counter of free values. DESIGN CHOICE, log 6. -/
opaque Config.tornEntry : Nat → Nat → Int

/-- In which bits a partly written or unreadable stored image's check value misses its contents (R13, R15).
DESIGN CHOICE, log 6. -/
opaque Config.tornCheckError : Nat → BitVec 32

/-- The time left on a running trip timer, in ms, before it is held within the trip stop time (R93, R160). The model has
no clock. DESIGN CHOICE, log 5. -/
opaque Config.tripTimeLeft : Nat → Nat

end Sys2Proof
end

