-- ==== Sys2Proof/Machine/Arith.lean ====
section
/-! DEFINITION. The arithmetic of the manual's Conventions (00_scope.md: floor, ceil, truncation, isqrt, saturation), the
byte order of frames (R149) and the two check values (R14, R150). -/

namespace Sys2Proof.Machine

/-- One bit at a time from the highest: the greatest `r` with `r * r ≤ n` among those that agree with `r` above bit `k`. -/
def isqrtFrom (n : Nat) : Nat → Nat → Nat
  | 0, r => r
  | k + 1, r => isqrtFrom n k (if (r + 2 ^ k) * (r + 2 ^ k) ≤ n then r + 2 ^ k else r)

/-- isqrt: the greatest whole number whose square does not exceed the argument (00_scope.md, Arithmetic). -/
def isqrtNat (n : Nat) : Nat := isqrtFrom n (n.log2 / 2 + 1) 0

/-- isqrt of an integer; a negative argument is taken as 0. -/
def isqrt (x : Int) : Int := isqrtNat x.toNat

/-- ceil(x / y) for y above 0. -/
def ceilDiv (x y : Int) : Int := -((-x) / y)

/-- x held within -limit and limit (00_scope.md, Saturation). -/
def saturate (limit x : Int) : Int := max (-limit) (min limit x)

/-- The magnitude of x. -/
def absInt (x : Int) : Int := max x (-x)

/-- The n low bytes of x in two's complement, most significant byte first (R149). A value too wide for its field keeps
its low bytes (DESIGN CHOICE, log 21). -/
def bytesOf : Nat → Int → List Byte
  | 0, _ => []
  | n + 1, x => BitVec.ofInt 8 (x / 256 ^ n) :: bytesOf n x

/-- The unsigned value of bytes, most significant first (R149). -/
def natOfBytes (bs : List Byte) : Nat := bs.foldl (fun acc b => acc * 256 + b.toNat) 0

/-- The signed value of four bytes, most significant first (R149). -/
def int32OfBytes (bs : List Byte) : Int := (BitVec.ofNat 32 (natOfBytes bs)).toInt

/-- A Bool as the byte 0 or 1. -/
def flagByte (b : Bool) : Byte := if b then 1 else 0

/-- One right shift of R14's register. -/
def crc32Shift (r : BitVec 32) : BitVec 32 :=
  if r.getLsbD 0 then (r >>> 1) ^^^ 0xEDB88320#32 else r >>> 1

/-- R14, step 2 for one byte. -/
def crc32Byte (r : BitVec 32) (b : Byte) : BitVec 32 :=
  Nat.repeat crc32Shift 8 (r ^^^ b.setWidth 32)

/-- R14: the check value of a sequence of bytes. -/
def crc32 (bs : List Byte) : BitVec 32 := ~~~ (bs.foldl crc32Byte 0xFFFFFFFF#32)

/-- One left shift of R150's register. -/
def crc16Shift (r : BitVec 16) : BitVec 16 :=
  if r.getLsbD 15 then (r <<< 1) ^^^ 0x1021#16 else r <<< 1

/-- R150, step 2 for one byte. -/
def crc16Byte (r : BitVec 16) (b : Byte) : BitVec 16 :=
  Nat.repeat crc16Shift 8 (r ^^^ (b.setWidth 16 <<< 8))

/-- R150: the check value of a frame's bytes from Length through Body. -/
def crc16 (bs : List Byte) : BitVec 16 := bs.foldl crc16Byte 0xFFFF#16

end Sys2Proof.Machine
end

