-- ==== Sys2Proof/Machine/Tables.lean ====
section
/-! DEFINITION. The fixed lists of chapter 1 (movers, axes, ports, braces, channels) and one value for each member of
such a list. -/

namespace Sys2Proof.Machine

/-- One value for each mover. -/
structure PerMover (α : Type) where
  p1 : α
  p2 : α
  p3 : α
  p4 : α
  tray : α
deriving DecidableEq, Repr, Inhabited

/-- The value for one member. -/
def PerMover.get (t : PerMover α) : Mover → α
  | .p1 => t.p1
  | .p2 => t.p2
  | .p3 => t.p3
  | .p4 => t.p4
  | .tray => t.tray

/-- The value for one member replaced. -/
def PerMover.set (t : PerMover α) (k : Mover) (x : α) : PerMover α :=
  match k with
  | .p1 => { t with p1 := x }
  | .p2 => { t with p2 := x }
  | .p3 => { t with p3 := x }
  | .p4 => { t with p4 := x }
  | .tray => { t with tray := x }

/-- The value for one member changed by a function. -/
def PerMover.modify (t : PerMover α) (k : Mover) (f : α → α) : PerMover α := t.set k (f (t.get k))

/-- One value for each member, from a function of the member. -/
def PerMover.ofFn (f : Mover → α) : PerMover α :=
  ⟨f .p1, f .p2, f .p3, f .p4, f .tray⟩

/-- One value for each axis. -/
structure PerAxis (α : Type) where
  a1 : α
  a2 : α
  a3 : α
  a4 : α
  a5 : α
  a6 : α
  a7 : α
  a8 : α
  a9 : α
  a10 : α
  a11 : α
  a12 : α
deriving DecidableEq, Repr, Inhabited

/-- The value for one member. -/
def PerAxis.get (t : PerAxis α) : Axis → α
  | .a1 => t.a1
  | .a2 => t.a2
  | .a3 => t.a3
  | .a4 => t.a4
  | .a5 => t.a5
  | .a6 => t.a6
  | .a7 => t.a7
  | .a8 => t.a8
  | .a9 => t.a9
  | .a10 => t.a10
  | .a11 => t.a11
  | .a12 => t.a12

/-- The value for one member replaced. -/
def PerAxis.set (t : PerAxis α) (k : Axis) (x : α) : PerAxis α :=
  match k with
  | .a1 => { t with a1 := x }
  | .a2 => { t with a2 := x }
  | .a3 => { t with a3 := x }
  | .a4 => { t with a4 := x }
  | .a5 => { t with a5 := x }
  | .a6 => { t with a6 := x }
  | .a7 => { t with a7 := x }
  | .a8 => { t with a8 := x }
  | .a9 => { t with a9 := x }
  | .a10 => { t with a10 := x }
  | .a11 => { t with a11 := x }
  | .a12 => { t with a12 := x }

/-- The value for one member changed by a function. -/
def PerAxis.modify (t : PerAxis α) (k : Axis) (f : α → α) : PerAxis α := t.set k (f (t.get k))

/-- One value for each member, from a function of the member. -/
def PerAxis.ofFn (f : Axis → α) : PerAxis α :=
  ⟨f .a1, f .a2, f .a3, f .a4, f .a5, f .a6, f .a7, f .a8, f .a9, f .a10, f .a11, f .a12⟩

/-- One value for each station port or station. -/
structure PerPort (α : Type) where
  roof : α
  pitch : α
  venue : α
deriving DecidableEq, Repr, Inhabited

/-- The value for one member. -/
def PerPort.get (t : PerPort α) : Port → α
  | .roof => t.roof
  | .pitch => t.pitch
  | .venue => t.venue

/-- The value for one member replaced. -/
def PerPort.set (t : PerPort α) (k : Port) (x : α) : PerPort α :=
  match k with
  | .roof => { t with roof := x }
  | .pitch => { t with pitch := x }
  | .venue => { t with venue := x }

/-- The value for one member changed by a function. -/
def PerPort.modify (t : PerPort α) (k : Port) (f : α → α) : PerPort α := t.set k (f (t.get k))

/-- One value for each member, from a function of the member. -/
def PerPort.ofFn (f : Port → α) : PerPort α :=
  ⟨f .roof, f .pitch, f .venue⟩

/-- One value for each brace. -/
structure PerBrace (α : Type) where
  east : α
  west : α
deriving DecidableEq, Repr, Inhabited

/-- The value for one member. -/
def PerBrace.get (t : PerBrace α) : Brace → α
  | .east => t.east
  | .west => t.west

/-- The value for one member replaced. -/
def PerBrace.set (t : PerBrace α) (k : Brace) (x : α) : PerBrace α :=
  match k with
  | .east => { t with east := x }
  | .west => { t with west := x }

/-- The value for one member changed by a function. -/
def PerBrace.modify (t : PerBrace α) (k : Brace) (f : α → α) : PerBrace α := t.set k (f (t.get k))

/-- One value for each member, from a function of the member. -/
def PerBrace.ofFn (f : Brace → α) : PerBrace α :=
  ⟨f .east, f .west⟩

/-- One value for each loop channel. -/
structure PerChannel (α : Type) where
  a : α
  b : α
deriving DecidableEq, Repr, Inhabited

/-- The value for one member. -/
def PerChannel.get (t : PerChannel α) : LoopChannel → α
  | .a => t.a
  | .b => t.b

/-- The value for one member replaced. -/
def PerChannel.set (t : PerChannel α) (k : LoopChannel) (x : α) : PerChannel α :=
  match k with
  | .a => { t with a := x }
  | .b => { t with b := x }

/-- The value for one member changed by a function. -/
def PerChannel.modify (t : PerChannel α) (k : LoopChannel) (f : α → α) : PerChannel α := t.set k (f (t.get k))

/-- One value for each member, from a function of the member. -/
def PerChannel.ofFn (f : LoopChannel → α) : PerChannel α :=
  ⟨f .a, f .b⟩

/-- One value for each anemometer. -/
structure PerAnemometer (α : Type) where
  first : α
  second : α
deriving DecidableEq, Repr, Inhabited

/-- The value for one member. -/
def PerAnemometer.get (t : PerAnemometer α) : Anemometer → α
  | .first => t.first
  | .second => t.second

/-- The value for one member replaced. -/
def PerAnemometer.set (t : PerAnemometer α) (k : Anemometer) (x : α) : PerAnemometer α :=
  match k with
  | .first => { t with first := x }
  | .second => { t with second := x }

/-- The value for one member changed by a function. -/
def PerAnemometer.modify (t : PerAnemometer α) (k : Anemometer) (f : α → α) : PerAnemometer α := t.set k (f (t.get k))

/-- One value for each member, from a function of the member. -/
def PerAnemometer.ofFn (f : Anemometer → α) : PerAnemometer α :=
  ⟨f .first, f .second⟩

/-- The movers in number order (R3). -/
def allMovers : List Mover := [.p1, .p2, .p3, .p4, .tray]

/-- The axes in number order (R3). -/
def allAxes : List Axis := [.a1, .a2, .a3, .a4, .a5, .a6, .a7, .a8, .a9, .a10, .a11, .a12]

/-- The panels in number order. -/
def panels : List Mover := [.p1, .p2, .p3, .p4]

/-- The stations in the cyclic order of the port arbiter (R153). -/
def allPorts : List Port := [.roof, .pitch, .venue]

/-- A mover's number, 1 to 5 (R3). -/
def moverNumber : Mover → Nat
  | .p1 => 1 | .p2 => 2 | .p3 => 3 | .p4 => 4 | .tray => 5

/-- The mover of a number 1 to 5. -/
def moverOfNumber (n : Nat) : Option Mover :=
  match n with
  | 1 => some .p1 | 2 => some .p2 | 3 => some .p3 | 4 => some .p4 | 5 => some .tray | _ => none

/-- An axis's number, 1 to 12 (R3). -/
def axisNumber : Axis → Nat
  | .a1 => 1 | .a2 => 2 | .a3 => 3 | .a4 => 4 | .a5 => 5 | .a6 => 6
  | .a7 => 7 | .a8 => 8 | .a9 => 9 | .a10 => 10 | .a11 => 11 | .a12 => 12

/-- The axis of a number 1 to 12. -/
def axisOfNumber (n : Nat) : Option Axis := allAxes.find? fun a => axisNumber a == n

/-- The mover an axis belongs to (R3). -/
def moverOfAxis : Axis → Mover
  | .a1 | .a2 => .p1
  | .a3 | .a4 => .p2
  | .a5 | .a6 => .p3
  | .a7 | .a8 => .p4
  | .a9 | .a10 | .a11 | .a12 => .tray

/-- A mover's axes in axis order (R3). -/
def axesOf : Mover → List Axis
  | .p1 => [.a1, .a2]
  | .p2 => [.a3, .a4]
  | .p3 => [.a5, .a6]
  | .p4 => [.a7, .a8]
  | .tray => [.a9, .a10, .a11, .a12]

/-- Whether a mover is one of the four panels. -/
def isPanel : Mover → Bool
  | .tray => false
  | .p1 | .p2 | .p3 | .p4 => true

/-- The reader address of a reader: n for the primary of axis n, n + 12 for its check (R3). -/
def readerAddress (a : Axis) : ReaderRole → Nat
  | .primary => axisNumber a
  | .check => axisNumber a + 12

/-- A port's role number (R149). -/
def portNumber : Port → Nat
  | .roof => 1 | .pitch => 2 | .venue => 3

/-- The station whose role owns a mover: Roof the panels, Pitch the Tray (R154). -/
def ownerOf (m : Mover) : Port := if isPanel m then .roof else .pitch

/-- A brace's number as a subject (R165). -/
def braceNumber : Brace → Nat
  | .east => 1 | .west => 2

/-- The other brace. -/
def otherBrace : Brace → Brace
  | .east => .west | .west => .east

/-- The other anemometer. -/
def otherAnemometer : Anemometer → Anemometer
  | .first => .second | .second => .first

end Sys2Proof.Machine
end

