-- ==== Sys2Proof/Machine/Image.lean ====
section
/-! DEFINITION. The site image (chapter 1): its 456 entries, their keys and serial order, the default image, validation,
normalisation and the check value. -/

namespace Sys2Proof.Machine

/-- The thirteen general entries, section 1 of the image (R5). -/
structure General where
  readerTolerance : Int
  calibration : Int
  reducedThreshold : Int
  calmThreshold : Int
  limitMean : Int
  limitGust : Int
  releaseMean : Int
  releaseGust : Int
  releaseCount : Int
  braceFreeMean : Int
  braceFreeGust : Int
  silenceTimeout : Int
  braceTimeLimit : Int
deriving DecidableEq, Repr, Inhabited

/-- One zone slot of a path: end, ceiling and brace need (R2). -/
structure ZoneSlot where
  stop : Int
  ceiling : Int
  need : Int
deriving DecidableEq, Repr, Inhabited

/-- One path: its length, its zone count and its 64 zone slots (R2). -/
structure PathImage where
  length : Int
  zoneCount : Int
  slots : Vector ZoneSlot 64
deriving DecidableEq, Repr, Inhabited

/-- The eleven entries of one mover (R4). -/
structure MoverParams where
  length : Int
  deceleration : Int
  maxSpeed : Int
  stopMargin : Int
  bodyMargin : Int
  clipGap : Int
  tripStopTime : Int
  trimThreshold : Int
  trimWidth : Int
  skewAlarm : Int
  skewTrip : Int
deriving DecidableEq, Repr, Inhabited

/-- A complete site image (R1, R6). -/
structure Image where
  general : General
  runway : PathImage
  trayPath : PathImage
  movers : PerMover MoverParams
deriving DecidableEq, Repr, Inhabited

/-- The two paths (R2). -/
inductive Path where
  | runway | tray
deriving DecidableEq, Repr, Inhabited

/-- The path a mover travels (R2). -/
def pathOf (m : Mover) : Path := if isPanel m then .runway else .tray

/-- The movers of a path, in number order (R2). -/
def moversOn : Path → List Mover
  | .runway => panels
  | .tray => [.tray]

/-- The image's description of a path. -/
def Image.path (img : Image) : Path → PathImage
  | .runway => img.runway
  | .tray => img.trayPath

/-- The 64 slots of a path given by a function of the slot number. -/
def slotsOf (f : Nat → ZoneSlot) : Vector ZoneSlot 64 :=
  ⟨((List.range 64).map f).toArray, by simp⟩

/-- A zone slot; beyond the 64 slots, the empty slot. -/
def PathImage.slot (p : PathImage) (k : Nat) : ZoneSlot := (p.slots[k]?).getD ⟨0, 0, 0⟩

/-- The start of zone k: 0 for zone 0, else the end of zone k - 1 (R2). -/
def PathImage.start (p : PathImage) (k : Nat) : Int := if k = 0 then 0 else (p.slot (k - 1)).stop

/-- The default general entries (R5). -/
def defaultGeneral : General :=
  { readerTolerance := 30, calibration := 7, reducedThreshold := 100, calmThreshold := 95, limitMean := 150,
    limitGust := 200, releaseMean := 130, releaseGust := 180, releaseCount := 120, braceFreeMean := 90,
    braceFreeGust := 140, silenceTimeout := 1500, braceTimeLimit := 120 }

/-- The default runway: 36 zones of 10,000 mm, ceiling 200 to U18 and 120 from U19, need Engaged from U19 (R2). -/
def defaultRunway : PathImage where
  length := 360000
  zoneCount := 36
  slots := slotsOf fun k =>
    if k < 36 then ⟨(k + 1) * 10000, if k < 19 then 200 else 120, if k < 19 then 0 else 1⟩ else ⟨0, 0, 0⟩

/-- The default tray path: 25 zones of 10,000 mm, ceiling 40 for G12 and G13 and 80 elsewhere, need Withdrawn for G13
(R2). -/
def defaultTrayPath : PathImage where
  length := 250000
  zoneCount := 25
  slots := slotsOf fun k =>
    if k < 25 then ⟨(k + 1) * 10000, if k = 12 ∨ k = 13 then 40 else 80, if k = 13 then 2 else 0⟩ else ⟨0, 0, 0⟩

/-- The default entries of a panel (R4). -/
def defaultPanel : MoverParams :=
  { length := 40000, deceleration := 50, maxSpeed := 200, stopMargin := 300, bodyMargin := 500, clipGap := 2000,
    tripStopTime := 6, trimThreshold := 40, trimWidth := 200, skewAlarm := 150, skewTrip := 250 }

/-- The default entries of the Tray (R4). -/
def defaultTray : MoverParams :=
  { length := 100000, deceleration := 20, maxSpeed := 100, stopMargin := 500, bodyMargin := 500, clipGap := 0,
    tripStopTime := 10, trimThreshold := 30, trimWidth := 100, skewAlarm := 100, skewTrip := 150 }

/-- The default image, held permanently by CS (R1). -/
def defaultImage : Image where
  general := defaultGeneral
  runway := defaultRunway
  trayPath := defaultTrayPath
  movers := PerMover.ofFn fun m => if isPanel m then defaultPanel else defaultTray

/-- An entry key (R6). -/
structure Key where
  sect : Nat
  index : Nat
  item : Nat
deriving DecidableEq, Repr, Inhabited

/-- A general entry by its item number (R5). -/
def General.item (g : General) (n : Nat) : Option Int :=
  match n with
  | 1 => some g.readerTolerance
  | 2 => some g.calibration
  | 3 => some g.reducedThreshold
  | 4 => some g.calmThreshold
  | 5 => some g.limitMean
  | 6 => some g.limitGust
  | 7 => some g.releaseMean
  | 8 => some g.releaseGust
  | 9 => some g.releaseCount
  | 10 => some g.braceFreeMean
  | 11 => some g.braceFreeGust
  | 12 => some g.silenceTimeout
  | 13 => some g.braceTimeLimit
  | _ => none

/-- A general entry replaced. -/
def General.setItem (g : General) (n : Nat) (v : Int) : General :=
  match n with
  | 1 => { g with readerTolerance := v }
  | 2 => { g with calibration := v }
  | 3 => { g with reducedThreshold := v }
  | 4 => { g with calmThreshold := v }
  | 5 => { g with limitMean := v }
  | 6 => { g with limitGust := v }
  | 7 => { g with releaseMean := v }
  | 8 => { g with releaseGust := v }
  | 9 => { g with releaseCount := v }
  | 10 => { g with braceFreeMean := v }
  | 11 => { g with braceFreeGust := v }
  | 12 => { g with silenceTimeout := v }
  | 13 => { g with braceTimeLimit := v }
  | _ => g

/-- An entry of a mover by its item number (R4). -/
def MoverParams.item (p : MoverParams) (n : Nat) : Option Int :=
  match n with
  | 1 => some p.length
  | 2 => some p.deceleration
  | 3 => some p.maxSpeed
  | 4 => some p.stopMargin
  | 5 => some p.bodyMargin
  | 6 => some p.clipGap
  | 7 => some p.tripStopTime
  | 8 => some p.trimThreshold
  | 9 => some p.trimWidth
  | 10 => some p.skewAlarm
  | 11 => some p.skewTrip
  | _ => none

/-- An entry of a mover replaced. -/
def MoverParams.setItem (p : MoverParams) (n : Nat) (v : Int) : MoverParams :=
  match n with
  | 1 => { p with length := v }
  | 2 => { p with deceleration := v }
  | 3 => { p with maxSpeed := v }
  | 4 => { p with stopMargin := v }
  | 5 => { p with bodyMargin := v }
  | 6 => { p with clipGap := v }
  | 7 => { p with tripStopTime := v }
  | 8 => { p with trimThreshold := v }
  | 9 => { p with trimWidth := v }
  | 10 => { p with skewAlarm := v }
  | 11 => { p with skewTrip := v }
  | _ => p

/-- A path entry, length or zone count, by its item number (R6, sections 2 and 3). -/
def PathImage.item (p : PathImage) (n : Nat) : Option Int :=
  match n with
  | 1 => some p.length
  | 2 => some p.zoneCount
  | _ => none

/-- A path entry replaced. -/
def PathImage.setItem (p : PathImage) (n : Nat) (v : Int) : PathImage :=
  match n with
  | 1 => { p with length := v }
  | 2 => { p with zoneCount := v }
  | _ => p

/-- An entry of a slot by its item number (R6, sections 4 and 5). -/
def ZoneSlot.item (z : ZoneSlot) (n : Nat) : Option Int :=
  match n with
  | 1 => some z.stop
  | 2 => some z.ceiling
  | 3 => some z.need
  | _ => none

/-- An entry of a slot replaced. -/
def ZoneSlot.setItem (z : ZoneSlot) (n : Nat) (v : Int) : ZoneSlot :=
  match n with
  | 1 => { z with stop := v }
  | 2 => { z with ceiling := v }
  | 3 => { z with need := v }
  | _ => z

/-- An entry of a path's slot by slot and item number. -/
def PathImage.slotItem (p : PathImage) (k n : Nat) : Option Int :=
  match p.slots[k]? with
  | some z => z.item n
  | none => none

/-- An entry of a path's slot replaced. -/
def PathImage.setSlotItem (p : PathImage) (k n : Nat) (v : Int) : PathImage :=
  { p with slots := p.slots.setIfInBounds k ((p.slot k).setItem n v) }

/-- The value of the entry a key names; none where it names no entry (R6). -/
def Image.entry (img : Image) (k : Key) : Option Int :=
  match k.sect with
  | 1 => if k.index = 0 then img.general.item k.item else none
  | 2 => if k.index = 0 then img.runway.item k.item else none
  | 3 => if k.index = 0 then img.trayPath.item k.item else none
  | 4 => img.runway.slotItem k.index k.item
  | 5 => img.trayPath.slotItem k.index k.item
  | 6 =>
    match moverOfNumber k.index with
    | some m => (img.movers.get m).item k.item
    | none => none
  | _ => none

/-- The image with the entry a key names replaced; unchanged where it names none. -/
def Image.setEntry (img : Image) (k : Key) (v : Int) : Image :=
  match k.sect with
  | 1 => if k.index = 0 then { img with general := img.general.setItem k.item v } else img
  | 2 => if k.index = 0 then { img with runway := img.runway.setItem k.item v } else img
  | 3 => if k.index = 0 then { img with trayPath := img.trayPath.setItem k.item v } else img
  | 4 => { img with runway := img.runway.setSlotItem k.index k.item v }
  | 5 => { img with trayPath := img.trayPath.setSlotItem k.index k.item v }
  | 6 =>
    match moverOfNumber k.index with
    | some m => { img with movers := img.movers.modify m (·.setItem k.item v) }
    | none => img
  | _ => img

/-- Whether a key names an entry (R6). It does not depend on the image. -/
def Key.isEntry (k : Key) : Bool := (defaultImage.entry k).isSome

/-- The items 1 to n of one section and index. -/
def keyItems (sect index n : Nat) : List Key := (List.range n).map fun i => ⟨sect, index, i + 1⟩

/-- Every key of the image in serial order (R6). -/
def serialKeys : List Key :=
  keyItems 1 0 13 ++ keyItems 2 0 2 ++ keyItems 3 0 2
    ++ (List.range 64).flatMap (fun k => keyItems 4 k 3)
    ++ (List.range 64).flatMap (fun k => keyItems 5 k 3)
    ++ (List.range 5).flatMap (fun m => keyItems 6 (m + 1) 11)

/-- The value of an entry; 0 for a key that names none. -/
def Image.value (img : Image) (k : Key) : Int := (img.entry k).getD 0

/-- The image's bytes in serial order: 456 values of four bytes (R14). -/
def Image.bytes (img : Image) : List Byte := serialKeys.flatMap fun k => bytesOf 4 (img.value k)

/-- The check value of an image (R14). -/
def Image.checkValue (img : Image) : BitVec 32 := crc32 img.bytes

/-- Whether lo ≤ x ≤ hi. -/
def inRange (lo hi x : Int) : Bool := decide (lo ≤ x) && decide (x ≤ hi)

/-- The test of a general entry: its range, and the earlier entry R5 names (R10). -/
def generalOk (g : General) (n : Nat) : Bool :=
  match n with
  | 1 => inRange 5 200 g.readerTolerance
  | 2 => inRange 1 50 g.calibration
  | 3 => inRange 10 600 g.reducedThreshold
  | 4 => inRange 10 600 g.calmThreshold && decide (g.calmThreshold < g.reducedThreshold)
  | 5 => inRange 10 600 g.limitMean && decide (g.reducedThreshold < g.limitMean)
  | 6 => inRange 10 600 g.limitGust
  | 7 => inRange 10 600 g.releaseMean && decide (g.releaseMean < g.limitMean)
  | 8 => inRange 10 600 g.releaseGust && decide (g.releaseGust < g.limitGust)
  | 9 => inRange 10 600 g.releaseCount
  | 10 => inRange 10 600 g.braceFreeMean && decide (g.braceFreeMean < g.limitMean)
  | 11 => inRange 10 600 g.braceFreeGust && decide (g.braceFreeGust < g.limitGust)
  | 12 => inRange 500 5000 g.silenceTimeout
  | 13 => inRange 30 300 g.braceTimeLimit
  | _ => true

/-- The test of a path's zone slot: nothing at or beyond the zone count; else the zone length, the last zone's end, the
ceiling and the need (R10). -/
def slotOk (p : PathImage) (k n : Nat) : Bool :=
  if p.zoneCount ≤ k then true
  else
    match n with
    | 1 =>
      inRange 2000 50000 ((p.slot k).stop - p.start k)
        && (decide ((k : Int) + 1 ≠ p.zoneCount) || decide ((p.slot k).stop = p.length))
    | 2 => inRange 5 400 (p.slot k).ceiling
    | 3 => inRange 0 2 (p.slot k).need
    | _ => true

/-- The test of a mover's entry (R4, R10). -/
def moverOk (img : Image) (m : Mover) (n : Nat) : Bool :=
  let p := img.movers.get m
  match n with
  | 1 => inRange 10000 150000 p.length && decide (p.length < (img.path (pathOf m)).length)
  | 2 => inRange 5 200 p.deceleration
  | 3 => inRange 10 400 p.maxSpeed
  | 4 => inRange 100 2000 p.stopMargin
  | 5 => inRange 100 2000 p.bodyMargin
  | 6 => !isPanel m || inRange 500 10000 p.clipGap
  | 7 => inRange 2 30 p.tripStopTime
  | 8 => inRange 10 200 p.trimThreshold
  | 9 => inRange 50 500 p.trimWidth
  | 10 => decide (p.trimThreshold < p.skewAlarm)
  | 11 => decide (p.skewAlarm < p.skewTrip) && decide (p.trimThreshold + p.trimWidth ≤ p.skewTrip)
  | _ => true

/-- COMMIT's test of one entry, with the cross-constraints that refer to earlier entries (R10). -/
def entryOk (img : Image) (k : Key) : Bool :=
  match k.sect with
  | 1 => generalOk img.general k.item
  | 2 =>
    match k.item with
    | 1 => inRange 2000 400000 img.runway.length
    | _ => inRange 1 63 img.runway.zoneCount
  | 3 =>
    match k.item with
    | 1 => inRange 2000 400000 img.trayPath.length
    | _ => inRange 1 63 img.trayPath.zoneCount && decide (img.runway.zoneCount + img.trayPath.zoneCount ≤ 64)
  | 4 => slotOk img.runway k.index k.item
  | 5 => slotOk img.trayPath k.index k.item
  | 6 =>
    match moverOfNumber k.index with
    | some m => moverOk img m k.item
    | none => true
  | _ => true

/-- The first entry in serial order that fails its test; none where all pass (R10). -/
def firstFailing (img : Image) : Option Key := serialKeys.find? fun k => !entryOk img k

/-- A path's slots at or beyond its zone count set to 0 (R11). -/
def PathImage.normalise (p : PathImage) : PathImage :=
  { p with slots := slotsOf fun k => if p.zoneCount ≤ k then ⟨0, 0, 0⟩ else p.slot k }

/-- R11: the slots beyond the counts and the Tray's clip gap set to 0. -/
def Image.normalise (img : Image) : Image :=
  { img with
    runway := img.runway.normalise
    trayPath := img.trayPath.normalise
    movers := img.movers.modify .tray fun p => { p with clipGap := 0 } }

/-- An image from its values in serial order. -/
def imageOfSerial (f : Nat → Int) : Image where
  general := ⟨f 0, f 1, f 2, f 3, f 4, f 5, f 6, f 7, f 8, f 9, f 10, f 11, f 12⟩
  runway := ⟨f 13, f 14, slotsOf fun k => ⟨f (17 + 3 * k), f (18 + 3 * k), f (19 + 3 * k)⟩⟩
  trayPath := ⟨f 15, f 16, slotsOf fun k => ⟨f (209 + 3 * k), f (210 + 3 * k), f (211 + 3 * k)⟩⟩
  movers := PerMover.ofFn fun m =>
    let b := 401 + 11 * (moverNumber m - 1)
    ⟨f b, f (b + 1), f (b + 2), f (b + 3), f (b + 4), f (b + 5), f (b + 6), f (b + 7), f (b + 8), f (b + 9), f (b + 10)⟩

/-- The stored image with its stored check value (R1). -/
structure StoredImage where
  image : Image
  check : BitVec 32
deriving DecidableEq, Repr, Inhabited

/-- The check of the stored image against its stored check value (R14, R15). -/
def StoredImage.passes (st : StoredImage) : Bool := decide (st.image.checkValue = st.check)

/-- A value that is not 0: the value given, or 1 in place of 0. -/
def nonzero (x : BitVec 32) : BitVec 32 := if x = 0#32 then 1#32 else x

/-- A store whose check fails, as a failed or interrupted write leaves it (R13, R15): its contents and the error of its
check value are free values, read at the counter n (DESIGN CHOICE, log 6). -/
def tornStore (n : Nat) : StoredImage :=
  let img := imageOfSerial (Config.tornEntry n)
  ⟨img, img.checkValue ^^^ nonzero (Config.tornCheckError n)⟩

/-- The store of a delivered part: R16 gives only that its check fails (DESIGN CHOICE, log 7). -/
def deliveredStore : StoredImage := ⟨defaultImage, defaultImage.checkValue ^^^ 1#32⟩

end Sys2Proof.Machine
end

