-- ==== Sys2Proof/Machine/Records.lean ====
section
/-! DEFINITION. The records each block keeps, with their values after a reset (R34, R58, R60, R81, R110, R126, R134, R147,
R161, R166), and the hand-overs between blocks. -/

namespace Sys2Proof.Machine

/-! ## Position Unit (section 2.2) -/

/-- The status of a good reading (R18). -/
inductive GoodStatus where
  | ok | warn
deriving DecidableEq, Repr, Inhabited

/-- A reader record. `gapRunning` is the gap timer: running, or expired (R19). -/
structure ReaderRec where
  lastSequence : Option Byte
  lastPosition : Option Int
  lastStatus : Option GoodStatus
  warnRun : Bool
  gapRunning : Bool
deriving DecidableEq, Repr, Inhabited

/-- R34. -/
def ReaderRec.initial : ReaderRec := ⟨none, none, none, false, false⟩

/-- The validity states (R20 to R24). -/
inductive Validity where
  | unknown | valid | substituted | holding | invalid
deriving DecidableEq, Repr, Inhabited

/-- An entry of a reading window (R25). -/
structure WindowEntry where
  position : Int
  sequence : Byte
deriving DecidableEq, Repr, Inhabited

/-- An axis record. The window is oldest first; the standstill flag follows the count (R27); `lossRunning` is the loss
timer: running, or expired (R19). -/
structure AxisRec where
  validity : Validity
  position : Option Int
  speed : Int
  window : List WindowEntry
  source : Option ReaderRole
  standstillCount : Nat
  freshCheck : Bool
  discrepancies : Nat
  recovery : Nat
  lossRunning : Bool
deriving DecidableEq, Repr, Inhabited

/-- R34. -/
def AxisRec.initial : AxisRec := ⟨.unknown, none, 0, [], none, 0, false, 0, 0, false⟩

/-- The standstill flag: yes while the count is 5 (R27). -/
def AxisRec.standstill (r : AxisRec) : Bool := r.standstillCount == 5

/-- A body extent, both ends included (R30). -/
structure Extent where
  low : Int
  high : Int
deriving DecidableEq, Repr, Inhabited

/-- POS's record of a mover (R27, R30 to R32). -/
structure PosMover where
  body : Option Extent
  lead : Option Int
  furthest : Option Int
  speed : Int
  standstill : Bool
deriving DecidableEq, Repr, Inhabited

/-- R34. -/
def PosMover.initial : PosMover := ⟨none, none, none, 0, false⟩

/-- What POS holds. -/
structure Pos where
  primary : PerAxis ReaderRec
  check : PerAxis ReaderRec
  axes : PerAxis AxisRec
  movers : PerMover PosMover
deriving DecidableEq, Repr, Inhabited

/-- R34. -/
def Pos.initial : Pos where
  primary := .ofFn fun _ => .initial
  check := .ofFn fun _ => .initial
  axes := .ofFn fun _ => .initial
  movers := .ofFn fun _ => .initial

/-! ## Zone Table (R35) -/

/-- The brace state a zone requires (R2). -/
inductive BraceNeed where
  | nothing | engaged | withdrawn
deriving DecidableEq, Repr, Inhabited

/-- A zone's barrier (R35). -/
inductive Barrier where
  | opened | pending | closed
deriving DecidableEq, Repr, Inhabited

/-- A zone record; its number and path are its place in the table (R35). -/
structure ZoneRec where
  start : Int
  stop : Int
  ceiling : Int
  need : BraceNeed
  holder : Option Mover
  resting : List Mover
  clearingFor : Option Mover
  barrier : Barrier
  waiting : List Mover
deriving DecidableEq, Repr, Inhabited

/-- What ZT holds: the records of each path in zone order, and the body extents as ZT last took them (log 13). -/
structure ZoneTable where
  runway : List ZoneRec
  tray : List ZoneRec
  body : PerMover (Option Extent)
deriving DecidableEq, Repr, Inhabited

/-- The brace need of an image value (R2). -/
def needOfValue (v : Int) : BraceNeed := if v = 1 then .engaged else if v = 2 then .withdrawn else .nothing

/-- The record of zone k of a path, its dynamic fields empty and its barrier Open (R58). -/
def freshZone (p : PathImage) (k : Nat) : ZoneRec where
  start := p.start k
  stop := (p.slot k).stop
  ceiling := (p.slot k).ceiling
  need := needOfValue (p.slot k).need
  holder := none
  resting := []
  clearingFor := none
  barrier := .opened
  waiting := []

/-- The records of a path, as many as its zone count (R35). -/
def freshZones (p : PathImage) : List ZoneRec := (List.range p.zoneCount.toNat).map (freshZone p)

/-- The zone table built from an image at a reset (R58). -/
def ZoneTable.initial (img : Image) : ZoneTable :=
  ⟨freshZones img.runway, freshZones img.trayPath, .ofFn fun _ => none⟩

/-! ## Authority and Supervision Unit (R60, R81) -/

/-- A direction of travel: +1 south, -1 north (00_scope.md). -/
inductive Direction where
  | south | north
deriving DecidableEq, Repr, Inhabited

/-- The direction as +1 or -1. -/
def Direction.sign : Direction → Int
  | .south => 1
  | .north => -1

/-- A cap descent: its from-cap, to-cap and descent point (R72). -/
structure CapDescent where
  fromCap : Int
  toCap : Int
  point : Int
deriving DecidableEq, Repr, Inhabited

/-- An authority record (R60). -/
structure Authority where
  direction : Option Direction
  authorityEnd : Option Int
  stopTarget : Option Int
  source : Option Port
  targetCap : Int
  capInUse : Int
  descent : Option CapDescent
  untrimmed : Int
  overspeedOpen : Bool
deriving DecidableEq, Repr, Inhabited

/-- R60. -/
def Authority.initial : Authority := ⟨none, none, none, none, 0, 0, none, 0, false⟩

/-- A ceiling record (R60). -/
structure CeilingRec where
  ceiling : Int
  overMark : Bool
  overCount : Nat
deriving DecidableEq, Repr, Inhabited

/-- R60. -/
def CeilingRec.initial : CeilingRec := ⟨0, false, 0⟩

/-- A skew record (R81). -/
structure SkewRec where
  lastSpread : Option Int
  alarmOpen : Bool
  tripOpen : Bool
deriving DecidableEq, Repr, Inhabited

/-- R81. -/
def SkewRec.initial : SkewRec := ⟨none, false, false⟩

/-- What ASU holds. -/
structure Asu where
  authority : PerMover Authority
  ceilings : PerAxis CeilingRec
  skew : PerMover SkewRec
deriving DecidableEq, Repr, Inhabited

/-- R60, R81. -/
def Asu.initial : Asu := ⟨.ofFn fun _ => .initial, .ofFn fun _ => .initial, .ofFn fun _ => .initial⟩

/-! ## Mover State Unit (R93) -/

/-- The mover states, in the order of their numbers (R159). -/
inductive MoverState where
  | parked | permitted | stopping | tripped | halted
deriving DecidableEq, Repr, Inhabited

/-- The causes and the faults carried as causes, in the order of their numbers (R160). -/
inductive Cause where
  | safetyLoop | driveTrip | overspeed | overrun | rollback | uncommandedMotion | skewTrip
  | readerLoss | readerDiscrepancy | braceLost | linkSilence | windLimit | stopRequest | permitsOff
  | disarm | venueSilence | device | brakeFault | relayStuck | braceStalled
deriving DecidableEq, Repr, Inhabited

/-- A stop end (R93). -/
inductive StopEnd where
  | parked | halted
deriving DecidableEq, Repr, Inhabited

/-- A timer with a configured duration: stopped, running with the duration it was started with, or expired. -/
inductive Timer where
  | stopped
  | running (duration : Int)
  | expired
deriving DecidableEq, Repr, Inhabited

/-- Whether a timer is running. -/
def Timer.isRunning : Timer → Bool
  | .running _ => true
  | .stopped | .expired => false

/-- A mover record (R93). The relay command and readback are true for closed; the trip timer runs in ms. -/
structure MoverRec where
  state : MoverState
  stopCause : Option Cause
  stopEnd : Option StopEnd
  haltCauses : List Cause
  parkedPosition : Option Int
  uncommandedOpen : Bool
  tripTimer : Timer
  relayClosed : Bool
  readbackClosed : Bool
  readbackTimer : Bool
deriving DecidableEq, Repr, Inhabited

/-- R110: the readback is as the contact shows. -/
def MoverRec.initial (contactClosed : Bool) : MoverRec :=
  ⟨.parked, none, none, [], none, false, .stopped, false, contactClosed, false⟩

/-! ## Brace Controller (R112) -/

/-- The brace states. -/
inductive BraceState where
  | unknown | withdrawn | engaged | engaging | withdrawing | stalled
deriving DecidableEq, Repr, Inhabited

/-- A switch reading. Conflict is treated as Between for every purpose (R112). -/
inductive SwitchReading where
  | engaged | withdrawn | between | conflict
deriving DecidableEq, Repr, Inhabited

/-- A direction of operation (R112). -/
inductive BraceDirection where
  | engage | withdraw
deriving DecidableEq, Repr, Inhabited

/-- A brace record with its two end switches, true for closed; the timer runs in seconds (R112). -/
structure BraceRec where
  state : BraceState
  engageOutput : Bool
  withdrawOutput : Bool
  timer : Timer
  engagedSwitch : Bool
  withdrawnSwitch : Bool
deriving DecidableEq, Repr, Inhabited

/-- The switch reading the two end switches give (R112). -/
def BraceRec.reading (b : BraceRec) : SwitchReading :=
  match b.engagedSwitch, b.withdrawnSwitch with
  | true, false => .engaged
  | false, true => .withdrawn
  | false, false => .between
  | true, true => .conflict

/-- The state a brace with a given switch reading has when nothing else is known of it (R113, R120, R126). -/
def stateOfReading : SwitchReading → BraceState
  | .engaged => .engaged
  | .withdrawn => .withdrawn
  | .between | .conflict => .unknown

/-- R126, with the switches as they stand. -/
def BraceRec.initial (engagedSwitch withdrawnSwitch : Bool) : BraceRec :=
  let b : BraceRec := ⟨.unknown, false, false, .stopped, engagedSwitch, withdrawnSwitch⟩
  { b with state := stateOfReading b.reading }

/-- What BRC holds (R112). -/
structure Brc where
  braces : PerBrace BraceRec
  operation : Option BraceDirection
  startPending : Bool
  demand : Bool
deriving DecidableEq, Repr, Inhabited

/-! ## Wind Monitor (R127) -/

/-- The wind states, in the order of their numbers (R132). -/
inductive WindState where
  | unknown | calm | reduced | limit
deriving DecidableEq, Repr, Inhabited

/-- What WM keeps for each anemometer. -/
structure AnemometerRec where
  count : Nat
  value : Int
  stuck : Nat
  failed : Bool
deriving DecidableEq, Repr, Inhabited

/-- What WM holds. The history is oldest first. -/
structure Wm where
  anemometers : PerAnemometer AnemometerRec
  history : List Int
  mean : Int
  gust : Int
  state : WindState
  calmCount : Nat
deriving DecidableEq, Repr, Inhabited

/-- R134. -/
def Wm.initial : Wm := ⟨.ofFn fun _ => ⟨0, 0, 0, false⟩, [], 0, 0, .unknown, 0⟩

/-! ## Safety Line Unit (R143 to R146) -/

/-- A filtered line: its raw level, its filtered state and its 8 ms filter timer. For a loop channel true is closed; for
a drive-trip input true is active. -/
structure FilteredLine where
  raw : Bool
  filtered : Bool
  timer : Bool
deriving DecidableEq, Repr, Inhabited

/-- The loop state (R143). -/
inductive LoopState where
  | closed | discrepant | opened
deriving DecidableEq, Repr, Inhabited

/-- What SLU holds. `heldInReset` is yes from a line reset until the line's release (R146). -/
structure Slu where
  channels : PerChannel FilteredLine
  loop : LoopState
  discrepancyTimer : Bool
  trips : PerMover FilteredLine
  resetAsserted : Bool
  resetFilter : Bool
  heldInReset : Bool
deriving DecidableEq, Repr, Inhabited

/-- A line at its raw level, its filter stopped (R143, R145). -/
def FilteredLine.settled (l : FilteredLine) : FilteredLine := ⟨l.raw, l.raw, false⟩

/-! ## Device State Unit (R136) -/

/-- The device states, in the order of their numbers. -/
inductive DeviceState where
  | unconfigured | configuring | standby | arming | armed | disarming | locked
deriving DecidableEq, Repr, Inhabited

/-- A phase of the relay test (R138). -/
inductive Phase where
  | close | open
deriving DecidableEq, Repr, Inhabited

/-- The reset cause flags (R136). -/
structure ResetFlags where
  power : Bool
  line : Bool
  command : Bool
  fromLocked : Bool
deriving DecidableEq, Repr, Inhabited

/-- What DSU holds. The check token is true for 1; the arming step is the relay under test and its phase. -/
structure Dsu where
  state : DeviceState
  armingStep : Option (Mover × Phase)
  stepTimer : Bool
  token : Bool
  permits : Bool
  flags : ResetFlags
deriving DecidableEq, Repr, Inhabited

/-! ## Station Port Unit (chapter 10) -/

/-- A receiver: Hunting, or Receiving with the bytes taken since the start byte. The frame timer runs exactly in
Receiving (R149). -/
inductive Receiver where
  | hunting
  | receiving (taken : List Byte)
deriving DecidableEq, Repr, Inhabited

/-- A queued request (R151). -/
structure Request where
  tag : Byte
  code : Byte
  body : List Byte
deriving DecidableEq, Repr, Inhabited

/-- What a frame of a reply output answers: a served request, a frame that found the queue full (R151), or an accepted
RESET (R148). -/
inductive ReplyKind where
  | served | busy | resetAccepted
deriving DecidableEq, Repr, Inhabited

/-- A frame of a reply output (R152). -/
structure ReplyFrame where
  kind : ReplyKind
  role : Port
  tag : Byte
  code : Byte
  body : List Byte
deriving DecidableEq, Repr, Inhabited

/-- A link state (R157). -/
inductive LinkState where
  | unknown | live | silent
deriving DecidableEq, Repr, Inhabited

/-- What SPU keeps for each port. `complete` are frames received whole and not yet tested; the silence timer runs in
ms. -/
structure PortRec where
  receiver : Receiver
  complete : List (List Byte)
  queue : List Request
  output : List ReplyFrame
  link : LinkState
  silence : Timer
  mask : Nat
deriving DecidableEq, Repr, Inhabited

/-- R161. -/
def PortRec.initial : PortRec := ⟨.hunting, [], [], [], .unknown, .stopped, 0⟩

/-- The request handler: free; stopped by an accepted RESET; or with that RESET's reply gone out, so that the commanded
reset is due (R148). -/
inductive Handler where
  | free | resetAccepted | resetDue
deriving DecidableEq, Repr, Inhabited

/-- What SPU holds. -/
structure Spu where
  ports : PerPort PortRec
  lastGranted : Port
  handler : Handler
deriving DecidableEq, Repr, Inhabited

/-- R161. -/
def Spu.initial : Spu := ⟨.ofFn fun _ => .initial, .venue, .free⟩

/-! ## Notice Unit (chapter 11) -/

/-- The notice kinds, in the order of their numbers (R162). -/
inductive NoticeKind where
  | restarted | deviceState | moverStopped | moverParked | zoneFreed | braceDone | braceStalled | braceDemand
  | windState | skewAlarm | overspeedWarning | readerDegraded | linkSilent | armingFailed | eStop | locked
deriving DecidableEq, Repr, Inhabited

/-- A notice's subject (R162). -/
inductive Subject where
  | absent
  | mover (m : Mover)
  | zone (path : Path) (number : Nat)
  | brace (b : Brace)
  | station (p : Port)
deriving DecidableEq, Repr, Inhabited

/-- A notice (R162). -/
structure Notice where
  kind : NoticeKind
  severity : Nat
  subject : Subject
  value : Int
deriving DecidableEq, Repr, Inhabited

/-- A station's notice queue, oldest first, its overflow flag and its attention line (R164, R165). -/
structure NoticeQueue where
  queue : List Notice
  overflow : Bool
  attention : Bool
deriving DecidableEq, Repr, Inhabited

/-- The reset cause flags as the value of RESTARTED (R162). -/
def ResetFlags.value (f : ResetFlags) : Int :=
  (if f.power then 1 else 0) + (if f.line then 2 else 0) + (if f.command then 4 else 0)
    + (if f.fromLocked then 8 else 0)

/-- A station's queue once a reset has ended: the one RESTARTED notice, and the attention line asserted (R166). -/
def NoticeQueue.restarted (f : ResetFlags) : NoticeQueue :=
  ⟨[⟨.restarted, 6, .absent, f.value⟩], false, true⟩

/-- A station's queue while a line reset is held: empty, and the attention line released (R166). -/
def NoticeQueue.cleared : NoticeQueue := ⟨[], false, false⟩

/-! ## Fault Record (R167) -/

/-- The data of a hand-over that the fault record keeps, each absent where the raising rule does not supply it (R33,
R78, R88, R106, R119, R122, R167). -/
structure RecordedData where
  axis : Option Axis
  brace : Option Brace
  source : Option Port
  lead : Option Int
  primary : Option Int
  check : Option Int
  speed : Option Int
  axisCeiling : Option Int
  authorityEnd : Option Int
deriving DecidableEq, Repr, Inhabited

/-- The data a cause carries: what the fault record keeps, and besides the parked position of UNCOMMANDED MOTION (R106),
the brace states, East first, and the wind mean and gust of a stall (R119), the state a brace has lost (R122), and the
discrepancy mark of SAFETY LOOP (R144). -/
structure CauseData extends RecordedData where
  parked : Option Int
  braceStates : Option (BraceState × BraceState)
  wind : Option (Int × Int)
  lost : Option BraceState
  discrepancyMark : Bool
deriving DecidableEq, Repr, Inhabited

/-- No data. -/
def CauseData.nothing : CauseData where
  axis := none
  brace := none
  source := none
  lead := none
  primary := none
  check := none
  speed := none
  axisCeiling := none
  authorityEnd := none
  parked := none
  braceStates := none
  wind := none
  lost := none
  discrepancyMark := false

/-- The captured record (R167). -/
structure Captured where
  cause : Cause
  deviceState : DeviceState
  mover : Option Mover
  moverState : Option MoverState
  data : RecordedData
  windMean : Int
  gust : Int
  east : BraceState
  west : BraceState
deriving DecidableEq, Repr, Inhabited

/-- An entry of the cause summary (R167). -/
structure SummaryEntry where
  cause : Cause
  repeated : Bool
deriving DecidableEq, Repr, Inhabited

/-- What FR holds. -/
structure Fr where
  record : Option Captured
  summary : List SummaryEntry
deriving DecidableEq, Repr, Inhabited

/-- R168. -/
def Fr.initial : Fr := ⟨none, []⟩

/-! ## Configuration Store (R1) -/

/-- A commit in flight: the COMMIT's tag, and the check value computed at the start of the write (R11, R152). -/
structure CommitRec where
  tag : Byte
  check : BitVec 32
deriving DecidableEq, Repr, Inhabited

/-- What CS holds. `valid` is the image status. -/
structure Cs where
  stored : StoredImage
  valid : Bool
  active : Image
  working : Option Image
  commit : Option CommitRec
deriving DecidableEq, Repr, Inhabited

/-! ## Hand-overs in flight (log 1) -/

/-- What a position update carries of one axis (R33). -/
structure AxisSnapshot where
  axis : Axis
  position : Option Int
  speed : Int
  validity : Validity
  standstill : Bool
deriving DecidableEq, Repr, Inhabited

/-- A position update (R33). -/
structure PositionUpdate where
  mover : Mover
  axis : Axis
  first : Bool
  axes : List AxisSnapshot
  body : Option Extent
  lead : Option Int
  furthest : Option Int
  speed : Int
  standstill : Bool
deriving DecidableEq, Repr, Inhabited

/-- A validity change (R33). -/
structure ValidityChange where
  axis : Axis
  before : Validity
  after : Validity
deriving DecidableEq, Repr, Inhabited

/-- The scope a cause is handed over with (R95). -/
inductive Scope where
  | all
  | panels
  | role (p : Port)
  | one (m : Mover)
  | named (ms : List Mover)
deriving DecidableEq, Repr, Inhabited

/-- A cause on its way to MSU (R94). -/
structure CauseMessage where
  cause : Cause
  scope : Scope
  data : CauseData
deriving DecidableEq, Repr, Inhabited

/-- A change of device state (R136). -/
structure DeviceChange where
  before : DeviceState
  after : DeviceState
deriving DecidableEq, Repr, Inhabited

/-- What makes BRC cut an operation short (R121). -/
inductive CutEvent where
  | leftArmed | loopOpening
deriving DecidableEq, Repr, Inhabited

/-- An event on which BRC tests the demand condition (R123), with what its rule hands over: a closure the mean, the gust
and the wind state (R132), a body change the position update (R33). -/
inductive DemandEvent where
  | closure (mean gust : Int) (wind : WindState)
  | braceChange
  | bodyChange (u : PositionUpdate)
  | holdReport
  | deviceChange
  | commit
deriving DecidableEq, Repr, Inhabited

/-- The source of such an event (R123). -/
def DemandEvent.source : DemandEvent → DemandSource
  | .closure _ _ _ => .closure
  | .braceChange => .braceChange
  | .bodyChange u => .bodyChange u.mover
  | .holdReport => .holdReport
  | .deviceChange => .deviceChange
  | .commit => .commit

/-- A change of mover state on its way to DSU (R140). -/
structure MoverChange where
  mover : Mover
  state : MoverState
deriving DecidableEq, Repr, Inhabited

/-- A posted notice on its way to NU, with the block that posted it and its route (R162). -/
structure Posting where
  source : Block
  route : List Port
  notice : Notice
deriving DecidableEq, Repr, Inhabited

/-- A cause on its way to FR (R94, R101, R104, R119, R138). -/
structure FaultMessage where
  cause : Cause
  deviceState : Option DeviceState
  mover : Option Mover
  moverState : Option MoverState
  data : CauseData
deriving DecidableEq, Repr, Inhabited

/-- Every hand-over in flight, each list oldest first. -/
structure Handovers where
  toZt : List PositionUpdate
  toAsu : List PositionUpdate
  toMsu : List PositionUpdate
  validity : List ValidityChange
  causes : List CauseMessage
  consumed : List Mover
  deviceChanges : List DeviceChange
  cuts : List CutEvent
  demandEvents : List DemandEvent
  moverChanges : List MoverChange
  switchLosses : List Brace
  postings : List Posting
  faults : List FaultMessage
deriving DecidableEq, Repr, Inhabited

/-- Nothing in flight. -/
def Handovers.none : Handovers := ⟨[], [], [], [], [], [], [], [], [], [], [], [], []⟩

end Sys2Proof.Machine
end

