-- ==== Sys2Proof/Machine/State.lean ====
section
/-! DEFINITION. The state of the part, its fault and refusal reasons, and the state after reset. -/

namespace Sys2Proof.Machine

/-- Why a step stops with a fault. The spec stops the machine on nothing: every event has an effect or none, and what it
calls faults are effects on the state (log 30). So there is no reason. -/
inductive Fault where
deriving DecidableEq, Repr

/-- Why a command is refused. -/
inductive Refusal where
  /-- Raised by `exec` for a command that has no meaning in the model yet; safe. No arm raises it now. -/
  | notModelled (mnemonic : String)
deriving DecidableEq, Repr

/-- The state: one field for each block of 00_scope.md, and the model's own: the hand-overs in flight between blocks
(log 1), the counter of free values (log 5, log 6) and the queue of waiting commands (log 3). -/
structure State where
  cs : Cs
  pos : Pos
  zt : ZoneTable
  asu : Asu
  msu : PerMover MoverRec
  brc : Brc
  wm : Wm
  slu : Slu
  dsu : Dsu
  spu : Spu
  nu : PerPort NoticeQueue
  fr : Fr
  hand : Handovers
  freeCount : Nat
  pending : List Instr
deriving DecidableEq, Repr

/-- The part of a delivered unit right after its first power-on reset (R16, R147): Unconfigured, on the default image.
The input levels are those of log 8, the store that of log 7. -/
def State.reset : State where
  cs := ⟨deliveredStore, false, defaultImage, none, none⟩
  pos := .initial
  zt := .initial defaultImage
  asu := .initial
  msu := .ofFn fun _ => .initial false
  brc := ⟨.ofFn fun _ => .initial false false, none, false, false⟩
  wm := .initial
  slu := ⟨.ofFn fun _ => ⟨true, true, false⟩, .closed, false, .ofFn fun _ => ⟨false, false, false⟩, false, false, false⟩
  dsu := ⟨.unconfigured, none, false, false, true, ⟨true, false, false, false⟩⟩
  spu := .initial
  nu := .ofFn fun _ => .restarted ⟨true, false, false, false⟩
  fr := .initial
  hand := .none
  freeCount := 0
  pending := []

end Sys2Proof.Machine
end

