-- ==== Sys2Proof/Machine/Flags.lean ====
section
/-! DEFINITION. The numbers, flag bytes and classes the manual fixes for its states, causes and notices. -/

namespace Sys2Proof.Machine

/-- R136. -/
def deviceStateNumber : DeviceState → Nat
  | .unconfigured => 0 | .configuring => 1 | .standby => 2 | .arming => 3 | .armed => 4 | .disarming => 5 | .locked => 6

/-- R159. -/
def moverStateNumber : MoverState → Nat
  | .parked => 0 | .permitted => 1 | .stopping => 2 | .tripped => 3 | .halted => 4

/-- R159. -/
def validityNumber : Validity → Nat
  | .unknown => 0 | .valid => 1 | .substituted => 2 | .holding => 3 | .invalid => 4

/-- R159. -/
def braceStateNumber : BraceState → Nat
  | .unknown => 0 | .withdrawn => 1 | .engaged => 2 | .engaging => 3 | .withdrawing => 4 | .stalled => 5

/-- R159. -/
def linkStateNumber : LinkState → Nat
  | .unknown => 0 | .live => 1 | .silent => 2

/-- R132. -/
def windStateNumber : WindState → Nat
  | .unknown => 0 | .calm => 1 | .reduced => 2 | .limit => 3

/-- R160. -/
def causeNumber : Cause → Nat
  | .safetyLoop => 1 | .driveTrip => 2 | .overspeed => 3 | .overrun => 4 | .rollback => 5 | .uncommandedMotion => 6
  | .skewTrip => 7 | .readerLoss => 8 | .readerDiscrepancy => 9 | .braceLost => 10 | .linkSilence => 11 | .windLimit => 12
  | .stopRequest => 13 | .permitsOff => 14 | .disarm => 15 | .venueSilence => 16 | .device => 17 | .brakeFault => 18
  | .relayStuck => 19 | .braceStalled => 20

/-- R162. -/
def noticeKindNumber : NoticeKind → Nat
  | .restarted => 1 | .deviceState => 2 | .moverStopped => 3 | .moverParked => 4 | .zoneFreed => 5 | .braceDone => 6
  | .braceStalled => 7 | .braceDemand => 8 | .windState => 9 | .skewAlarm => 10 | .overspeedWarning => 11
  | .readerDegraded => 12 | .linkSilent => 13 | .armingFailed => 14 | .eStop => 15 | .locked => 16

/-- An operation's direction as BRACE and BRACE DONE carry it: 1 engage, 2 withdraw (R114, R118). -/
def braceDirectionNumber : BraceDirection → Nat
  | .engage => 1 | .withdraw => 2

/-- A good reading's status; 0 for none (R160). -/
def goodStatusNumber : Option GoodStatus → Nat
  | none => 0 | some .ok => 1 | some .warn => 2

/-- A stop end; 0 for none (R160). -/
def stopEndNumber : Option StopEnd → Nat
  | none => 0 | some .parked => 1 | some .halted => 2

/-- A role; 0 for none (R160). -/
def sourceNumber : Option Port → Nat
  | none => 0 | some p => portNumber p

/-- A recorded direction as +1, -1, or 0 for none (R80). -/
def directionValue : Option Direction → Int
  | none => 0 | some d => d.sign

/-- The class of a cause (R95). The four names that are no cause of the cause table have none. -/
inductive CauseClass where
  | immediate | controlled | hold
deriving DecidableEq, Repr

/-- R95. -/
def causeClass : Cause → Option CauseClass
  | .safetyLoop | .driveTrip | .overspeed | .overrun | .rollback | .uncommandedMotion | .skewTrip | .readerLoss
  | .readerDiscrepancy | .braceLost => some .immediate
  | .linkSilence | .windLimit | .stopRequest | .permitsOff | .disarm => some .controlled
  | .venueSilence => some .hold
  | .device | .brakeFault | .relayStuck | .braceStalled => none

/-- Whether a cause's end is Halted (R95). -/
def isHalting (c : Cause) : Bool := causeClass c == some .immediate || c == .linkSilence

/-- The end of a controlled cause (R95). -/
def endOfCause (c : Cause) : StopEnd := if isHalting c then .halted else .parked

/-- The causes FR records (R167). -/
def isRecorded (c : Cause) : Bool :=
  causeClass c == some .immediate || c == .linkSilence || c == .venueSilence || c == .braceStalled || c == .brakeFault
    || c == .relayStuck

/-- A flag at a bit position of a byte. -/
def bitIf (b : Bool) (k : Nat) : Nat := if b then 2 ^ k else 0

/-- The flags byte of STATUS (R159, offset 1). -/
def statusFlags (d : Dsu) (demand overflow : Bool) : Nat :=
  bitIf d.token 0 + bitIf d.permits 1 + bitIf demand 2 + bitIf overflow 3
    + bitIf d.flags.power 4 + bitIf d.flags.line 5 + bitIf d.flags.command 6 + bitIf d.flags.fromLocked 7

/-- The presence byte of FAULT READ (R168, offset 8). -/
def presenceByte (d : RecordedData) : Nat :=
  bitIf d.lead.isSome 0 + bitIf d.primary.isSome 1 + bitIf d.check.isSome 2 + bitIf d.speed.isSome 3
    + bitIf d.axisCeiling.isSome 4 + bitIf d.authorityEnd.isSome 5

/-- Whether a mover state is at rest for the Zone Table: Parked or Halted (R37). -/
def MoverState.atRest : MoverState → Bool
  | .parked | .halted => true
  | .permitted | .stopping | .tripped => false

/-- Whether a mover state has authority: Permitted or Stopping (R93). -/
def MoverState.hasAuthority : MoverState → Bool
  | .permitted | .stopping => true
  | .parked | .tripped | .halted => false

/-- Whether a brace state is known: Engaged or Withdrawn (R112). -/
def BraceState.isKnown : BraceState → Bool
  | .engaged | .withdrawn => true
  | .unknown | .engaging | .withdrawing | .stalled => false

/-- Whether the wind keeps panels from moving: Limit, or Unknown, which is treated as Limit (R131). -/
def WindState.barsPanels : WindState → Bool
  | .limit | .unknown => true
  | .calm | .reduced => false

/-- Whether a device state is Arming, Armed or Disarming, where loop openings and faults act (R142, R144). -/
def DeviceState.isActive : DeviceState → Bool
  | .arming | .armed | .disarming => true
  | .unconfigured | .configuring | .standby | .locked => false

end Sys2Proof.Machine
end

