-- ==== Sys2Proof/Machine/Operands.lean ====
section
/-! DEFINITION. What a request frame's code and body say and what a reply's carry: the request table (R154), the outcome
numbers (R155), and the subject and notice fields (R165). -/

namespace Sys2Proof.Machine

/-- The request codes of the table in R154. -/
inductive RequestCode where
  | status | notice | mask | reserve | release | move | stop | clear | brace | braceClear | barrier
  | permits | arm | standby | reset | faultRead | faultClear | configRead | configWrite | commit
deriving DecidableEq, Repr, Inhabited

/-- The request a code byte names (R154). -/
def codeOfByte (b : Byte) : Option RequestCode :=
  match b.toNat with
  | 0x01 => some .status | 0x02 => some .notice | 0x03 => some .mask
  | 0x10 => some .reserve | 0x11 => some .release | 0x12 => some .move | 0x13 => some .stop | 0x14 => some .clear
  | 0x20 => some .brace | 0x21 => some .braceClear | 0x22 => some .barrier
  | 0x30 => some .permits | 0x31 => some .arm | 0x32 => some .standby | 0x33 => some .reset
  | 0x40 => some .faultRead | 0x41 => some .faultClear
  | 0x50 => some .configRead | 0x51 => some .configWrite | 0x52 => some .commit
  | _ => none

/-- The body lengths the table gives a request (R154). -/
def bodyLengthOk (c : RequestCode) (n : Nat) : Bool :=
  match c with
  | .status => n == 1 || n == 2
  | .notice | .arm | .standby | .reset | .faultRead | .faultClear | .commit => n == 0
  | .mask | .stop | .clear | .brace | .braceClear | .permits => n == 1
  | .reserve | .release => n == 3
  | .barrier => n == 4
  | .configRead => n == 5
  | .move => n == 6
  | .configWrite => n == 7

/-- Whether a port's role may send a request (R154). -/
def roleMaySend (c : RequestCode) (p : Port) : Bool :=
  match c with
  | .status | .notice | .mask | .reserve | .release | .move | .stop | .clear | .brace => true
  | .braceClear | .barrier | .permits | .arm | .standby | .reset | .faultRead | .faultClear | .configRead | .configWrite
  | .commit => p == .venue

/-- The requests served in Locked (R142, R154). -/
def servedInLocked (c : RequestCode) : Bool :=
  c == .status || c == .notice || c == .faultRead || c == .mask

/-- The requests held at the head of their port during Arming (R139, R153). -/
def heldInArming (c : RequestCode) : Bool :=
  c == .move || c == .reserve || c == .brace || c == .braceClear

/-- The requests that name a mover and take the owner check (R154). -/
def namesMover (c : RequestCode) : Bool :=
  c == .reserve || c == .release || c == .move || c == .stop || c == .clear

/-- The byte of a body at an offset; 0 beyond its end. -/
def byteAt (body : List Byte) (i : Nat) : Byte := (body[i]?).getD 0

/-- The unsigned byte field at an offset. -/
def fieldAt (body : List Byte) (i : Nat) : Nat := (byteAt body i).toNat

/-- The four-byte signed field at an offset (R149). -/
def int32At (body : List Byte) (i : Nat) : Int := int32OfBytes ((body.drop i).take 4)

/-- The key field at an offset (R156). -/
def keyAt (body : List Byte) (i : Nat) : Key := ⟨fieldAt body i, fieldAt body (i + 1), fieldAt body (i + 2)⟩

/-- The direction a signed byte names: +1 or -1, else none (R61). -/
def directionOfByte (b : Byte) : Option Direction :=
  if b.toInt = 1 then some .south else if b.toInt = -1 then some .north else none

/-- The outcomes, in the order of their numbers (R155). -/
inductive ReplyOutcome where
  | done | busy | heldByOther | barred | braceState | braceDemand | notAdjacent | wind | occupied | notHeld
  | notArmed | permitsOff | venueSilent | halted | notStandstill | reader | causePresent | portalOccupied | parkingInUse
  | inProgress | notPermitted | notOwner | state | locked | loopOpen | range | checkFailed | none | badRequest
deriving DecidableEq, Repr, Inhabited

/-- R155. -/
def outcomeNumber : ReplyOutcome → Nat
  | .done => 0 | .busy => 1 | .heldByOther => 2 | .barred => 3 | .braceState => 4 | .braceDemand => 5 | .notAdjacent => 6
  | .wind => 7 | .occupied => 8 | .notHeld => 9 | .notArmed => 10 | .permitsOff => 11 | .venueSilent => 12 | .halted => 13
  | .notStandstill => 14 | .reader => 15 | .causePresent => 16 | .portalOccupied => 17 | .parkingInUse => 18
  | .inProgress => 19 | .notPermitted => 20 | .notOwner => 21 | .state => 22 | .locked => 23 | .loopOpen => 24 | .range => 25
  | .checkFailed => 26 | .none => 27 | .badRequest => 28

/-- An answer: the outcome, the clamped flag and the reply body (R155). -/
structure Answer where
  outcome : ReplyOutcome
  clamped : Bool
  body : List Byte
deriving DecidableEq, Repr, Inhabited

/-- A refusal whose rule names no field (R155). -/
def refuse (o : ReplyOutcome) : Answer := ⟨o, false, []⟩

/-- A DONE with no body. -/
def doneEmpty : Answer := ⟨.done, false, []⟩

/-- A DONE with a body. -/
def doneWith (body : List Byte) : Answer := ⟨.done, false, body⟩

/-- A DONE with a body and the clamped flag as given. -/
def doneClamped (clamped : Bool) (body : List Byte) : Answer := ⟨.done, clamped, body⟩

/-- The Code byte of a reply: the outcome's number, and 128 for a DONE with the clamped flag (R155). -/
def Answer.code (a : Answer) : Byte :=
  BitVec.ofNat 8 (if a.outcome = .done ∧ a.clamped = true then 128 else outcomeNumber a.outcome)

/-- One unsigned byte field of a reply. -/
def byteField (n : Nat) : List Byte := bytesOf 1 n

/-- A field of n bytes whose absent value is reported as 0 (R159). -/
def optField (n : Nat) (x : Option Int) : List Byte := bytesOf n (x.getD 0)

/-- A key as three single-byte fields (R156). -/
def keyField (k : Key) : List Byte := byteField k.sect ++ byteField k.index ++ byteField k.item

/-- A subject as its type and number (R165). -/
def subjectField : Subject → List Byte
  | .absent => byteField 0 ++ byteField 0
  | .mover m => byteField 1 ++ byteField (moverNumber m)
  | .zone .runway k => byteField 2 ++ byteField k
  | .zone .tray k => byteField 3 ++ byteField k
  | .brace b => byteField 4 ++ byteField (braceNumber b)
  | .station p => byteField 5 ++ byteField (portNumber p)

/-- The bytes of a frame from Length through Body (R149): the Length counts itself, Role, Tag, Code and the body. -/
def frameCore (role tag code : Byte) (body : List Byte) : List Byte :=
  BitVec.ofNat 8 (4 + body.length) :: role :: tag :: code :: body

/-- The check field of a frame, upper byte first (R150). -/
def checkField (core : List Byte) : List Byte := bytesOf 2 (crc16 core).toNat

/-- The bytes of a reply frame on the line (R149, R152). -/
def ReplyFrame.wire (f : ReplyFrame) : List Byte :=
  let core := frameCore (BitVec.ofNat 8 (portNumber f.role)) f.tag f.code f.body
  0xA5#8 :: core ++ checkField core

end Sys2Proof.Machine
end

