-- ==== Sys2Proof/Machine/Ops.lean ====
section
/-! DEFINITION. The operations the blocks share: reading and replacing a block's records, handing something over to
another block, posting notices, commanding relays and changing the device state. -/

namespace Sys2Proof.Machine

/-! ## Replacing one block's state -/

/-- CS's state replaced. -/
def State.withCs (s : State) (x : Cs) : State := { s with cs := x }
/-- POS's state replaced. -/
def State.withPos (s : State) (x : Pos) : State := { s with pos := x }
/-- ZT's state replaced. -/
def State.withZt (s : State) (x : ZoneTable) : State := { s with zt := x }
/-- ASU's state replaced. -/
def State.withAsu (s : State) (x : Asu) : State := { s with asu := x }
/-- MSU's state replaced. -/
def State.withMsu (s : State) (x : PerMover MoverRec) : State := { s with msu := x }
/-- BRC's state replaced. -/
def State.withBrc (s : State) (x : Brc) : State := { s with brc := x }
/-- WM's state replaced. -/
def State.withWm (s : State) (x : Wm) : State := { s with wm := x }
/-- SLU's state replaced. -/
def State.withSlu (s : State) (x : Slu) : State := { s with slu := x }
/-- DSU's state replaced. -/
def State.withDsu (s : State) (x : Dsu) : State := { s with dsu := x }
/-- SPU's state replaced. -/
def State.withSpu (s : State) (x : Spu) : State := { s with spu := x }
/-- NU's state replaced. -/
def State.withNu (s : State) (x : PerPort NoticeQueue) : State := { s with nu := x }
/-- FR's state replaced. -/
def State.withFr (s : State) (x : Fr) : State := { s with fr := x }
/-- The hand-overs in flight replaced. -/
def State.withHand (s : State) (x : Handovers) : State := { s with hand := x }
/-- The counter of free values replaced. -/
def State.withFreeCount (s : State) (n : Nat) : State := { s with freeCount := n }
/-- The queue of waiting commands replaced. -/
def State.withPending (s : State) (q : List Instr) : State := { s with pending := q }

/-- A mover's record of MSU replaced. -/
def State.setMover (s : State) (m : Mover) (r : MoverRec) : State := s.withMsu (s.msu.set m r)
/-- A mover's authority record replaced. -/
def State.setAuthority (s : State) (m : Mover) (a : Authority) : State :=
  s.withAsu { s.asu with authority := s.asu.authority.set m a }
/-- A port's record replaced. -/
def State.setPort (s : State) (p : Port) (r : PortRec) : State :=
  s.withSpu { s.spu with ports := s.spu.ports.set p r }
/-- A brace's record replaced. -/
def State.setBrace (s : State) (b : Brace) (r : BraceRec) : State :=
  s.withBrc { s.brc with braces := s.brc.braces.set b r }

/-- A mover's state (R93). -/
def State.moverState (s : State) (m : Mover) : MoverState := (s.msu.get m).state
/-- A mover's entries in the active image (R4). -/
def State.params (s : State) (m : Mover) : MoverParams := s.cs.active.movers.get m
/-- A mover's authority record (R60). -/
def State.authorityOf (s : State) (m : Mover) : Authority := s.asu.authority.get m
/-- The direction POS and ZT take for a mover: the recorded one, south where none is (R31, R38). -/
def State.directionOf (s : State) (m : Mover) : Direction := ((s.authorityOf m).direction).getD .south
/-- A brace's state (R112). -/
def State.braceState (s : State) (b : Brace) : BraceState := (s.brc.braces.get b).state
/-- Whether both braces stand in a state. -/
def State.bothBraces (s : State) (b : BraceState) : Bool := s.braceState .east == b && s.braceState .west == b
/-- Whether either brace is Stalled. -/
def State.anyStalled (s : State) : Bool := s.braceState .east == .stalled || s.braceState .west == .stalled
/-- Whether every mover is Parked or Halted. -/
def State.allAtRest (s : State) : Bool := allMovers.all fun m => (s.moverState m).atRest
/-- A reader's record (R18). -/
def Pos.reader (p : Pos) (a : Axis) : ReaderRole → ReaderRec
  | .primary => p.primary.get a
  | .check => p.check.get a
/-- A reader's record replaced. -/
def Pos.setReader (p : Pos) (a : Axis) (role : ReaderRole) (r : ReaderRec) : Pos :=
  match role with
  | .primary => { p with primary := p.primary.set a r }
  | .check => { p with check := p.check.set a r }

/-! ## Hand-overs (log 1) -/

/-- A cause handed to MSU (R94). -/
def State.raise (s : State) (c : CauseMessage) : State := s.withHand { s.hand with causes := s.hand.causes ++ [c] }
/-- A cause handed to FR. -/
def State.handFault (s : State) (f : FaultMessage) : State := s.withHand { s.hand with faults := s.hand.faults ++ [f] }
/-- An event on which BRC tests the brace demand (R123). -/
def State.handDemand (s : State) (e : DemandEvent) : State :=
  s.withHand { s.hand with demandEvents := s.hand.demandEvents ++ [e] }
/-- Several such events. -/
def State.handDemands (s : State) (es : List DemandEvent) : State :=
  s.withHand { s.hand with demandEvents := s.hand.demandEvents ++ es }
/-- An event that cuts a brace operation short, handed to BRC (R121). -/
def State.handCut (s : State) (e : CutEvent) : State := s.withHand { s.hand with cuts := s.hand.cuts ++ [e] }
/-- A change of mover state handed to DSU (R140). -/
def State.handMoverChange (s : State) (m : Mover) (st : MoverState) : State :=
  s.withHand { s.hand with moverChanges := s.hand.moverChanges ++ [⟨m, st⟩] }
/-- A brace switch loss handed to ZT (R122). -/
def State.handSwitchLoss (s : State) (b : Brace) : State :=
  s.withHand { s.hand with switchLosses := s.hand.switchLosses ++ [b] }
/-- A consumption handed to MSU (R79). -/
def State.handConsumed (s : State) (m : Mover) : State := s.withHand { s.hand with consumed := s.hand.consumed ++ [m] }
/-- A validity change handed on (R33). -/
def State.handValidity (s : State) (v : ValidityChange) : State :=
  s.withHand { s.hand with validity := s.hand.validity ++ [v] }
/-- A change of device state handed to MSU (R102). -/
def State.handDeviceChange (s : State) (c : DeviceChange) : State :=
  s.withHand { s.hand with deviceChanges := s.hand.deviceChanges ++ [c] }
/-- A notice posted by a block to the stations of its route (R162). -/
def State.post (s : State) (src : Block) (route : List Port) (n : Notice) : State :=
  s.withHand { s.hand with postings := s.hand.postings ++ [⟨src, route, n⟩] }
/-- Several postings in order. -/
def State.postAll (s : State) (ps : List Posting) : State :=
  s.withHand { s.hand with postings := s.hand.postings ++ ps }

/-- The n-th member of a list that satisfies a test, and the list without it. -/
def takeNth {α : Type} (p : α → Bool) : Nat → List α → Option (α × List α)
  | _, [] => none
  | n, x :: xs =>
    if p x then
      match n with
      | 0 => some (x, xs)
      | k + 1 => (takeNth p k xs).map fun r => (r.1, x :: r.2)
    else (takeNth p n xs).map fun r => (r.1, x :: r.2)

/-- The oldest member, and the list without it. -/
def takeOldest {α : Type} : List α → Option (α × List α)
  | [] => none
  | x :: xs => some (x, xs)

/-! ## Routes (R162) -/

/-- The owner of a mover and the Venue station. -/
def ownerAndVenue (m : Mover) : List Port := [ownerOf m, .venue]

/-! ## Relays (R103) -/

/-- A relay command of MSU, or an open command that DSU gives outside a test phase, which is checked as if MSU had given
it (R138). A command that repeats the present one is no new command and starts no timer; a new one starts the readback
timer (R103, R104). So an open command of DSU to a relay that is commanded open already starts none (DEDUCED, log 36). -/
def State.commandRelay (s : State) (m : Mover) (closed : Bool) : State :=
  let r := s.msu.get m
  if r.relayClosed = closed then s else s.setMover m { r with relayClosed := closed, readbackTimer := true }

/-- Every relay commanded open, as on entry to Locked (R142). -/
def State.openAllRelays (s : State) : State := allMovers.foldl (fun t m => t.commandRelay m false) s

/-! ## The device state (R136) -/

/-- The device goes to a new state: the change is handed to MSU and BRC (R136, R121, R123). No notice is posted here. -/
def State.enterDevice (s : State) (d : DeviceState) : State :=
  let old := s.dsu.state
  let s1 := ((s.withDsu { s.dsu with state := d }).handDeviceChange ⟨old, d⟩).handDemand .deviceChange
  if old = .armed then s1.handCut .leftArmed else s1

/-- A change of device state other than entry to Locked, with its notice DEVICE STATE (R136). -/
def State.changeDevice (s : State) (d : DeviceState) : State :=
  (s.enterDevice d).post .dsu allPorts ⟨.deviceState, 4, .absent, deviceStateNumber d⟩

/-- The end of the arming step and its timer (R139). -/
def State.endArmingStep (s : State) : State := s.withDsu { s.dsu with armingStep := none, stepTimer := false }

/-- ARMING FAILED with its failing item, to the Venue station (R138, R139). -/
def State.postArmingFailed (s : State) (item : Nat) : State :=
  s.post .dsu [.venue] ⟨.armingFailed, 4, .absent, item⟩

/-- The relay under test commanded open (R139, R144); nothing where no test runs. -/
def State.openRelayUnderTest (s : State) : State :=
  match s.dsu.armingStep with
  | some (m, _) => s.commandRelay m false
  | none => s

/-- Arming fails otherwise than by its open phase: the relay under test is commanded open, the device goes to Standby
and ARMING FAILED is posted (R138, R139). -/
def State.failArming (s : State) (item : Nat) : State :=
  ((s.openRelayUnderTest.endArmingStep).changeDevice .standby).postArmingFailed item

/-- Entry to Locked on BRAKE FAULT or RELAY STUCK (R142). -/
def State.enterLocked (s : State) (fault : Cause) : State :=
  ((s.openAllRelays.endArmingStep).enterDevice .locked).post .dsu allPorts ⟨.locked, 7, .absent, causeNumber fault⟩

/-- DSU takes BRAKE FAULT or RELAY STUCK: it locks the device in Arming, Armed and Disarming and does nothing in any
other state (R142). -/
def State.takeDeviceFault (s : State) (fault : Cause) : State :=
  if s.dsu.state.isActive then s.enterLocked fault else s

/-! ## Timers and free values -/

/-- The time left on a trip timer, in ms: a free value within the trip stop time while it runs, 0 otherwise (R93; log
5). -/
def tripTimeLeft (n : Nat) : Timer → Int
  | .running d => min (Config.tripTimeLeft n) d
  | .stopped | .expired => 0

/-! ## Positions (00_scope.md: ahead of, more advanced) -/

/-- Whether x is more advanced than y. -/
def moreAdvanced (d : Direction) (x y : Int) : Bool := decide (d.sign * y < d.sign * x)

/-- The less advanced of two positions. -/
def lessAdvancedOf (d : Direction) (x y : Int) : Int := if moreAdvanced d x y then y else x

/-- The more advanced of two positions. -/
def moreAdvancedOf (d : Direction) (x y : Int) : Int := if moreAdvanced d x y then x else y

/-- Every value of a list of options, where all are present. -/
def allPresent {α : Type} : List (Option α) → Option (List α)
  | [] => some []
  | none :: _ => none
  | some x :: xs => (allPresent xs).map (x :: ·)

/-- The greatest of a list of positions; 0 for none. -/
def greatest (xs : List Int) : Int := xs.max?.getD 0

/-- The least of a list of positions; 0 for none. -/
def least (xs : List Int) : Int := xs.min?.getD 0

/-- The body extent of a mover's axis positions (R30). -/
def bodyOf (p : MoverParams) (xs : List Int) : Extent :=
  ⟨least xs - p.length - p.bodyMargin, greatest xs + p.bodyMargin⟩

/-- The lead of a mover's axis positions in a direction (R31). -/
def leadOf (p : MoverParams) (xs : List Int) : Direction → Int
  | .south => greatest xs
  | .north => least xs - p.length

/-- The stopping point S and the stop point T: lead + dir × (ceil(s² / (2 × a)) + M) (R49, R64, R96). -/
def stoppingPoint (p : MoverParams) (d : Direction) (lead speed : Int) : Int :=
  lead + d.sign * (ceilDiv (speed * speed) (2 * p.deceleration) + p.stopMargin)

/-- Every mover's body extent, as POS holds it (R30). -/
def State.bodies (s : State) : PerMover (Option Extent) := .ofFn fun m => (s.pos.movers.get m).body

/-- A mover's axis positions, where every axis has one. -/
def Pos.positions (p : Pos) (m : Mover) : Option (List Int) :=
  allPresent ((axesOf m).map fun a => (p.axes.get a).position)

/-- The furthest lead after the lead has been formed anew: advanced to it while the mover is Permitted or Stopping
(R32). -/
def advanceFurthest (st : MoverState) (d : Direction) (lead : Int) (f : Option Int) : Option Int :=
  match f with
  | none => none
  | some x => if st.hasAuthority && moreAdvanced d lead x then some lead else some x

/-- The body extent, lead and furthest lead of a mover formed anew from its axis positions (R30 to R32). -/
def State.formGeometry (s : State) (m : Mover) : State :=
  match s.pos.positions m with
  | none => s
  | some xs =>
    let p := s.params m
    let d := s.directionOf m
    let r := s.pos.movers.get m
    let lead := leadOf p xs d
    s.withPos { s.pos with movers := s.pos.movers.set m { r with
      body := some (bodyOf p xs)
      lead := some lead
      furthest := advanceFurthest (s.moverState m) d lead r.furthest } }

end Sys2Proof.Machine
end

