-- ==== Sys2Proof/Machine/Zoning.lean ====
section
/-! DEFINITION. The operations on zone records (chapter 3): overlap, derived states, runs, the stopping envelope,
reservation and release of one zone, parking conversion, and what every Zone Table event ends with. -/

namespace Sys2Proof.Machine

/-- Whether a body extent, both ends included, overlaps a zone, end excluded (00_scope.md, Intervals; R36). -/
def Extent.overlaps (e : Extent) (z : ZoneRec) : Bool := decide (e.low < z.stop) && decide (z.start ≤ e.high)

/-- Whether a body extent, where present, overlaps a zone. -/
def bodyOverlaps (b : Option Extent) (z : ZoneRec) : Bool :=
  match b with
  | some e => e.overlaps z
  | none => false

/-- A path's zone records. -/
def ZoneTable.zones (t : ZoneTable) : Path → List ZoneRec
  | .runway => t.runway
  | .tray => t.tray

/-- A path's zone records replaced. -/
def ZoneTable.setZones (t : ZoneTable) (p : Path) (zs : List ZoneRec) : ZoneTable :=
  match p with
  | .runway => { t with runway := zs }
  | .tray => { t with tray := zs }

/-- The derived zone states (R36). -/
inductive ZoneState where
  | held
  | clearing
  | closed (withRest : Bool)
  | resting
  | free
deriving DecidableEq, Repr

/-- Whether some mover's body, as ZT last took it, overlaps a zone of a path. -/
def ZoneTable.anyBody (t : ZoneTable) (p : Path) (z : ZoneRec) : Bool :=
  (moversOn p).any fun m => bodyOverlaps (t.body.get m) z

/-- The derived state of a zone (R36). -/
def ZoneTable.stateOf (t : ZoneTable) (p : Path) (z : ZoneRec) : ZoneState :=
  if z.holder.isSome then .held
  else if z.clearingFor.isSome then .clearing
  else
    let occupied := !z.resting.isEmpty || t.anyBody p z
    if z.barrier = .closed then .closed occupied else if occupied then .resting else .free

/-- A mover added to a set of movers, kept in number order. -/
def addMover (m : Mover) (ms : List Mover) : List Mover := allMovers.filter fun x => x == m || ms.contains x

/-- A mover taken out of a set of movers. -/
def dropMover (m : Mover) (ms : List Mover) : List Mover := ms.filter fun x => x != m

/-- A Pending barrier becomes Closed where the zone has neither holder nor clearing (R55). -/
def ZoneRec.settleBarrier (z : ZoneRec) : ZoneRec :=
  if z.holder = none ∧ z.clearingFor = none ∧ z.barrier = .pending then { z with barrier := .closed } else z

/-- Whether a zone lies ahead of a body that does not overlap it. -/
def zoneAhead (d : Direction) (e : Extent) (z : ZoneRec) : Bool :=
  match d with
  | .south => decide (e.high < z.start)
  | .north => decide (z.stop ≤ e.low)

/-- Whether a zone lies behind a body (R44). -/
def zoneBehind (d : Direction) (e : Extent) (z : ZoneRec) : Bool :=
  match d with
  | .south => decide (z.stop ≤ e.low)
  | .north => decide (e.high < z.start)

/-- Whether the stopping envelope out to stop + dir × B reaches a zone ahead (R49). -/
def envelopeReaches (d : Direction) (bodyMargin stop : Int) (z : ZoneRec) : Bool :=
  match d with
  | .south => decide (z.start ≤ stop + bodyMargin)
  | .north => decide (stop - bodyMargin < z.stop)

/-- What ZT needs of a moving mover to tell which zones its body and envelope reach (R49, R51). -/
structure Envelope where
  body : Extent
  direction : Direction
  stop : Int
  bodyMargin : Int
deriving DecidableEq, Repr

/-- Whether a moving mover's envelope reaches a zone: the zone lies ahead of its body and the envelope comes to it. -/
def Envelope.reaches (e : Envelope) (z : ZoneRec) : Bool :=
  zoneAhead e.direction e.body z && envelopeReaches e.direction e.bodyMargin e.stop z

/-- Whether a mover's body overlaps a zone or its envelope reaches it. -/
def Envelope.touches (e : Envelope) (z : ZoneRec) : Bool := e.body.overlaps z || e.reaches z

/-- The envelope of a mover from a body, lead and speed; none without a body or a lead. -/
def State.envelopeFrom (s : State) (m : Mover) (body : Option Extent) (lead : Option Int) (speed : Int) :
    Option Envelope :=
  match body, lead with
  | some b, some l =>
    let p := s.params m
    let d := s.directionOf m
    some ⟨b, d, stoppingPoint p d l speed, p.bodyMargin⟩
  | _, _ => none

/-- The envelope of a mover from its body as ZT last took it and its present lead and speed (R49, R57). -/
def State.envelopeOf (s : State) (m : Mover) : Option Envelope :=
  let r := s.pos.movers.get m
  s.envelopeFrom m (s.zt.body.get m) r.lead r.speed

/-- Whether an envelope, where there is one, touches a zone. -/
def envelopeTouches (e : Option Envelope) (z : ZoneRec) : Bool :=
  match e with
  | some x => x.touches z
  | none => false

/-! ## Runs (R38, R63) -/

/-- The number of the zone containing a lead: zone 0 below 0, the last zone at or beyond the path's end (R63). -/
def zoneIndexOf (zs : List ZoneRec) (lead : Int) : Nat :=
  min (zs.takeWhile fun z => decide (z.stop ≤ lead)).length (zs.length - 1)

/-- The zones from zone k on, in a direction of travel. -/
def zonesFrom (zs : List ZoneRec) (d : Direction) (k : Nat) : List ZoneRec :=
  match d with
  | .south => zs.drop k
  | .north => (zs.take (k + 1)).reverse

/-- The far boundary of a run; the lead itself for an empty run (R38). -/
def runBoundary (d : Direction) (lead : Int) (run : List ZoneRec) : Int :=
  match run.getLast? with
  | none => lead
  | some z =>
    match d with
    | .south => z.stop
    | .north => z.start

/-- The held run of a mover (R38). -/
def heldRun (zs : List ZoneRec) (m : Mover) (d : Direction) (lead : Int) : List ZoneRec :=
  (zonesFrom zs d (zoneIndexOf zs lead)).takeWhile fun z => z.holder == some m

/-- The authority run of a mover: zones Clearing for it count as held (R38). -/
def authorityRun (zs : List ZoneRec) (m : Mover) (d : Direction) (lead : Int) : List ZoneRec :=
  (zonesFrom zs d (zoneIndexOf zs lead)).takeWhile fun z => z.holder == some m || z.clearingFor == some m

/-- Whether a zone belongs to a mover's own set (R38). -/
def inOwnSet (m : Mover) (body : Option Extent) (z : ZoneRec) : Bool :=
  z.holder == some m || z.clearingFor == some m || bodyOverlaps body z

/-! ## What every Zone Table event ends with -/

/-- The stations that own movers, with how many of a waiting set each owns (R45). -/
def waitingByStation (ws : List Mover) : List (Port × Nat) :=
  [Port.roof, Port.pitch].filterMap fun p =>
    let n := (ws.filter fun m => ownerOf m == p).length
    if n = 0 then none else some (p, n)

/-- Whether a zone's derived state changes to Free between two tables (R45). -/
def becameFree (t t' : ZoneTable) (p : Path) (z z' : ZoneRec) : Bool :=
  t.stateOf p z != .free && t'.stateOf p z' == .free

/-- The ZONE FREED notices of a path (R45). Where one event frees several zones no rule orders them: the model posts them
lowest zone first, the Roof station's before the Pitch station's, and the runway's before the tray path's (DESIGN CHOICE,
log 32). -/
def freedPostings (t t' : ZoneTable) (p : Path) : List Posting :=
  (((t.zones p).zip (t'.zones p)).zipIdx).flatMap fun x =>
    if becameFree t t' p x.1.1 x.1.2 then
      (waitingByStation x.1.2.waiting).map fun w => ⟨.zt, [w.1], ⟨.zoneFreed, 2, .zone p x.2, w.2⟩⟩
    else []

/-- A path's records with the waiting sets of the zones that became Free emptied (R45). -/
def emptyFreed (t t' : ZoneTable) (p : Path) : List ZoneRec :=
  ((t.zones p).zip (t'.zones p)).map fun x => if becameFree t t' p x.1 x.2 then { x.2 with waiting := [] } else x.2

/-- Whether the holder or the clearing of a zone with a brace need changes (R56). -/
def holdChanged (t t' : ZoneTable) (p : Path) : Bool :=
  ((t.zones p).zip (t'.zones p)).any fun x =>
    x.1.need != .nothing && (x.1.holder != x.2.holder || x.1.clearingFor != x.2.clearingFor)

/-- A Zone Table event completed: the zones that became Free post ZONE FREED and lose their waiting sets (R45), and a
change of hold or clearing on a zone with a brace need is reported to BRC (R56; one report an event, log 23). -/
def State.commitZones (s : State) (t : ZoneTable) : State :=
  let t' : ZoneTable := { t with runway := emptyFreed s.zt t .runway, tray := emptyFreed s.zt t .tray }
  let s1 := (s.withZt t').postAll (freedPostings s.zt t .runway ++ freedPostings s.zt t .tray)
  if holdChanged s.zt t .runway || holdChanged s.zt t .tray then s1.handDemand .holdReport else s1

/-- A Zone Table event that changes the zones of one path one by one. -/
def State.mapZones (s : State) (p : Path) (f : ZoneRec → ZoneRec) : State :=
  s.commitZones (s.zt.setZones p ((s.zt.zones p).map f))

/-! ## Parking conversion (R53) -/

/-- A mover's clearing of a zone ended, where the zone is Clearing for it (R51). -/
def ZoneRec.endClearing (z : ZoneRec) (m : Mover) : ZoneRec :=
  if z.clearingFor = some m then { z with clearingFor := none }.settleBarrier else z

/-- A mover put into a zone's resting set or taken out of it. -/
def ZoneRec.setResting (z : ZoneRec) (m : Mover) (rests : Bool) : ZoneRec :=
  { z with resting := if rests then addMover m z.resting else dropMover m z.resting }

/-- One zone under parking conversion of a mover with a given body (R53, steps 1 to 4). -/
def convertZone (m : Mover) (body : Option Extent) (z : ZoneRec) : ZoneRec :=
  if z.holder = some m then
    if bodyOverlaps body z then { z with holder := none, resting := addMover m z.resting }.settleBarrier else z
  else (z.endClearing m).setResting m (bodyOverlaps body z)

/-- R53: a mover enters Parked or Halted. The conversion takes the body as POS last reported it (log 27). A position update
that is then still in flight to ZT stays in flight (DESIGN CHOICE, log 42). -/
def State.parkingConversion (s : State) (m : Mover) : State :=
  let body := (s.pos.movers.get m).body
  let t := { s.zt with body := s.zt.body.set m body }
  s.commitZones (t.setZones (pathOf m) ((t.zones (pathOf m)).map (convertZone m body)))

/-! ## Zone ranges (R39, R54) -/

/-- A range of zone numbers as settled, and whether it was clamped (R39). -/
structure ZoneRange where
  first : Nat
  last : Nat
  clamped : Bool
deriving DecidableEq, Repr

/-- R39: the lesser number to the greater, a number beyond the last zone of n taken as that last zone. -/
def settleRange (n x y : Nat) : ZoneRange :=
  ⟨min (min x y) (n - 1), min (max x y) (n - 1), decide (n - 1 < max x y)⟩

/-- Whether a zone number lies in a range. -/
def ZoneRange.has (r : ZoneRange) (k : Nat) : Bool := decide (r.first ≤ k) && decide (k ≤ r.last)

/-- The zones of a range with their numbers, lowest first. -/
def zonesIn (zs : List ZoneRec) (r : ZoneRange) : List (ZoneRec × Nat) := zs.zipIdx.filter fun x => r.has x.2

/-- The lowest-numbered zone of a range that satisfies a test (R40). -/
def lowestWhere (zs : List ZoneRec) (r : ZoneRange) (p : ZoneRec → Bool) : Option Nat :=
  ((zonesIn zs r).find? fun x => p x.1).map (·.2)

/-- The zones of a range changed by a function. -/
def mapRange (zs : List ZoneRec) (r : ZoneRange) (f : ZoneRec → ZoneRec) : List ZoneRec :=
  zs.zipIdx.map fun x => if r.has x.2 then f x.1 else x.1

/-! ## Brace needs (R41, R56) -/

/-- Whether the brace states meet a zone's need (R41). -/
def State.needMet (s : State) (n : BraceNeed) : Bool :=
  match n with
  | .nothing => true
  | .engaged => s.bothBraces .engaged
  | .withdrawn => s.bothBraces .withdrawn

/-- Whether some zone satisfies a test of its path and record. -/
def ZoneTable.someZone (t : ZoneTable) (f : Path → ZoneRec → Bool) : Bool :=
  t.runway.any (f .runway) || t.tray.any (f .tray)

/-- Whether a mover's body, of those given, overlaps a zone of a path; a mover overlaps zones of its own path alone
(R35). -/
def moverOver (body : PerMover (Option Extent)) (m : Mover) (p : Path) (z : ZoneRec) : Bool :=
  pathOf m == p && bodyOverlaps (body.get m) z

/-- Whether some panel's body, of those given, overlaps a zone whose need is Engaged (R116, R123). -/
def ZoneTable.panelOverEngagedNeed (t : ZoneTable) (body : PerMover (Option Extent)) : Bool :=
  t.someZone fun p z => z.need == .engaged && panels.any fun m => moverOver body m p z

/-- The ENGAGE conditions: every zone that needs Withdrawn has no holder, is not Clearing, and the Tray's body does not
overlap it. All three are read from the Zone Table, the body as ZT last took it (R56, R115). -/
def ZoneTable.engageConditions (t : ZoneTable) : Bool :=
  !(t.someZone fun p z => z.need == .withdrawn
      && (z.holder.isSome || z.clearingFor.isSome || moverOver t.body .tray p z))

/-- Whether a zone that needs Engaged is held or Clearing (R116, condition 1). -/
def ZoneTable.parkingInUse (t : ZoneTable) : Bool :=
  t.someZone fun _ z => z.need == .engaged && (z.holder.isSome || z.clearingFor.isSome)

end Sys2Proof.Machine
end

