-- ==== Sys2Proof/Machine/Ceilings.lean ====
section
/-! DEFINITION. The ceiling computation (R68 to R74), skew trim (R82, R83), the clip (R63, R66), and the clearing of the
authority fields (R60). -/

namespace Sys2Proof.Machine

/-- What the ceiling computation reads of a mover's motion (R68). -/
structure Motion where
  lead : Int
  body : Extent
  speed : Int
  positions : List (Axis × Int)
  substituted : Bool
deriving DecidableEq, Repr

/-- The positions of a motion. -/
def Motion.values (mo : Motion) : List Int := mo.positions.map (·.2)

/-- The positions of a list of axes, where each has one. -/
def pairPositions : List (Axis × Option Int) → Option (List (Axis × Int))
  | [] => some []
  | (_, none) :: _ => none
  | (a, some x) :: rest => (pairPositions rest).map ((a, x) :: ·)

/-- A mover's motion as POS has it now. -/
def State.motionOf (s : State) (m : Mover) : Option Motion :=
  let r := s.pos.movers.get m
  match r.lead, r.body, pairPositions ((axesOf m).map fun a => (a, (s.pos.axes.get a).position)) with
  | some l, some b, some xs =>
    some ⟨l, b, r.speed, xs, (axesOf m).any fun a => (s.pos.axes.get a).validity == .substituted⟩
  | _, _, _ => none

/-- A mover's motion as a position update carries it (R68). -/
def PositionUpdate.motion (u : PositionUpdate) : Option Motion :=
  match u.lead, u.body, pairPositions (u.axes.map fun a => (a.axis, a.position)) with
  | some l, some b, some xs => some ⟨l, b, u.speed, xs, u.axes.any fun a => a.validity == .substituted⟩
  | _, _, _ => none

/-! ## Stage 4: the target cap and the cap in use -/

/-- The target cap (R71): v_max, halved for a panel outside Calm, halved again while an axis is Substituted. -/
def targetCapOf (p : MoverParams) (panel : Bool) (wind : WindState) (substituted : Bool) : Int :=
  let v := if panel && wind != .calm then p.maxSpeed / 2 else p.maxSpeed
  if substituted then v / 2 else v

/-- A cap descent under way worked out again at a lead (R72). -/
def workDescent (p : MoverParams) (d : Direction) (lead : Int) (a : Authority) : Authority :=
  match a.descent with
  | none => a
  | some c =>
    let dx := max 0 ((c.point - lead) * d.sign)
    if dx = 0 then { a with capInUse := c.toCap, descent := none }
    else { a with capInUse := min c.fromCap (isqrt (c.toCap * c.toCap + 2 * p.deceleration * dx)) }

/-- The cap descent that starts at a lead, from the cap in use to a target cap (R72). -/
def startDescent (p : MoverParams) (d : Direction) (lead fromCap toCap : Int) : CapDescent :=
  ⟨fromCap, toCap,
    lead + d.sign * (p.stopMargin + ceilDiv (fromCap * fromCap - toCap * toCap) (2 * p.deceleration))⟩

/-- The comparison of the target cap with the cap in use (R71). -/
def compareCap (p : MoverParams) (d : Direction) (lead target : Int) (a : Authority) : Authority :=
  if a.capInUse ≤ target then { a with targetCap := target, capInUse := target, descent := none }
  else
    match a.descent with
    | some c =>
      if c.toCap = target then { a with targetCap := target }
      else { a with targetCap := target, descent := some (startDescent p d lead a.capInUse target) }
    | none => { a with targetCap := target, descent := some (startDescent p d lead a.capInUse target) }

/-- What a computation of the ceilings does with the cap: a grant from Parked or a reversal sets it afresh (R65), a
position update works it out again and compares it with the target cap (R71, R72), and a computation at once between two
updates uses it as it stands (R68, R132). -/
inductive CapWork where
  | afresh | compared | asItStands
deriving DecidableEq, Repr

/-- Stage 4 (R71, R72). The target cap is formed on position updates, and at a grant from Parked or a reversal (R65). -/
def stageCap (p : MoverParams) (d : Direction) (lead target : Int) (work : CapWork) (a : Authority) : Authority :=
  match work with
  | .afresh => { a with targetCap := target, capInUse := target, descent := none }
  | .compared => compareCap p d lead target (workDescent p d lead a)
  | .asItStands => a

/-! ## Stages 1 to 3 and 5 to 7 -/

/-- Stage 1, braking to the authority end (R69). -/
def vBrake (p : MoverParams) (d : Direction) (lead authorityEnd : Int) : Int :=
  let dist := (authorityEnd - lead) * d.sign - p.stopMargin
  if 0 < dist then isqrt (2 * p.deceleration * dist) else 0

/-- Stage 2, the least ceiling of the zones under the body (R70). -/
def vHere (p : MoverParams) (zs : List ZoneRec) (body : Extent) : Int :=
  (((zs.filter fun z => body.overlaps z).map (·.ceiling)).min?).getD p.maxSpeed

/-- A zone's near boundary (R70). -/
def nearBoundary (d : Direction) (z : ZoneRec) : Int :=
  match d with
  | .south => z.start
  | .north => z.stop

/-- Whether a zone is ahead for stage 3: ahead of the body, and its near boundary short of E + dir × B (R70). -/
def aheadInReach (p : MoverParams) (d : Direction) (body : Extent) (authorityEnd : Int) (z : ZoneRec) : Bool :=
  zoneAhead d body z && moreAdvanced d (authorityEnd + d.sign * p.bodyMargin) (nearBoundary d z)

/-- The speed from which braking brings the mover to a slower zone's ceiling as its body enters it (R70). -/
def vZone (p : MoverParams) (d : Direction) (lead : Int) (z : ZoneRec) : Int :=
  let dz := max 0 ((nearBoundary d z - d.sign * p.bodyMargin - lead) * d.sign - p.stopMargin)
  isqrt (z.ceiling * z.ceiling + 2 * p.deceleration * dz)

/-- Stage 3, slower zones ahead (R70). -/
def vAhead (p : MoverParams) (d : Direction) (zs : List ZoneRec) (body : Extent) (lead authorityEnd here : Int) : Int :=
  (((zs.filter fun z => aheadInReach p d body authorityEnd z && decide (z.ceiling < here)).map (vZone p d lead)).min?).getD
    p.maxSpeed

/-- Stage 5, the untrimmed ceiling (R73). -/
def vPerm (p : MoverParams) (d : Direction) (zs : List ZoneRec) (mo : Motion) (authorityEnd cap : Int) : Int :=
  let here := vHere p zs mo.body
  min (min cap (vBrake p d mo.lead authorityEnd)) (min here (vAhead p d zs mo.body mo.lead authorityEnd here))

/-- A mover's lag: the position of its least advanced axis (R82). -/
def lagOf (d : Direction) (xs : List Int) : Int :=
  match d with
  | .south => least xs
  | .north => greatest xs

/-- An axis's lead excess (R82). -/
def leadExcess (d : Direction) (lag position : Int) : Int := (position - lag) * d.sign

/-- Stage 6 for one axis: skew trim (R83). -/
def trimmed (p : MoverParams) (perm excess : Int) : Int :=
  if excess ≤ p.trimThreshold then perm
  else if excess < p.trimThreshold + p.trimWidth then
    perm * (p.trimThreshold + p.trimWidth - excess) / p.trimWidth
  else 0

/-- Stage 7, the intervention speed of an axis ceiling (R74). -/
def interventionSpeed (ceiling : Int) : Int := ceiling + max (ceiling / 10) 20

/-- The ceilings of some axes replaced, their marks and counts kept. -/
def setCeilings (cs : PerAxis CeilingRec) (f : Int → Int) (xs : List (Axis × Int)) : PerAxis CeilingRec :=
  xs.foldl (fun acc x => acc.modify x.1 fun c => { c with ceiling := f x.2 }) cs

/-- The ceilings of a mover with authority, stages 1 to 6, from a motion and the zone records and wind state as they
stand (R68). A mover without a recorded direction or an authority end has none. -/
def State.computeCeilings (s : State) (m : Mover) (mo : Motion) (work : CapWork) : State :=
  let a := s.authorityOf m
  match a.direction, a.authorityEnd with
  | some d, some e =>
    let p := s.params m
    let a1 := stageCap p d mo.lead (targetCapOf p (isPanel m) s.wm.state mo.substituted) work a
    let perm := vPerm p d (s.zt.zones (pathOf m)) mo e a1.capInUse
    let lag := lagOf d mo.values
    s.withAsu { s.asu with
      authority := s.asu.authority.set m { a1 with untrimmed := perm }
      ceilings := setCeilings s.asu.ceilings (fun x => trimmed p perm (leadExcess d lag x)) mo.positions }
  | _, _ => s

/-- The ceilings of a mover computed at once from its present position, as at a grant or the start of a controlled stop
(R65, R96). Where the cap is not set afresh it is used as it stands: a change of the wind or of a validity state waits for
the mover's next position update, and so does a cap descent (R68, R71, R72; log 34). -/
def State.computeCeilingsNow (s : State) (m : Mover) (fresh : Bool) : State :=
  match s.motionOf m with
  | some mo => s.computeCeilings m mo (if fresh then .afresh else .asItStands)
  | none => s

/-! ## The clip (R63, R66) -/

/-- Whether another panel lies ahead (R63). -/
def liesAhead (d : Direction) (mine theirs : Motion) : Bool :=
  match d with
  | .south => decide (greatest mine.values < least theirs.values)
  | .north => decide (greatest theirs.values < least mine.values)

/-- The clip position another panel gives, where it lies ahead and its body overlaps a zone of the held run (R63). -/
def clipPosition (d : Direction) (clipGap : Int) (run : List ZoneRec) (mine theirs : Motion) : Option Int :=
  if liesAhead d mine theirs && run.any (fun z => theirs.body.overlaps z) then
    some (match d with
      | .south => theirs.body.low - clipGap
      | .north => theirs.body.high + clipGap)
  else none

/-- Every clip position of a panel; the Tray has none (R63). -/
def clipPositions (view : Mover → Option Motion) (m : Mover) (d : Direction) (clipGap : Int) (run : List ZoneRec)
    (mine : Motion) : List Int :=
  if isPanel m then
    (panels.filter fun q => q != m).filterMap fun q =>
      match view q with
      | some theirs => clipPosition d clipGap run mine theirs
      | none => none
  else []

/-- The least advanced of a position and others. -/
def leastAdvanced (d : Direction) (x : Int) (ys : List Int) : Int := ys.foldl (lessAdvancedOf d) x

/-- R66: the clip of one panel with authority, recomputed; it only shortens the authority end. -/
def State.clipOne (s : State) (view : Mover → Option Motion) (m : Mover) : State :=
  let a := s.authorityOf m
  match a.direction, a.authorityEnd, view m with
  | some d, some e, some mo =>
    if (s.moverState m).hasAuthority then
      let run := heldRun (s.zt.zones (pathOf m)) m d mo.lead
      s.setAuthority m { a with
        authorityEnd := some (leastAdvanced d e (clipPositions view m d (s.params m).clipGap run mo)) }
    else s
  | _, _, _ => s

/-! ## The authority fields as the mover's state changes (R60) -/

/-- An authority record on entry to Parked, Halted or Tripped: the computed fields cleared (R60). -/
def Authority.cleared (a : Authority) : Authority := { a with untrimmed := 0, descent := none, overspeedOpen := false }

/-- The same with the authority end and stop target absent, as on entry to Parked or Halted (R60). -/
def Authority.ended (a : Authority) : Authority := { a.cleared with authorityEnd := none, stopTarget := none }

/-- The ceiling records of a mover's axes set to 0, their marks and counts cleared (R60). -/
def clearCeilings (cs : PerAxis CeilingRec) (m : Mover) : PerAxis CeilingRec :=
  (axesOf m).foldl (fun acc a => acc.set a .initial) cs

/-- ASU's fields of a mover that enters Tripped (R60). -/
def State.tripAuthority (s : State) (m : Mover) : State :=
  s.withAsu { s.asu with
    authority := s.asu.authority.modify m Authority.cleared
    ceilings := clearCeilings s.asu.ceilings m }

/-- ASU's fields of a mover that enters Parked or Halted (R60). -/
def State.endAuthority (s : State) (m : Mover) : State :=
  s.withAsu { s.asu with
    authority := s.asu.authority.modify m Authority.ended
    ceilings := clearCeilings s.asu.ceilings m }

end Sys2Proof.Machine
end

