-- ==== Sys2Proof/Machine/Stopping.lean ====
section
/-! DEFINITION. MSU's shared operations: how a cause acts on each mover (R94 to R99), how a stop ends (R97, R100, R79) and
when a halt cause is gone (R107). -/

namespace Sys2Proof.Machine

/-- A cause joined to halt causes, oldest first, without duplicates (R93). -/
def addCause (c : Cause) (cs : List Cause) : List Cause := if cs.contains c then cs else cs ++ [c]

/-- MOVER STOPPED for a mover, with the stop cause as value (R109). -/
def State.postStopped (s : State) (m : Mover) (severity : Nat) (c : Cause) : State :=
  s.post .msu (ownerAndVenue m) ⟨.moverStopped, severity, .mover m, causeNumber c⟩

/-- MOVER PARKED for a mover, with the lead as value (R109). -/
def State.postParked (s : State) (m : Mover) (lead : Int) : State :=
  s.post .msu [ownerOf m] ⟨.moverParked, 2, .mover m, lead⟩

/-- A Permitted or Stopping mover goes to Tripped with a stop cause and given halt causes: its relay is commanded open,
its trip timer starts, its authority fields are cleared, and MOVER STOPPED is posted (R99, R102, R60). -/
def State.tripMover (s : State) (m : Mover) (c : Cause) (haltCauses : List Cause) : State :=
  let s1 := s.commandRelay m false
  let s2 := s1.setMover m { s1.msu.get m with
    state := .tripped
    stopCause := some c
    stopEnd := none
    haltCauses := haltCauses
    tripTimer := .running (1000 * (s.params m).tripStopTime) }
  ((s2.tripAuthority m).handMoverChange m .tripped).postStopped m 6 c

/-- A Parked mover goes to Halted: no relay command, the parked position kept, parking conversion, MOVER STOPPED
(R99). -/
def State.haltParked (s : State) (m : Mover) (c : Cause) : State :=
  let r := s.msu.get m
  let s1 := s.setMover m { r with state := .halted, stopCause := some c, haltCauses := addCause c r.haltCauses }
  (((s1.endAuthority m).handMoverChange m .halted).parkingConversion m).postStopped m 6 c

/-- A cause joins the halt causes of a Tripped or Halted mover (R99). -/
def State.joinHaltCauses (s : State) (m : Mover) (c : Cause) : State :=
  let r := s.msu.get m
  s.setMover m { r with haltCauses := addCause c r.haltCauses }

/-- R99: an Immediate cause acts on a mover by the mover's state. -/
def State.applyImmediate (s : State) (c : Cause) (m : Mover) : State :=
  match s.moverState m with
  | .permitted | .stopping => s.tripMover m c (addCause c (s.msu.get m).haltCauses)
  | .parked => s.haltParked m c
  | .tripped | .halted => s.joinHaltCauses m c

/-- The stop target of a controlled stop: the less advanced of the stop point T and the authority end (R96). -/
def stopTargetOf (p : MoverParams) (d : Direction) (lead speed authorityEnd : Int) : Int :=
  lessAdvancedOf d (stoppingPoint p d lead speed) authorityEnd

/-- The authority end drawn back to the stop target of a controlled stop (R96). A Permitted mover always has the
direction, end and lead this reads. -/
def State.drawBack (s : State) (m : Mover) : State :=
  let a := s.authorityOf m
  let r := s.pos.movers.get m
  match a.direction, a.authorityEnd, r.lead with
  | some d, some e, some l =>
    let t := stopTargetOf (s.params m) d l r.speed e
    s.setAuthority m { a with authorityEnd := some t, stopTarget := some t }
  | _, _, _ => s

/-- R96: a controlled cause starts a controlled stop of a Permitted mover. -/
def State.startStop (s : State) (c : Cause) (m : Mover) : State :=
  let r := s.msu.get m
  let s1 := s.setMover m { r with
    state := .stopping
    stopCause := some c
    stopEnd := some (endOfCause c)
    haltCauses := if isHalting c then addCause c r.haltCauses else r.haltCauses }
  (((s1.drawBack m).computeCeilingsNow m false).handMoverChange m .stopping).postStopped m (if isHalting c then 5 else 2) c

/-- R98: a controlled cause reaches a mover that is already Stopping. -/
def State.hardenStop (s : State) (c : Cause) (m : Mover) : State :=
  let r := s.msu.get m
  if isHalting c then
    let s1 := s.setMover m { r with
      stopEnd := some .halted
      stopCause := if r.stopEnd = some .halted then r.stopCause else some c
      haltCauses := addCause c r.haltCauses }
    if r.stopEnd = some .halted then s1 else s1.postStopped m 5 c
  else s

/-- A controlled cause acts on a mover by the mover's state (R96, R98). -/
def State.applyControlled (s : State) (c : Cause) (m : Mover) : State :=
  match s.moverState m with
  | .permitted => s.startStop c m
  | .stopping => s.hardenStop c m
  | .parked | .tripped | .halted => s

/-- A cause acts on one mover by its class; a Hold cause changes none (R95, R98). -/
def State.applyCause (s : State) (c : Cause) (m : Mover) : State :=
  match causeClass c with
  | some .immediate => s.applyImmediate c m
  | some .controlled => s.applyControlled c m
  | some .hold | none => s

/-- The movers a cause's scope names, in number order (R94, R95); which of them a controlled cause stops goes by their
states as it is taken. The movers BRACE LOST names are those BRC found moving when it took the switch change, whatever
their states have become (R111, R122; log 25). -/
def Scope.movers (scope : Scope) : List Mover :=
  allMovers.filter fun m =>
    match scope with
    | .all => true
    | .panels => isPanel m
    | .role p => ownerOf m == p
    | .one x => x == m
    | .named ms => ms.contains m

/-- The one mover of a cause's scope, where it has one (R94). -/
def Scope.single : Scope → Option Mover
  | .one m => some m
  | .all | .panels | .role _ | .named _ => none

/-- What MSU hands FR of a cause it takes (R94). -/
def State.faultOfCause (s : State) (c : CauseMessage) : FaultMessage :=
  ⟨c.cause, some s.dsu.state, c.scope.single, c.scope.single.map s.moverState, c.data⟩

/-- R94: MSU takes a cause: it applies it to the movers in its scope and hands it to FR. -/
def State.takeCause (s : State) (c : CauseMessage) : State :=
  (c.scope.movers.foldl (fun t m => t.applyCause c.cause m) s).handFault (s.faultOfCause c)

/-- A Permitted or Stopping mover enters Parked, or a Stopping one Halted, at a lead: relay open, parked position the
lead, excursion closed, authority fields empty, parking conversion (R97, R79, R103, R105, R60, R53). -/
def State.comeToRest (s : State) (m : Mover) (stopEnd : StopEnd) (lead : Int) : State :=
  let s1 := s.commandRelay m false
  let r := s1.msu.get m
  let s2 := s1.setMover m { r with
    state := if stopEnd = .halted then .halted else .parked
    stopCause := if stopEnd = .halted then r.stopCause else none
    haltCauses := if stopEnd = .halted then r.haltCauses else []
    stopEnd := none
    parkedPosition := some lead
    uncommandedOpen := false }
  let s3 := ((s2.endAuthority m).handMoverChange m (if stopEnd = .halted then .halted else .parked)).parkingConversion m
  if stopEnd = .halted then s3 else s3.postParked m lead

/-- R100: a Tripped mover at standstill goes to Halted at a lead. -/
def State.endTrip (s : State) (m : Mover) (lead : Int) : State :=
  let r := s.msu.get m
  let s1 := s.setMover m { r with
    state := .halted, tripTimer := .stopped, parkedPosition := some lead, uncommandedOpen := false }
  ((s1.endAuthority m).handMoverChange m .halted).parkingConversion m

/-- R79: whether a mover's authority is consumed: at mover standstill, its end no more than M + 200 ahead. -/
def consumedAt (p : MoverParams) (d : Direction) (lead authorityEnd : Int) (standstill : Bool) : Bool :=
  standstill && decide ((authorityEnd - lead) * d.sign ≤ p.stopMargin + 200)

/-- Whether every axis of a mover is Valid. -/
def State.allAxesValid (s : State) (m : Mover) : Bool :=
  (axesOf m).all fun a => (s.pos.axes.get a).validity == .valid

/-- Whether both loop channels are closed. -/
def State.loopChannelsClosed (s : State) : Bool := (s.slu.channels.get .a).filtered && (s.slu.channels.get .b).filtered

/-- Whether a halt cause of a mover is gone (R95, R107). -/
def State.causeGone (s : State) (m : Mover) (c : Cause) : Bool :=
  match c with
  | .readerLoss | .readerDiscrepancy => s.allAxesValid m
  | .overspeed | .overrun | .rollback | .uncommandedMotion => (s.pos.movers.get m).standstill
  | .skewTrip =>
    match (s.asu.skew.get m).lastSpread with
    | some x => decide (x < (s.params m).skewAlarm)
    | none => true
  | .safetyLoop => s.loopChannelsClosed
  | .driveTrip => !(s.slu.trips.get m).filtered
  | .braceLost => (s.braceState .east).isKnown && (s.braceState .west).isKnown
  | .linkSilence => (s.spu.ports.get (ownerOf m)).link == .live
  | .windLimit | .stopRequest | .permitsOff | .disarm | .venueSilence | .device | .brakeFault | .relayStuck
  | .braceStalled => true

end Sys2Proof.Machine
end

