-- ==== Sys2Proof/Machine/Requests.lean ====
section
/-! DEFINITION. The port arbiter and the request handler (R153), the handler's checks (R154) and the forming of replies
(R152). -/

namespace Sys2Proof.Machine

/-- The outcome of a command that the part takes while it runs; while the reset line holds it in reset it takes none
(R146, log 10). -/
def State.whileRunning (s : State) (f : State → State) : Host.Outcome State Fault Refusal :=
  .next (if s.slu.heldInReset then s else f s)

/-- The command a queued request is: its row of the table. A body that spells no form of a two-form request is the
first form's (DESIGN CHOICE, log 18). -/
def requestRow (r : Request) : Instr :=
  match codeOfByte r.code with
  | none => .unknownRequestCode
  | some .status => if r.body.length = 2 then .moverStatus else .status
  | some .notice => .notice
  | some .mask => .mask
  | some .reserve => .reserve
  | some .release => .release
  | some .move => .move
  | some .stop => .stop
  | some .clear => .clear
  | some .brace => if r.body = [2#8] then .braceWithdraw else .braceEngage
  | some .braceClear => .braceClear
  | some .barrier => if r.body.length = 4 ∧ fieldAt r.body 3 = 0 then .barrierOpen else .barrierClose
  | some .permits => if r.body = [1#8] then .permitsOn else .permitsOff
  | some .arm => .arm
  | some .standby => .standby
  | some .reset => .reset
  | some .faultRead => .faultRead
  | some .faultClear => .faultClear
  | some .configRead => .configRead
  | some .configWrite => .configWrite
  | some .commit => .commit

/-- Whether a request is held at the head of its port: in Arming, by its code (R139, R153). -/
def State.isHeld (s : State) (r : Request) : Bool :=
  s.dsu.state == .arming &&
    match codeOfByte r.code with
    | some c => heldInArming c
    | none => false

/-- How many replies to served requests an output holds (R153). -/
def servedReplies (out : List ReplyFrame) : Nat := (out.filter fun f => f.kind != .busy).length

/-- How many BUSY replies to frames that found the queue full an output holds (R151). -/
def busyReplies (out : List ReplyFrame) : Nat := (out.filter fun f => f.kind == .busy).length

/-- The request at the head of a port, where it is grantable (R153). -/
def State.grantableHead (s : State) (p : Port) : Option Request :=
  match (s.spu.ports.get p).queue with
  | [] => none
  | r :: _ =>
    if !s.isHeld r && decide (servedReplies (s.spu.ports.get p).output < 2) && !(p == .venue && s.cs.commit.isSome) then
      some r
    else none

/-- The ports in the arbiter's order, from the one after the last granted (R153). -/
def arbiterOrder : Port → List Port
  | .roof => [.pitch, .venue, .roof]
  | .pitch => [.venue, .roof, .pitch]
  | .venue => [.roof, .pitch, .venue]

/-- The arbiter's next grant: the port and the request (R153). None after an accepted RESET (R148). -/
def State.grant (s : State) : Option (Port × Request) :=
  if s.spu.handler = .free then
    (arbiterOrder s.spu.lastGranted).findSome? fun p => (s.grantableHead p).map fun r => (p, r)
  else none

/-- The head taken out of a port's queue, and the port become the last granted (R153). -/
def State.takeHead (s : State) (p : Port) : State :=
  let r := s.spu.ports.get p
  s.withSpu { s.spu with ports := s.spu.ports.set p { r with queue := r.queue.tail }, lastGranted := p }

/-- The owner check: whether a request names a mover, 1 to 5, that the other role owns (R154). -/
def wrongOwner (p : Port) (body : List Byte) : Bool :=
  match moverOfNumber (fieldAt body 0) with
  | some m => p != .venue && ownerOf m != p
  | none => false

/-- The handler's checks in order; the first that fails gives the outcome (R154). -/
def State.handlerRefusal (s : State) (p : Port) (r : Request) : Option ReplyOutcome :=
  match codeOfByte r.code with
  | none => some .badRequest
  | some c =>
    if s.dsu.state = .locked ∧ servedInLocked c = false then some .locked
    else if roleMaySend c p = false then some .notPermitted
    else if bodyLengthOk c r.body.length = false then some .badRequest
    else if namesMover c = true ∧ wrongOwner p r.body = true then some .notOwner
    else none

/-- A frame put into a port's reply output (R152). -/
def State.putFrame (s : State) (p : Port) (f : ReplyFrame) : State :=
  let r := s.spu.ports.get p
  s.setPort p { r with output := r.output ++ [f] }

/-- A reply to a served request. The reply to an accepted RESET is marked, so that its last byte is known (R148). -/
def State.reply (s : State) (p : Port) (tag : Byte) (a : Answer) : State :=
  let kind : ReplyKind := if s.spu.handler = .resetAccepted then .resetAccepted else .served
  s.putFrame p ⟨kind, p, tag, a.code, a.body⟩

/-- What an owning block makes of a request: its new state, and the answer, absent for a COMMIT whose reply waits for
the storage write (R153). -/
abbrev Settlement := Port → Request → State → State × Option Answer

/-- The handler serves one granted request: takes the head, makes the checks, hands it to its block and forms the reply
(R153). -/
def State.handle (s : State) (p : Port) (r : Request) (settle : Settlement) : State :=
  let s1 := s.takeHead p
  match s1.handlerRefusal p r with
  | some o => s1.reply p r.tag (refuse o)
  | none =>
    match settle p r s1 with
    | (s2, some a) => s2.reply p r.tag a
    | (s2, none) => s2

/-- A request command: the handler's next grant, where the granted request is of the command's row; else the command
does not occur and nothing changes (R153, log 2). -/
def State.serve (s : State) (row : Instr) (settle : Settlement) : State :=
  match s.grant with
  | some (p, r) => if requestRow r = row then s.handle p r settle else s
  | none => s

/-- A settlement that changes nothing but answers. -/
def answerOnly (f : Port → Request → State → Answer) : Settlement := fun p r s => (s, some (f p r s))

end Sys2Proof.Machine
end

