-- ==== Sys2Proof/Machine/Readers.lean ====
section
/-! DEFINITION. The commands of the Position Unit (chapter 2): READING_ARRIVAL, GAP_TIMER_EXPIRY, LOSS_TIMER_EXPIRY. -/

namespace Sys2Proof.Machine

/-! ## Which reader a frame is of (R17) and its class (R18) -/

/-- The reader a frame is of; none for a frame POS discards (R17). -/
def addressee (bus : ReaderBus) (f : ReadingFrame) : Option (Axis × ReaderRole) :=
  if f.checkMatches then
    match bus with
    | .a => (axisOfNumber f.address).map fun a => (a, .primary)
    | .b => if 13 ≤ f.address then (axisOfNumber (f.address - 12)).map fun a => (a, .check) else none
  else none

/-- The classes of a reading arrival (R18). -/
inductive ReadingClass where
  | missing | duplicate
  | good (st : GoodStatus)
deriving DecidableEq, Repr

/-- The length of an axis's path in the active image (R18). -/
def State.pathLengthOf (s : State) (a : Axis) : Int := (s.cs.active.path (pathOf (moverOfAxis a))).length

/-- R18: a reading is missing, a duplicate, or good. -/
def classify (pathLength : Int) (r : ReaderRec) (f : ReadingFrame) : ReadingClass :=
  if f.status = .fault ∨ f.position < 0 ∨ pathLength < f.position then .missing
  else if r.lastSequence = some f.sequence then .duplicate
  else .good (if f.status = .warn then .warn else .ok)

/-! ## The window and the speed (R25, R26) -/

/-- A reading entered into a window (R25). -/
def enterWindow (w : List WindowEntry) (e : WindowEntry) : List WindowEntry :=
  match w.getLast? with
  | none => [e]
  | some n =>
    let step := (e.sequence - n.sequence).toNat
    if 1 ≤ step ∧ step ≤ 4 then
      let w' := w ++ [e]
      if 10 < w'.length then w'.drop 1 else w'
    else [e]

/-- The total sequence span of a window (R26). -/
def totalSpan : List WindowEntry → Nat
  | x :: y :: rest => (y.sequence - x.sequence).toNat + totalSpan (y :: rest)
  | _ => 0

/-- The speed a window of two or more entries gives; the speed kept for a shorter one (R26). -/
def speedFrom (w : List WindowEntry) (kept : Int) : Int :=
  match w.head?, w.getLast? with
  | some o, some n =>
    if 2 ≤ w.length then saturate 9999 (((n.position - o.position) * 1000).tdiv (20 * (totalSpan w : Int))) else kept
  | _, _ => kept

/-- A window started again with a reading of a reader (R21 to R23). -/
def AxisRec.restart (r : AxisRec) (role : ReaderRole) (e : WindowEntry) : AxisRec :=
  { r with window := [e], source := some role, position := some e.position }

/-- A reading of the window source entered (R25). -/
def AxisRec.accept (r : AxisRec) (role : ReaderRole) (e : WindowEntry) : AxisRec :=
  { r with window := enterWindow r.window e, source := some role, position := some e.position }

/-! ## Validity (R20 to R24) -/

/-- A good primary reading by validity state; it is always an accepted reading. -/
def AxisRec.onPrimary (r : AxisRec) (e : WindowEntry) : AxisRec :=
  match r.validity with
  | .unknown | .substituted | .holding => { r.restart .primary e with validity := .valid }
  | .valid => r.accept .primary e
  | .invalid =>
    if 5 ≤ r.recovery + 1 then { r.accept .primary e with validity := .valid, recovery := 0 }
    else { r.accept .primary e with recovery := r.recovery + 1 }

/-- A good check reading by validity state. -/
def AxisRec.onCheck (r : AxisRec) (e : WindowEntry) : AxisRec :=
  match r.validity with
  | .unknown | .valid | .invalid => { r with freshCheck := true }
  | .substituted => { r.accept .check e with freshCheck := true }
  | .holding => { r.restart .check e with validity := .substituted, freshCheck := true }

/-- Whether a good reading of a reader is an accepted reading of the axis (R20 to R25). -/
def isAccepted (v : Validity) : ReaderRole → Bool
  | .primary => true
  | .check => v == .substituted || v == .holding

/-- A broken recovery chain of an Invalid axis (R24). -/
def AxisRec.breakChain (r : AxisRec) : AxisRec :=
  if r.validity = .invalid then { r with recovery := 0, window := [], source := none } else r

/-- The speed and the standstill count after an accepted reading (R26, R27). -/
def AxisRec.afterAccepted (r : AxisRec) : AxisRec :=
  let v := speedFrom r.window r.speed
  { r with speed := v, standstillCount := if absInt v ≤ 5 then min 5 (r.standstillCount + 1) else 0 }

/-! ## The cross-check (R28) -/

/-- The tolerance of a comparison (R28). -/
def crossTolerance (readerTolerance speed : Int) : Int := readerTolerance + absInt speed * 40 / 1000

/-- Whether a comparison of a primary position with the check reader's last good position fails (R28). -/
def comparisonFails (tol primary : Int) (check : Option Int) : Bool :=
  match check with
  | some c => decide (tol < absInt (primary - c))
  | none => false

/-- R28: the axis after a comparison, and whether it is the third consecutive failure. -/
def AxisRec.crossCheck (r : AxisRec) (fails : Bool) : AxisRec × Bool :=
  if fails then
    if 3 ≤ r.discrepancies + 1 then ({ r with freshCheck := false, discrepancies := 0 }, true)
    else ({ r with freshCheck := false, discrepancies := r.discrepancies + 1 }, false)
  else ({ r with freshCheck := false, discrepancies := 0 }, false)

/-! ## What POS hands on (R33) -/

/-- The mover speed and standstill of the axes as they stand (R27). -/
def State.formMotion (s : State) (m : Mover) : State :=
  let r := s.pos.movers.get m
  s.withPos { s.pos with movers := s.pos.movers.set m { r with
    speed := greatest ((axesOf m).map fun a => absInt (s.pos.axes.get a).speed)
    standstill := (axesOf m).all fun a => (s.pos.axes.get a).standstill } }

/-- The position update a mover's record makes, for a reading of an axis (R33). -/
def State.positionUpdate (s : State) (m : Mover) (a : Axis) (first : Bool) : PositionUpdate :=
  let r := s.pos.movers.get m
  { mover := m, axis := a, first := first
    axes := (axesOf m).map fun x =>
      let y := s.pos.axes.get x
      ⟨x, y.position, y.speed, y.validity, y.standstill⟩
    body := r.body, lead := r.lead, furthest := r.furthest, speed := r.speed, standstill := r.standstill }

/-- A position update handed to ZT, ASU and MSU, and its body change to BRC (R33). -/
def State.handUpdate (s : State) (u : PositionUpdate) : State :=
  (s.withHand { s.hand with
    toZt := s.hand.toZt ++ [u], toAsu := s.hand.toAsu ++ [u], toMsu := s.hand.toMsu ++ [u] }).handDemand (.bodyChange u)

/-- The data every POS cause carries: axis, lead, the last good positions of its readers, axis speed (R33). -/
def State.posData (s : State) (a : Axis) : CauseData :=
  { CauseData.nothing with
    axis := some a
    lead := (s.pos.movers.get (moverOfAxis a)).lead
    primary := (s.pos.primary.get a).lastPosition
    check := (s.pos.check.get a).lastPosition
    speed := some (s.pos.axes.get a).speed }

/-- A cause of POS against an axis's mover (R33). -/
def State.raiseAgainstAxis (s : State) (c : Cause) (a : Axis) : State :=
  s.raise ⟨c, .one (moverOfAxis a), s.posData a⟩

/-- A change of an axis's validity handed on, where there is one (R33). -/
def State.handValidityChange (s : State) (a : Axis) (before : Validity) : State :=
  let after := (s.pos.axes.get a).validity
  if before = after then s else s.handValidity ⟨a, before, after⟩

/-- An axis record replaced. -/
def State.setAxis (s : State) (a : Axis) (r : AxisRec) : State :=
  s.withPos { s.pos with axes := s.pos.axes.set a r }

/-! ## A good reading (R18 to R33) -/

/-- R18, R29: the reader's record, and READER DEGRADED where a WARN opens a run. -/
def State.recordReading (s : State) (a : Axis) (role : ReaderRole) (f : ReadingFrame) (st : GoodStatus) : State :=
  let r := s.pos.reader a role
  let s1 := s.withPos (s.pos.setReader a role
    { lastSequence := some f.sequence, lastPosition := some f.position, lastStatus := some st
      warnRun := st == .warn, gapRunning := true })
  if st = .warn ∧ r.warnRun = false then
    s1.post .pos (ownerAndVenue (moverOfAxis a)) ⟨.readerDegraded, 4, .mover (moverOfAxis a), readerAddress a role⟩
  else s1

/-- R19 to R27: the axis after a good reading: the loss timer, the validity state, the window, the speed and the
standstill count. -/
def AxisRec.afterGood (r : AxisRec) (role : ReaderRole) (e : WindowEntry) : AxisRec :=
  let r1 := { r with lossRunning := true }
  let r2 := match role with
    | .primary => r1.onPrimary e
    | .check => r1.onCheck e
  if isAccepted r.validity role then r2.afterAccepted else r2

/-- R28: a good primary reading is compared where fresh check is set. -/
def State.crossCheckAxis (s : State) (a : Axis) (role : ReaderRole) (position : Int) : State × Bool :=
  let r := s.pos.axes.get a
  if role = .primary ∧ r.freshCheck = true then
    let fails := comparisonFails (crossTolerance s.cs.active.general.readerTolerance r.speed) position
      (s.pos.check.get a).lastPosition
    let x := r.crossCheck fails
    (s.setAxis a x.1, x.2)
  else (s, false)

/-- A good reading, taken in the order of R33, and what POS hands on of it. -/
def State.goodReading (s : State) (a : Axis) (role : ReaderRole) (f : ReadingFrame) (st : GoodStatus) : State :=
  let m := moverOfAxis a
  let before := s.pos.axes.get a
  let hadBody := (s.pos.movers.get m).body.isSome
  let s1 := s.recordReading a role f st
  let s2 := s1.setAxis a (before.afterGood role ⟨f.position, f.sequence⟩)
  let x := s2.crossCheckAxis a role f.position
  let accepted := isAccepted before.validity role
  let s3 := if accepted then (x.1.formGeometry m).formMotion m else x.1
  let s4 := if x.2 then s3.raiseAgainstAxis .readerDiscrepancy a else s3
  let s5 := s4.handValidityChange a before.validity
  if accepted then s5.handUpdate (s5.positionUpdate m a (!hadBody && (s5.pos.movers.get m).body.isSome)) else s5

/-- R17, R18: a reading frame arrives. -/
def State.takeReading (s : State) (bus : ReaderBus) (f : ReadingFrame) : State :=
  match addressee bus f with
  | none => s
  | some (a, role) =>
    match classify (s.pathLengthOf a) (s.pos.reader a role) f with
    | .missing => if role = .primary then s.setAxis a (s.pos.axes.get a).breakChain else s
    | .duplicate => s
    | .good st => s.goodReading a role f st

/-! ## Timer expiries (R19, R21 to R24) -/

/-- R21 to R24: the axis after the expiry of one of its readers' gap timers. -/
def AxisRec.onGapExpiry (r : AxisRec) (role : ReaderRole) (check : ReaderRec) : AxisRec :=
  match role, r.validity with
  | .primary, .valid =>
    match check.gapRunning, check.lastPosition, check.lastSequence with
    | true, some x, some q => { r.restart .check ⟨x, q⟩ with validity := .substituted }
    | _, _, _ => { r with validity := .holding }
  | .primary, .invalid => r.breakChain
  | .check, .substituted => { r with validity := .holding }
  | _, _ => r

/-- A reader's gap timer expires; nothing where it is not running. The change of validity is handed on, and no position
update (R33, log 17). -/
def State.takeGapExpiry (s : State) (a : Axis) (role : ReaderRole) : State :=
  let r := s.pos.reader a role
  if r.gapRunning then
    let s1 := s.withPos (s.pos.setReader a role { r with gapRunning := false })
    let before := s1.pos.axes.get a
    let s2 := s1.setAxis a (before.onGapExpiry role (s1.pos.check.get a))
    (s2.formGeometry (moverOfAxis a)).handValidityChange a before.validity
  else s

/-- R24: the axis on entry to Invalid. -/
def AxisRec.enterInvalid (r : AxisRec) : AxisRec :=
  { r with validity := .invalid, standstillCount := 0, window := [], source := none, recovery := 0 }

/-- An axis's loss timer expires; in Holding the axis goes Invalid and READER LOSS is raised (R24). Nothing where it is
not running. -/
def State.takeLossExpiry (s : State) (a : Axis) : State :=
  let r := s.pos.axes.get a
  if r.lossRunning then
    if r.validity = .holding then
      (((s.setAxis a { r.enterInvalid with lossRunning := false }).formMotion (moverOfAxis a)).raiseAgainstAxis
        .readerLoss a).handValidityChange a .holding
    else s.setAxis a { r with lossRunning := false }
  else s

/-! ## The commands -/

/-- READING_ARRIVAL. -/
def execReadingArrival (bus : ReaderBus) (f : ReadingFrame) (s : State) : Host.Outcome State Fault Refusal :=
  s.whileRunning fun s => s.takeReading bus f

/-- GAP_TIMER_EXPIRY. -/
def execGapTimerExpiry (a : Axis) (role : ReaderRole) (s : State) : Host.Outcome State Fault Refusal :=
  s.whileRunning fun s => s.takeGapExpiry a role

/-- LOSS_TIMER_EXPIRY. -/
def execLossTimerExpiry (a : Axis) (s : State) : Host.Outcome State Fault Refusal :=
  s.whileRunning fun s => s.takeLossExpiry a

end Sys2Proof.Machine
end

