-- ==== Sys2Proof/Machine/Zones.lean ====
section
/-! DEFINITION. The commands of the Zone Table (chapter 3): RESERVE, RELEASE, BARRIER, POSITION_UPDATE_ZT and
BRACE_SWITCH_LOSS. -/

namespace Sys2Proof.Machine

/-! ## RESERVE (R39 to R43) -/

/-- A zone held by, or Clearing for, another mover (R40, condition 1). -/
def ZoneRec.takenByOther (z : ZoneRec) (m : Mover) : Bool :=
  (z.holder.isSome && z.holder != some m) || (z.clearingFor.isSome && z.clearingFor != some m)

/-- The numbers of the zones of a mover's own set (R38). -/
def ownNumbers (zs : List ZoneRec) (m : Mover) (body : Option Extent) : List Nat :=
  (zs.zipIdx.filter fun x => inOwnSet m body x.1).map (·.2)

/-- Whether some zone of a range belongs to a set of zone numbers or lies next to one of them (R40, condition 5). -/
def adjacentTo (r : ZoneRange) (own : List Nat) : Bool :=
  own.any fun k => decide (r.first ≤ k + 1) && decide (k ≤ r.last + 1)

/-- R40: the first condition that refuses a range, with the zone it names. NOT_ADJACENT, tested once for the range,
names the range's first zone (log 29). -/
def State.reserveRefusal (s : State) (m : Mover) (r : ZoneRange) : Option (ReplyOutcome × Nat) :=
  let zs := s.zt.zones (pathOf m)
  let byZone := fun (o : ReplyOutcome) (p : ZoneRec → Bool) => (lowestWhere zs r p).map fun k => (o, k)
  byZone .heldByOther (fun z => z.takenByOther m)
    <|> byZone .barred (fun z => z.barrier != .opened)
    <|> byZone .braceState (fun z => !s.needMet z.need)
    <|> byZone .braceDemand (fun z => z.need == .withdrawn && s.brc.demand)
    <|> (if adjacentTo r (ownNumbers zs m (s.zt.body.get m)) then none else some (.notAdjacent, r.first))
    <|> byZone .wind (fun z => isPanel m && z.need == .engaged && s.wm.state.barsPanels)

/-- R42: one zone of a granted range. -/
def ZoneRec.grantTo (z : ZoneRec) (m : Mover) : ZoneRec :=
  { z with
    holder := some m
    clearingFor := if z.clearingFor = some m then none else z.clearingFor
    resting := dropMover m z.resting
    waiting := dropMover m z.waiting }

/-- R43: one zone of a range refused with HELD_BY_OTHER. -/
def ZoneRec.enterWaiting (z : ZoneRec) (m : Mover) : ZoneRec :=
  if z.takenByOther m then { z with waiting := addMover m z.waiting } else z

/-- The zones of a range on a mover's path changed by a function. -/
def State.zonesMapped (s : State) (m : Mover) (r : ZoneRange) (f : ZoneRec → ZoneRec) : ZoneTable :=
  s.zt.setZones (pathOf m) (mapRange (s.zt.zones (pathOf m)) r f)

/-- RESERVE of a settled range by a mover in Armed (R40, R42, R43). -/
def State.reserveRange (s : State) (m : Mover) (r : ZoneRange) : State × Option Answer :=
  match s.reserveRefusal m r with
  | none =>
    (s.commitZones (s.zonesMapped m r fun z => z.grantTo m),
      some (doneClamped r.clamped (byteField (moverNumber m) ++ byteField r.first ++ byteField r.last)))
  | some (o, k) =>
    (if o = .heldByOther then s.commitZones (s.zonesMapped m r fun z => z.enterWaiting m) else s,
      some ⟨o, false, byteField k⟩)

/-- The range a RESERVE or RELEASE body names for a mover (R39, R47). -/
def State.rangeOf (s : State) (m : Mover) (body : List Byte) : ZoneRange :=
  settleRange (s.zt.zones (pathOf m)).length (fieldAt body 1) (fieldAt body 2)

/-- R39. -/
def settleReserve : Settlement := fun _ r s =>
  if s.dsu.state = .armed then
    match moverOfNumber (fieldAt r.body 0) with
    | none => (s, some (refuse .badRequest))
    | some m => s.reserveRange m (s.rangeOf m r.body)
  else (s, some (refuse .notArmed))

/-- RESERVE. -/
def execReserve (s : State) : Host.Outcome State Fault Refusal :=
  s.whileRunning fun s => s.serve .reserve settleReserve

/-! ## RELEASE (R47 to R50) -/

/-- R48: one zone released by a mover at rest. -/
def ZoneRec.releaseAtRest (z : ZoneRec) (m : Mover) (body : Option Extent) : ZoneRec :=
  if z.holder = some m then
    { z with holder := none
             resting := if bodyOverlaps body z then addMover m z.resting else z.resting }.settleBarrier
  else z

/-- Whether an envelope, where there is one, reaches a zone (R49). -/
def envelopeReachesZone (e : Option Envelope) (z : ZoneRec) : Bool :=
  match e with
  | some x => x.reaches z
  | none => false

/-- R49: one zone released by a moving mover whose body does not overlap it. -/
def ZoneRec.releaseMoving (z : ZoneRec) (m : Mover) (e : Option Envelope) : ZoneRec :=
  if z.holder = some m then
    { z with holder := none
             clearingFor := if envelopeReachesZone e z then some m else z.clearingFor }.settleBarrier
  else z

/-- R50: the authority end of a Permitted or Stopping mover after a release. -/
def State.shortenAuthority (s : State) (m : Mover) : State :=
  let a := s.authorityOf m
  let p := s.params m
  let r := s.pos.movers.get m
  match a.direction, a.authorityEnd, r.lead with
  | some d, some e, some l =>
    let far := runBoundary d l (heldRun (s.zt.zones (pathOf m)) m d l) - d.sign * p.bodyMargin
    s.setAuthority m { a with
      authorityEnd := some (lessAdvancedOf d (moreAdvancedOf d far (stoppingPoint p d l r.speed)) e) }
  | _, _, _ => s

/-- How many zones of a range satisfy a test. -/
def countIn (zs : List ZoneRec) (r : ZoneRange) (p : ZoneRec → Bool) : Nat :=
  ((zonesIn zs r).filter fun x => p x.1).length

/-- RELEASE of a settled range (R47 to R50). -/
def State.releaseRange (s : State) (m : Mover) (r : ZoneRange) : State × Option Answer :=
  let zs := s.zt.zones (pathOf m)
  let body := s.zt.body.get m
  let lost := countIn zs r fun z => z.holder == some m
  if (s.moverState m).atRest then
    (s.commitZones (s.zonesMapped m r fun z => z.releaseAtRest m body),
      some (doneClamped r.clamped (byteField lost ++ byteField 0 ++ bytesOf 4 0)))
  else
    match lowestWhere zs r (bodyOverlaps body) with
    | some k => (s, some ⟨.occupied, false, byteField k⟩)
    | none =>
      let e := s.envelopeOf m
      let s1 := s.commitZones (s.zonesMapped m r fun z => z.releaseMoving m e)
      let s2 := if (s.moverState m).hasAuthority then s1.shortenAuthority m else s1
      let stands := if (s.moverState m).hasAuthority then (s2.authorityOf m).authorityEnd else none
      (s2, some (doneClamped r.clamped (byteField lost
        ++ byteField (countIn zs r fun z => z.holder == some m && envelopeReachesZone e z) ++ optField 4 stands)))

/-- R47. -/
def settleRelease : Settlement := fun _ r s =>
  match moverOfNumber (fieldAt r.body 0) with
  | none => (s, some (refuse .badRequest))
  | some m => s.releaseRange m (s.rangeOf m r.body)

/-- RELEASE. -/
def execRelease (s : State) : Host.Outcome State Fault Refusal :=
  s.whileRunning fun s => s.serve .release settleRelease

/-! ## BARRIER (R54, R55) -/

/-- R55, the Close column. -/
def ZoneRec.close (z : ZoneRec) : ZoneRec :=
  if z.barrier = .opened then
    { z with barrier := if z.holder.isSome || z.clearingFor.isSome then .pending else .closed }
  else z

/-- R55, the Open column. -/
def ZoneRec.unbar (z : ZoneRec) : ZoneRec := { z with barrier := .opened }

/-- The path a field names (R54). -/
def pathOfNumber (n : Nat) : Option Path :=
  match n with
  | 1 => some .runway | 2 => some .tray | _ => none

/-- The change of a zone's barrier an action field names: 1 close, 0 open (R54). -/
def barrierAction (n : Nat) : Option (ZoneRec → ZoneRec) :=
  match n with
  | 0 => some ZoneRec.unbar | 1 => some ZoneRec.close | _ => none

/-- BARRIER of a settled range on a path (R54, R55). -/
def State.barRange (s : State) (p : Path) (r : ZoneRange) (f : ZoneRec → ZoneRec) : State × Option Answer :=
  let zs := mapRange (s.zt.zones p) r f
  (s.commitZones (s.zt.setZones p zs),
    some (doneClamped r.clamped
      (byteField (countIn zs r fun z => z.barrier == .closed) ++ byteField (countIn zs r fun z => z.barrier == .pending))))

/-- R54. -/
def settleBarrierRequest : Settlement := fun _ r s =>
  if s.dsu.state = .armed then
    match pathOfNumber (fieldAt r.body 0), barrierAction (fieldAt r.body 3) with
    | some p, some f =>
      s.barRange p (settleRange (s.zt.zones p).length (fieldAt r.body 1) (fieldAt r.body 2)) f
    | _, _ => (s, some (refuse .badRequest))
  else (s, some (refuse .notArmed))

/-- BARRIER_CLOSE. -/
def execBarrierClose (s : State) : Host.Outcome State Fault Refusal :=
  s.whileRunning fun s => s.serve .barrierClose settleBarrierRequest

/-- BARRIER_OPEN. -/
def execBarrierOpen (s : State) : Host.Outcome State Fault Refusal :=
  s.whileRunning fun s => s.serve .barrierOpen settleBarrierRequest

/-! ## POSITION_UPDATE_ZT (R37, R44, R51) -/

/-- R37: one zone at a position update of a mover at rest. -/
def restUpdate (m : Mover) (body : Option Extent) (z : ZoneRec) : ZoneRec :=
  z.setResting m (bodyOverlaps body z && z.holder != some m)

/-- R44: whether a zone is one a moving mover's update releases: held, overlapped before, not after, and behind. -/
def releasedBehind (m : Mover) (d : Direction) (before after : Option Extent) (z : ZoneRec) : Bool :=
  match after with
  | some b => z.holder == some m && bodyOverlaps before z && !b.overlaps z && zoneBehind d b z
  | none => false

/-- R44, R51: one zone at a position update of a moving mover, which is in no resting set (R37). A clearing that ends here
leaves the authority end as it stands (DEDUCED from R60, log 35). -/
def movingUpdate (m : Mover) (d : Direction) (before after : Option Extent) (e : Option Envelope) (z : ZoneRec) :
    ZoneRec :=
  let z1 := z.setResting m false
  if releasedBehind m d before after z then { z1 with holder := none }.settleBarrier
  else if bodyOverlaps after z || envelopeTouches e z then z1
  else z1.endClearing m

/-- ZT takes a position update. One formed before a parking conversion or a commit and taken after it puts its older body
back, on which the rules are silent (DESIGN CHOICE, log 42). -/
def State.updateZones (s : State) (u : PositionUpdate) : State :=
  let m := u.mover
  let before := s.zt.body.get m
  let t := { s.zt with body := s.zt.body.set m u.body }
  let f := if (s.moverState m).atRest then restUpdate m u.body
    else movingUpdate m (s.directionOf m) before u.body (s.envelopeFrom m u.body u.lead u.speed)
  s.commitZones (t.setZones (pathOf m) ((t.zones (pathOf m)).map f))

/-- ZT takes the oldest position update in flight of a mover (log 1). -/
def State.takeUpdateZt (s : State) (m : Mover) : State :=
  match takeNth (fun u => u.mover == m) 0 s.hand.toZt with
  | some (u, rest) => (s.withHand { s.hand with toZt := rest }).updateZones u
  | none => s

/-- POSITION_UPDATE_ZT. -/
def execPositionUpdateZT (m : Mover) (s : State) : Host.Outcome State Fault Refusal :=
  s.whileRunning fun s => s.takeUpdateZt m

/-! ## BRACE_SWITCH_LOSS (R57) -/

/-- R57: one zone at a brace switch loss. A hold that is lost and does not turn to Clearing leaves the authority end as it
stands, until MSU takes BRACE LOST (DEDUCED from R60, log 35). -/
def State.loseHold (s : State) (z : ZoneRec) : ZoneRec :=
  match z.holder with
  | some m =>
    if z.need = .nothing then z
    else if (s.moverState m).atRest then
      { z with holder := none
               resting := if bodyOverlaps (s.zt.body.get m) z then addMover m z.resting else z.resting }.settleBarrier
    else
      { z with holder := none
               clearingFor :=
                 if bodyOverlaps (s.zt.body.get m) z || envelopeTouches (s.envelopeOf m) z then some m
                 else z.clearingFor }.settleBarrier
  | none => z

/-- R57 over the whole table, as one event. -/
def State.loseHolds (s : State) : State :=
  s.commitZones { s.zt with runway := s.zt.runway.map s.loseHold, tray := s.zt.tray.map s.loseHold }

/-- ZT takes the oldest brace switch loss in flight (log 1). -/
def State.takeSwitchLoss (s : State) : State :=
  match takeOldest s.hand.switchLosses with
  | some (_, rest) => (s.withHand { s.hand with switchLosses := rest }).loseHolds
  | none => s

/-- BRACE_SWITCH_LOSS. -/
def execBraceSwitchLoss (s : State) : Host.Outcome State Fault Refusal :=
  s.whileRunning fun s => s.takeSwitchLoss

end Sys2Proof.Machine
end

