-- ==== Sys2Proof/Machine/Authorities.lean ====
section
/-! DEFINITION. The commands of the Authority and Supervision Unit (chapters 4 and 5): MOVE and POSITION_UPDATE_ASU. -/

namespace Sys2Proof.Machine

/-! ## MOVE: the refusals (R62) -/

/-- Whether a mover has a recorded direction other than the one given. -/
def State.isReversal (s : State) (m : Mover) (d : Direction) : Bool :=
  match (s.authorityOf m).direction with
  | some x => x != d
  | none => false

/-- R62, condition 4: a reversal asked of a Stopping mover, or of a Permitted one without mover standstill. -/
def State.refusesReversal (s : State) (m : Mover) (d : Direction) : Bool :=
  s.isReversal m d &&
    match s.moverState m with
    | .stopping => true
    | .permitted => !(s.pos.movers.get m).standstill
    | .parked | .tripped | .halted => false

/-- Whether an axis's validity keeps its mover from being granted authority (R62, condition 6). -/
def Validity.barsGrant : Validity → Bool
  | .unknown | .holding | .invalid => true
  | .valid | .substituted => false

/-- R62, condition 6. -/
def State.readerBars (s : State) (m : Mover) : Bool :=
  ((axesOf m).any fun a => ((s.pos.axes.get a).validity).barsGrant) || (s.pos.movers.get m).body.isNone

/-- R62, condition 7: some zone under the body is not held by the mover. -/
def State.bodyNotHeld (s : State) (m : Mover) : Bool :=
  (s.zt.zones (pathOf m)).any fun z => bodyOverlaps (s.pos.movers.get m).body z && z.holder != some m

/-- R62, conditions 1 to 7: the first that holds. -/
def State.moveRefusal (s : State) (m : Mover) (d : Direction) : Option ReplyOutcome :=
  if s.dsu.permits = false then some .permitsOff
  else if (s.spu.ports.get .venue).link = .silent then some .venueSilent
  else if s.moverState m = .halted ∨ s.moverState m = .tripped then some .halted
  else if s.refusesReversal m d = true then some .notStandstill
  else if isPanel m = true ∧ s.wm.state.barsPanels = true then some .wind
  else if s.readerBars m = true then some .reader
  else if s.bodyNotHeld m = true then some .notHeld
  else none

/-! ## MOVE: the settled end (R63, R64) -/

/-- An authority end on its way to a grant, and whether it is clamped. -/
structure SettledEnd where
  position : Int
  clamped : Bool
deriving DecidableEq, Repr

/-- R63: the candidate authority end, the least advanced of the target and the bounds; clamped where a bound is strictly
less advanced than the target. -/
def candidateEnd (d : Direction) (target : Int) (bounds : List Int) : SettledEnd :=
  ⟨leastAdvanced d target bounds, bounds.any fun x => moreAdvanced d target x⟩

/-- R64, step 1: the stopping-point floor. -/
def floorEnd (d : Direction) (stop authorityBound : Int) (c : SettledEnd) : SettledEnd :=
  if moreAdvanced d stop c.position then ⟨lessAdvancedOf d stop authorityBound, true⟩ else c

/-- R64, step 2: the limit to the stop target of a Stopping mover. -/
def limitEnd (d : Direction) (stopTarget : Option Int) (c : SettledEnd) : SettledEnd :=
  match stopTarget with
  | some t => if moreAdvanced d c.position t then ⟨t, true⟩ else c
  | none => c

/-- The mover's motion as it would be in a direction, the lead formed for it (R63). -/
def Motion.facing (mo : Motion) (p : MoverParams) (d : Direction) : Motion := { mo with lead := leadOf p mo.values d }

/-- R63, R64: the end a MOVE of a mover settles on. -/
def State.settleEnd (s : State) (m : Mover) (d : Direction) (target : Int) (mo : Motion) : SettledEnd :=
  let p := s.params m
  let zs := s.zt.zones (pathOf m)
  let lead := leadOf p mo.values d
  let run := heldRun zs m d lead
  let bounds := (runBoundary d lead run - d.sign * p.bodyMargin) :: clipPositions s.motionOf m d p.clipGap run mo
  let authorityBound := runBoundary d lead (authorityRun zs m d lead) - d.sign * p.bodyMargin
  let floored := floorEnd d (stoppingPoint p d lead mo.speed) authorityBound (candidateEnd d target bounds)
  limitEnd d (if s.moverState m = .stopping then (s.authorityOf m).stopTarget else none) floored

/-- Whether a grant is from Parked, or a reversal: the cap is set afresh and the furthest lead set anew (R65). -/
def State.isFresh (s : State) (m : Mover) (d : Direction) : Bool := s.moverState m == .parked || s.isReversal m d

/-- R64: whether an end leaves no room. -/
def noRoom (p : MoverParams) (d : Direction) (lead position : Int) : Bool :=
  decide ((position - lead) * d.sign ≤ p.stopMargin + 200)

/-! ## MOVE: the grant (R65) -/

/-- MSU takes a Parked mover to Permitted and commands its relay closed (R65, R103, R106). -/
def State.permit (s : State) (m : Mover) : State :=
  let r := s.msu.get m
  ((s.setMover m { r with state := .permitted, haltCauses := [], uncommandedOpen := false }).commandRelay m true).handMoverChange
    m .permitted

/-- POS forms the lead with the recorded direction and sets the furthest lead to it (R65, R32). -/
def State.restartFurthest (s : State) (m : Mover) : State :=
  let s1 := s.formGeometry m
  s1.withPos { s1.pos with movers := s1.pos.movers.modify m fun r => { r with furthest := r.lead } }

/-- R65: a MOVE is granted. -/
def State.grantMove (s : State) (port : Port) (m : Mover) (d : Direction) (position : Int) : State :=
  let fresh := s.isFresh m d
  let s1 := s.setAuthority m { s.authorityOf m with
    direction := some d, authorityEnd := some position, source := some port }
  let s2 := if s.moverState m = .parked then s1.permit m else s1
  let s3 := if fresh then s2.restartFurthest m else s2
  s3.computeCeilingsNow m fresh

/-- The body of a MOVE's DONE (R156). -/
def moveBody (m : Mover) (d : Direction) (position untrimmed : Int) : List Byte :=
  byteField (moverNumber m) ++ bytesOf 1 d.sign ++ bytesOf 4 position ++ bytesOf 2 untrimmed

/-- A MOVE in Armed with a valid body (R62 to R65). A mover with a body extent always has a motion. -/
def State.askMove (s : State) (port : Port) (m : Mover) (d : Direction) (target : Int) : State × Option Answer :=
  match s.moveRefusal m d, s.motionOf m with
  | some o, _ => (s, some (refuse o))
  | none, none => (s, some (refuse .reader))
  | none, some mo =>
    let e := s.settleEnd m d target mo
    if s.isFresh m d && noRoom (s.params m) d (leadOf (s.params m) mo.values d) e.position then
      (s, some (doneClamped true (moveBody m d e.position (s.authorityOf m).untrimmed)))
    else
      let s1 := s.grantMove port m d e.position
      (s1, some (doneClamped e.clamped (moveBody m d e.position (s1.authorityOf m).untrimmed)))

/-- R61. -/
def settleMove : Settlement := fun port r s =>
  if s.dsu.state = .armed then
    match moverOfNumber (fieldAt r.body 0), directionOfByte (byteAt r.body 1) with
    | some m, some d => s.askMove port m d (int32At r.body 2)
    | _, _ => (s, some (refuse .badRequest))
  else (s, some (refuse .notArmed))

/-- MOVE. -/
def execMove (s : State) : Host.Outcome State Fault Refusal :=
  s.whileRunning fun s => s.serve .move settleMove

/-! ## POSITION_UPDATE_ASU: the spread test (R86 to R88) -/

/-- Whether an update's axes are all Valid or Substituted (R86). -/
def PositionUpdate.tested (u : PositionUpdate) : Bool :=
  u.axes.all fun a => a.validity == .valid || a.validity == .substituted

/-- The speed of the axis whose reading carried an update. -/
def PositionUpdate.axisSpeed (u : PositionUpdate) : Int :=
  match u.axes.find? fun a => a.axis == u.axis with
  | some a => a.speed
  | none => 0

/-- The data of SKEW TRIP and of the causes of R76 and R77 (R78, R88). -/
def State.asuData (s : State) (u : PositionUpdate) : CauseData :=
  let base : CauseData := { CauseData.nothing with
    axis := some u.axis
    lead := u.lead
    primary := (s.pos.primary.get u.axis).lastPosition
    check := (s.pos.check.get u.axis).lastPosition
    speed := some u.axisSpeed }
  if (s.moverState u.mover).hasAuthority then
    { base with
      source := (s.authorityOf u.mover).source
      axisCeiling := some (s.asu.ceilings.get u.axis).ceiling
      authorityEnd := (s.authorityOf u.mover).authorityEnd }
  else base

/-- A cause of ASU against the updated mover. -/
def State.raiseAsu (s : State) (u : PositionUpdate) (c : Cause) : State := s.raise ⟨c, .one u.mover, s.asuData u⟩

/-- R86 to R88: the spread test of an update. -/
def State.spreadTest (s : State) (u : PositionUpdate) : State :=
  match u.motion with
  | none => s
  | some mo =>
    if u.tested then
      let m := u.mover
      let p := s.params m
      let spread := greatest mo.values - least mo.values
      let r := s.asu.skew.get m
      let alarm := decide (p.skewAlarm ≤ spread)
      let trip := decide (p.skewTrip ≤ spread)
      let s1 := s.withAsu { s.asu with skew := s.asu.skew.set m ⟨some spread, alarm, trip⟩ }
      let s2 := if alarm && !r.alarmOpen then
          s1.post .asu (ownerAndVenue m) ⟨.skewAlarm, 4, .mover m, spread⟩
        else s1
      if trip && !r.tripOpen then s2.raiseAsu u .skewTrip else s2
    else s

/-! ## POSITION_UPDATE_ASU: supervision (R75 to R79) -/

/-- R75: the over-ceiling mark of the axis read, the excursion, and OVERSPEED WARNING. -/
def State.superviseCeiling (s : State) (u : PositionUpdate) (forward : Int) : State :=
  let m := u.mover
  let c := s.asu.ceilings.get u.axis
  let cs := s.asu.ceilings.set u.axis { c with overMark := decide (c.ceiling < forward) }
  let marked := (axesOf m).any fun a => (cs.get a).overMark
  let a := s.authorityOf m
  let s1 := s.withAsu { s.asu with ceilings := cs, authority := s.asu.authority.set m { a with overspeedOpen := marked } }
  if marked && !a.overspeedOpen then
    s1.post .asu [ownerOf m] ⟨.overspeedWarning, 3, .mover m, forward⟩
  else s1

/-- R76: the over-intervention count of the axis read, and whether OVERSPEED is raised. -/
def State.superviseIntervention (s : State) (u : PositionUpdate) (forward : Int) : State × Bool :=
  let c := s.asu.ceilings.get u.axis
  let above := decide (interventionSpeed c.ceiling < forward)
  let raised := above && c.overCount != 0
  (s.withAsu { s.asu with
    ceilings := s.asu.ceilings.set u.axis { c with overCount := if above && !raised then 1 else 0 } }, raised)

/-- R77: whether the lead is beyond the authority end. -/
def overruns (d : Direction) (lead authorityEnd : Int) : Bool := decide (0 < (lead - authorityEnd) * d.sign)

/-- R77: whether the lead is behind the furthest lead by more than 50 mm. -/
def rollsBack (d : Direction) (lead furthest : Int) : Bool := decide (50 < (furthest - lead) * d.sign)

/-- A list of causes raised one after another. -/
def State.raiseEach (s : State) (u : PositionUpdate) (cs : List Cause) : State := cs.foldl (fun t c => t.raiseAsu u c) s

/-- R75 to R79: supervision of a mover with authority, and the authority-consumed test of a Permitted one. An update formed
before the mover's first grant carries no furthest lead (R32); where ASU takes it after the grant, R77 is silent, and the
model takes the lead itself, so that it raises no ROLLBACK (DESIGN CHOICE, log 43). -/
def State.supervise (s : State) (u : PositionUpdate) : State :=
  let m := u.mover
  match (s.authorityOf m).direction, (s.authorityOf m).authorityEnd, u.lead, u.furthest with
  | some d, some e, some l, f =>
    let forward := u.axisSpeed * d.sign
    let x := (s.superviseCeiling u forward).superviseIntervention u forward
    let causes := (if x.2 then [Cause.overspeed] else []) ++ (if overruns d l e then [Cause.overrun] else [])
      ++ (if rollsBack d l (f.getD l) then [Cause.rollback] else [])
    let s1 := x.1.raiseEach u causes
    if s.moverState m = .permitted ∧ causes = [] ∧ consumedAt (s.params m) d l e u.standstill = true then
      s1.handConsumed m
    else s1
  | _, _, _, _ => s

/-! ## POSITION_UPDATE_ASU: the work on an update (R68) -/

/-- The motions of the movers with the updated one as its update carries it (R66). -/
def State.viewWith (s : State) (u : PositionUpdate) (m : Mover) : Option Motion :=
  if m = u.mover then u.motion else s.motionOf m

/-- R66: the clip of every panel with authority, on an update of a panel. -/
def State.clipAll (s : State) (u : PositionUpdate) : State :=
  if isPanel u.mover then panels.foldl (fun t m => t.clipOne (s.viewWith u) m) s else s

/-- R68: ASU's work on a position update. -/
def State.superviseUpdate (s : State) (u : PositionUpdate) : State :=
  let s1 := s.clipAll u
  if (s.moverState u.mover).hasAuthority then
    let s2 := match u.motion with
      | some mo => s1.computeCeilings u.mover mo .compared
      | none => s1
    (s2.spreadTest u).supervise u
  else s1.spreadTest u

/-- ASU takes the oldest position update in flight of a mover (log 1). -/
def State.takeUpdateAsu (s : State) (m : Mover) : State :=
  match takeNth (fun u => u.mover == m) 0 s.hand.toAsu with
  | some (u, rest) => (s.withHand { s.hand with toAsu := rest }).superviseUpdate u
  | none => s

/-- POSITION_UPDATE_ASU. -/
def execPositionUpdateASU (m : Mover) (s : State) : Host.Outcome State Fault Refusal :=
  s.whileRunning fun s => s.takeUpdateAsu m

end Sys2Proof.Machine
end

