-- ==== Sys2Proof/Machine/Movers.lean ====
section
/-! DEFINITION. The commands of the Mover State Unit (chapter 6): consumption, position updates, causes, changes of device
state, the trip and readback timers, STOP and CLEAR. -/

namespace Sys2Proof.Machine

/-! ## AUTHORITY_CONSUMED (R79) -/

/-- R79: MSU takes a consumption: the mover parks while it is still Permitted and the test still holds. -/
def State.consume (s : State) (m : Mover) : State :=
  let a := s.authorityOf m
  let r := s.pos.movers.get m
  match s.moverState m, a.direction, a.authorityEnd, r.lead with
  | .permitted, some d, some e, some l =>
    if consumedAt (s.params m) d l e r.standstill then s.comeToRest m .parked l else s
  | _, _, _, _ => s

/-- MSU takes the oldest consumption in flight of a mover (log 1). -/
def State.takeConsumption (s : State) (m : Mover) : State :=
  match takeNth (fun x => x == m) 0 s.hand.consumed with
  | some (_, rest) => (s.withHand { s.hand with consumed := rest }).consume m
  | none => s

/-- AUTHORITY_CONSUMED. -/
def execAuthorityConsumed (m : Mover) (s : State) : Host.Outcome State Fault Refusal :=
  s.whileRunning fun s => s.takeConsumption m

/-! ## POSITION_UPDATE_MSU (R97, R100, R105, R106) -/

/-- The data of UNCOMMANDED MOTION: the axis of the update, the lead, the parked position and the axis speed (R106). -/
def motionData (u : PositionUpdate) (parked : Int) : CauseData :=
  { CauseData.nothing with axis := some u.axis, lead := u.lead, parked := some parked, speed := some u.axisSpeed }

/-- R106: the comparison of the lead of a mover at rest with its parked position. -/
def State.watchRest (s : State) (u : PositionUpdate) : State :=
  let r := s.msu.get u.mover
  match u.lead, r.parkedPosition with
  | some l, some q =>
    let away := decide (100 < absInt (l - q))
    let s1 := s.setMover u.mover { r with uncommandedOpen := away }
    if away && !r.uncommandedOpen then s1.takeCause ⟨.uncommandedMotion, .one u.mover, motionData u q⟩ else s1
  | _, _ => s

/-- R105: the first presence of a body extent gives the parked position. -/
def State.recordFirst (s : State) (u : PositionUpdate) : State :=
  if u.first then s.setMover u.mover { s.msu.get u.mover with parkedPosition := u.lead } else s

/-- R97, R100, R106: a position update by the mover's state. -/
def State.followMover (s : State) (u : PositionUpdate) : State :=
  match s.moverState u.mover, u.lead with
  | .parked, _ | .halted, _ => s.watchRest u
  | .stopping, some l =>
    if u.standstill then
      s.comeToRest u.mover (if (s.msu.get u.mover).stopEnd = some .halted then .halted else .parked) l
    else s
  | .tripped, some l => if u.standstill then s.endTrip u.mover l else s
  | .permitted, _ | .stopping, none | .tripped, none => s

/-- MSU takes the oldest position update in flight of a mover (log 1). -/
def State.takeUpdateMsu (s : State) (m : Mover) : State :=
  match takeNth (fun u => u.mover == m) 0 s.hand.toMsu with
  | some (u, rest) => ((s.withHand { s.hand with toMsu := rest }).recordFirst u).followMover u
  | none => s

/-- POSITION_UPDATE_MSU. -/
def execPositionUpdateMSU (m : Mover) (s : State) : Host.Outcome State Fault Refusal :=
  s.whileRunning fun s => s.takeUpdateMsu m

/-! ## Causes (R94 to R99) -/

/-- MSU takes the n-th oldest cause in flight of a class (log 1, log 26). -/
def State.takeCauseOf (s : State) (c : CauseClass) (n : Nat) : State :=
  match takeNth (fun x => causeClass x.cause == some c) n s.hand.causes with
  | some (x, rest) => (s.withHand { s.hand with causes := rest }).takeCause x
  | none => s

/-- IMMEDIATE_CAUSE_TAKEN. -/
def execImmediateCauseTaken (n : Nat) (s : State) : Host.Outcome State Fault Refusal :=
  s.whileRunning fun s => s.takeCauseOf .immediate n

/-- CONTROLLED_CAUSE_TAKEN. -/
def execControlledCauseTaken (n : Nat) (s : State) : Host.Outcome State Fault Refusal :=
  s.whileRunning fun s => s.takeCauseOf .controlled n

/-- HOLD_CAUSE_TAKEN. -/
def execHoldCauseTaken (n : Nat) (s : State) : Host.Outcome State Fault Refusal :=
  s.whileRunning fun s => s.takeCauseOf .hold n

/-! ## DEVICE_STATE_CHANGE_MSU (R102) -/

/-- Whether a device state is one in which movers may have authority (R102, R103). -/
def DeviceState.carriesAuthority : DeviceState → Bool
  | .armed | .disarming => true
  | .unconfigured | .configuring | .standby | .arming | .locked => false

/-- R102 for one mover. -/
def State.tripOnDevice (s : State) (m : Mover) : State :=
  if (s.moverState m).hasAuthority then s.tripMover m .device (s.msu.get m).haltCauses else s

/-- R102. The rule names no order of the movers: the model takes mover order (DESIGN CHOICE, log 40). -/
def State.followDevice (s : State) (c : DeviceChange) : State :=
  if c.before.carriesAuthority && !c.after.carriesAuthority then allMovers.foldl State.tripOnDevice s else s

/-- MSU takes the oldest change of device state in flight (log 1). -/
def State.takeDeviceChange (s : State) : State :=
  match takeOldest s.hand.deviceChanges with
  | some (c, rest) => (s.withHand { s.hand with deviceChanges := rest }).followDevice c
  | none => s

/-- DEVICE_STATE_CHANGE_MSU. -/
def execDeviceStateChangeMSU (s : State) : Host.Outcome State Fault Refusal :=
  s.whileRunning fun s => s.takeDeviceChange

/-! ## The trip timer and the readback timer (R101, R104) -/

/-- BRAKE FAULT or RELAY STUCK of a mover, handed to FR with the mover alone and to DSU (R101, R104, R138). -/
def State.raiseDeviceFault (s : State) (fault : Cause) (m : Mover) : State :=
  (s.handFault ⟨fault, none, some m, none, CauseData.nothing⟩).takeDeviceFault fault

/-- R101. A timer that is not running cannot expire. -/
def State.tripTimerExpires (s : State) (m : Mover) : State :=
  let r := s.msu.get m
  if r.tripTimer.isRunning then
    (s.setMover m { r with tripTimer := .expired }).raiseDeviceFault .brakeFault m
  else s

/-- TRIP_TIMER_EXPIRY. -/
def execTripTimerExpiry (m : Mover) (s : State) : Host.Outcome State Fault Refusal :=
  s.whileRunning fun s => s.tripTimerExpires m

/-- R104. -/
def State.readbackTimerExpires (s : State) (m : Mover) : State :=
  let r := s.msu.get m
  if r.readbackTimer then
    let s1 := s.setMover m { r with readbackTimer := false }
    if r.relayClosed = false ∧ r.readbackClosed = true then s1.raiseDeviceFault .relayStuck m else s1
  else s

/-- READBACK_TIMER_EXPIRY. -/
def execReadbackTimerExpiry (m : Mover) (s : State) : Host.Outcome State Fault Refusal :=
  s.whileRunning fun s => s.readbackTimerExpires m

/-! ## STOP (R108) -/

/-- R108 for a mover. -/
def State.stopMover (s : State) (m : Mover) : State × Option Answer :=
  match s.moverState m with
  | .permitted =>
    let s1 := s.takeCause ⟨.stopRequest, .one m, CauseData.nothing⟩
    (s1, some (doneWith (optField 4 (s1.authorityOf m).stopTarget)))
  | .stopping => (s, some (doneWith (optField 4 (s.authorityOf m).stopTarget)))
  | .parked | .tripped | .halted => (s, some (doneWith (optField 4 none)))

/-- R108. -/
def settleStop : Settlement := fun _ r s =>
  match moverOfNumber (fieldAt r.body 0) with
  | none => (s, some (refuse .badRequest))
  | some m => s.stopMover m

/-- STOP. -/
def execStop (s : State) : Host.Outcome State Fault Refusal :=
  s.whileRunning fun s => s.serve .stop settleStop

/-! ## CLEAR (R107) -/

/-- R107: a Halted mover whose halt causes are all gone goes to Parked. -/
def State.clearMover (s : State) (m : Mover) : State :=
  let s1 := s.setMover m { s.msu.get m with
    state := .parked, stopCause := none, haltCauses := []
    parkedPosition := (s.pos.movers.get m).lead, uncommandedOpen := false }
  ((s1.endAuthority m).handMoverChange m .parked).parkingConversion m

/-- R107, by the mover's state. -/
def State.askClear (s : State) (m : Mover) : State × Option Answer :=
  match s.moverState m with
  | .parked => (s, some doneEmpty)
  | .permitted | .stopping | .tripped => (s, some (refuse .state))
  | .halted =>
    match (s.msu.get m).haltCauses.find? fun c => !s.causeGone m c with
    | some c => (s, some ⟨.causePresent, false, byteField (causeNumber c)⟩)
    | none => (s.clearMover m, some doneEmpty)

/-- R107. -/
def settleClear : Settlement := fun _ r s =>
  if s.dsu.state = .standby ∨ s.dsu.state = .armed then
    match moverOfNumber (fieldAt r.body 0) with
    | none => (s, some (refuse .badRequest))
    | some m => s.askClear m
  else (s, some (refuse .state))

/-- CLEAR. -/
def execClear (s : State) : Host.Outcome State Fault Refusal :=
  s.whileRunning fun s => s.serve .clear settleClear

end Sys2Proof.Machine
end

