-- ==== Sys2Proof/Machine/Device.lean ====
section
/-! DEFINITION. The commands of the Device State Unit (R136 to R142, R148): ARM and the relay test, STANDBY, PERMITS,
RESET, and what DSU does on validity changes and changes of mover state. -/

namespace Sys2Proof.Machine

/-! ## The relay test (R138) -/

/-- What follows a phase that passes: the relay's open phase, or the next relay's close phase; none after the last. -/
def nextPhase : Mover × Phase → Option (Mover × Phase)
  | (m, .close) => some (m, .open)
  | (m, .open) => (moverOfNumber (moverNumber m + 1)).map fun x => (x, .close)

/-- A phase's commanded state, true for closed. -/
def Phase.commandsClosed : Phase → Bool
  | .close => true
  | .open => false

/-- DSU commands a relay to a phase's state and starts the step timer; a test command starts no readback timer (R138).
R104 and R138 do not say what a readback timer does that an earlier command of MSU, or an open command of DSU that is
checked, has left running: the model lets it run on, so its expiry compares the readback with the test's command, less than 100 ms
after that (DESIGN CHOICE, log 37). -/
def State.beginPhase (s : State) (x : Mover × Phase) : State :=
  let s1 := s.setMover x.1 { s.msu.get x.1 with relayClosed := x.2.commandsClosed }
  s1.withDsu { s1.dsu with armingStep := some x, stepTimer := true }

/-- R139: the test passes: the device goes to Armed and the check token flips. -/
def State.passArming (s : State) : State :=
  let s1 := s.endArmingStep
  (s1.withDsu { s1.dsu with token := !s1.dsu.token }).changeDevice .armed

/-- The test from a phase on, at most n phases passed at once: a readback already showing the commanded state passes the
phase at once. There are ten phases. -/
def continueTest : Nat → Option (Mover × Phase) → State → State
  | _, none, s => s.passArming
  | 0, some x, s => s.beginPhase x
  | n + 1, some x, s =>
    let s1 := s.beginPhase x
    if (s1.msu.get x.1).readbackClosed = x.2.commandsClosed then continueTest n (nextPhase x) s1 else s1

/-- A relay's readback contact shows a level; where that is the commanded state of the phase under test, the phase passes
(R138). -/
def State.contactShows (s : State) (m : Mover) (level : Bool) : State :=
  match s.dsu.armingStep with
  | some x => if x.1 = m ∧ x.2.commandsClosed = level then continueTest 10 (nextPhase x) s else s
  | none => s

/-- READBACK_CONTACT_CHANGE. The readback follows the contact at all times (R104). -/
def execReadbackContactChange (m : Mover) (closed : Bool) (s : State) : Host.Outcome State Fault Refusal :=
  let s1 := s.setMover m { s.msu.get m with readbackClosed := closed }
  s1.whileRunning fun t => t.contactShows m closed

/-- R138: a phase fails. -/
def State.failPhase (s : State) (x : Mover × Phase) : State :=
  match x.2 with
  | .close => s.failArming (moverNumber x.1)
  | .open =>
    (((s.handFault ⟨.relayStuck, none, some x.1, none, CauseData.nothing⟩).postArmingFailed (10 + moverNumber x.1))).enterLocked
      .relayStuck

/-- R138: the step timer expires. -/
def State.stepTimerExpires (s : State) : State :=
  if s.dsu.stepTimer then
    match s.dsu.armingStep with
    | some x => s.failPhase x
    | none => s.withDsu { s.dsu with stepTimer := false }
  else s

/-- STEP_TIMER_EXPIRY. -/
def execStepTimerExpiry (s : State) : Host.Outcome State Fault Refusal :=
  s.whileRunning fun s => s.stepTimerExpires

/-! ## ARM (R137) -/

/-- Whether a loop channel is open as the line stands, before any filtering, or the loop state is other than Closed. -/
def State.loopNotClosed (s : State) : Bool :=
  !(s.slu.channels.get .a).raw || !(s.slu.channels.get .b).raw || s.slu.loop != .closed

/-- ARM in Standby: steps 2 to 5 (R137). -/
def State.armRefusal (s : State) : Option ReplyOutcome :=
  if s.loopNotClosed = true then some .loopOpen
  else if allAxes.any (fun a => (s.pos.axes.get a).validity != .valid) = true then some .reader
  else if s.anyStalled = true then some .braceState
  else if allMovers.any (fun m => s.moverState m == .tripped) = true then some .state
  else none

/-- R137: Arming begins with relay 1 in its close phase. -/
def State.beginArming (s : State) : State := continueTest 10 (some (.p1, .close)) (s.changeDevice .arming)

/-- R137. -/
def settleArm : Settlement := fun _ _ s =>
  match s.dsu.state with
  | .arming => (s, some (refuse .inProgress))
  | .armed => (s, some doneEmpty)
  | .unconfigured | .configuring | .disarming => (s, some (refuse .state))
  | .locked => (s, some (refuse .locked))
  | .standby =>
    match s.armRefusal with
    | some o => (s, some (refuse o))
    | none => (s.beginArming, some doneEmpty)

/-- ARM. -/
def execArm (s : State) : Host.Outcome State Fault Refusal :=
  s.whileRunning fun s => s.serve .arm settleArm

/-! ## VALIDITY_CHANGE (R139) -/

/-- R139: an axis taken out of Valid fails Arming. -/
def State.followValidity (s : State) (v : ValidityChange) : State :=
  if s.dsu.state = .arming ∧ v.before = .valid ∧ v.after ≠ .valid then s.failArming (20 + axisNumber v.axis) else s

/-- DSU takes the oldest validity change in flight of an axis (log 1). -/
def State.takeValidityChange (s : State) (a : Axis) : State :=
  match takeNth (fun v => v.axis == a) 0 s.hand.validity with
  | some (v, rest) => (s.withHand { s.hand with validity := rest }).followValidity v
  | none => s

/-- VALIDITY_CHANGE. -/
def execValidityChange (a : Axis) (s : State) : Host.Outcome State Fault Refusal :=
  s.whileRunning fun s => s.takeValidityChange a

/-! ## STANDBY and the end of Disarming (R140) -/

/-- R140. -/
def settleStandby : Settlement := fun _ _ s =>
  match s.dsu.state with
  | .locked => (s, some (refuse .locked))
  | .unconfigured | .configuring => (s, some (refuse .state))
  | .standby | .disarming => (s, some doneEmpty)
  | .arming => (s.failArming 50, some doneEmpty)
  | .armed =>
    if s.allAtRest then (s.changeDevice .standby, some doneEmpty)
    else ((s.changeDevice .disarming).raise ⟨.disarm, .all, CauseData.nothing⟩, some doneEmpty)

/-- STANDBY. -/
def execStandby (s : State) : Host.Outcome State Fault Refusal :=
  s.whileRunning fun s => s.serve .standby settleStandby

/-- R140: the end of Disarming, tested on each change of mover state. -/
def State.testDisarmed (s : State) : State :=
  if s.dsu.state = .disarming ∧ s.allAtRest = true then s.changeDevice .standby else s

/-- DSU takes the oldest change of mover state in flight (log 1). -/
def State.takeMoverChange (s : State) : State :=
  match takeOldest s.hand.moverChanges with
  | some (_, rest) => (s.withHand { s.hand with moverChanges := rest }).testDisarmed
  | none => s

/-- MOVER_STATE_CHANGE. -/
def execMoverStateChange (s : State) : Host.Outcome State Fault Refusal :=
  s.whileRunning fun s => s.takeMoverChange

/-! ## PERMITS (R141) -/

/-- R141. -/
def settlePermits : Settlement := fun _ r s =>
  match fieldAt r.body 0 with
  | 0 => ((s.withDsu { s.dsu with permits := false }).raise ⟨.permitsOff, .all, CauseData.nothing⟩, some doneEmpty)
  | 1 => (s.withDsu { s.dsu with permits := true }, some doneEmpty)
  | _ => (s, some (refuse .badRequest))

/-- PERMITS_OFF. -/
def execPermitsOff (s : State) : Host.Outcome State Fault Refusal :=
  s.whileRunning fun s => s.serve .permitsOff settlePermits

/-- PERMITS_ON. -/
def execPermitsOn (s : State) : Host.Outcome State Fault Refusal :=
  s.whileRunning fun s => s.serve .permitsOn settlePermits

/-! ## RESET (R148) -/

/-- R148. The reset itself is COMMANDED_RESET, once the reply has left. -/
def settleReset : Settlement := fun _ _ s =>
  if s.dsu.state = .locked then (s, some (refuse .locked))
  else if s.allAtRest then (s.withSpu { s.spu with handler := .resetAccepted }, some doneEmpty)
  else (s, some (refuse .state))

/-- RESET. -/
def execReset (s : State) : Host.Outcome State Fault Refusal :=
  s.whileRunning fun s => s.serve .reset settleReset

end Sys2Proof.Machine
end

