-- ==== Sys2Proof/Machine/Lines.lean ====
section
/-! DEFINITION. The commands of the Safety Line Unit (R143 to R146), but for the resets themselves: loop channels, the
discrepancy timer, drive-trip inputs and the assertion of the reset line. -/

namespace Sys2Proof.Machine

/-! ## Filtered lines (R143, R145) -/

/-- A line's raw level becomes the level given; a change starts the filter timer afresh, and while the part is held in
reset it does not (log 10). -/
def FilteredLine.shows (l : FilteredLine) (level held : Bool) : FilteredLine :=
  if l.raw = level then l else { l with raw := level, timer := if held then l.timer else true }

/-- The filtered state takes the raw level as the filter timer expires. -/
def FilteredLine.settles (l : FilteredLine) : FilteredLine := { l with filtered := l.raw, timer := false }

/-- LOOP_CHANNEL_CHANGE. -/
def execLoopChannelChange (c : LoopChannel) (closed : Bool) (s : State) : Host.Outcome State Fault Refusal :=
  .next (s.withSlu { s.slu with channels := s.slu.channels.modify c fun l => l.shows closed s.slu.heldInReset })

/-! ## The loop state (R143) and loop openings (R144) -/

/-- SLU switches every brace output off (R144). -/
def State.outputsOff (s : State) : State :=
  let off := fun (b : BraceRec) => { b with engageOutput := false, withdrawOutput := false }
  s.withBrc { s.brc with braces := (s.brc.braces.modify .east off).modify .west off }

/-- DSU's part in a loop opening: the device goes to Standby, from Arming with the test failed at item 40 (R139, R144). -/
def State.deviceOnOpening (s : State) : State :=
  if s.dsu.state = .arming then s.failArming 40 else s.changeDevice .standby

/-- R144: a loop opening in Arming, Armed or Disarming. -/
def State.actOnOpening (s : State) (mark : Bool) : State :=
  (((((s.raise ⟨.safetyLoop, .all, { CauseData.nothing with discrepancyMark := mark }⟩).outputsOff).handCut
    .loopOpening).deviceOnOpening).post .slu allPorts ⟨.eStop, 7, .absent, if mark then 2 else 1⟩)

/-- R143, R144: the loop enters Open. -/
def State.openLoop (s : State) (mark : Bool) : State :=
  let s1 := s.withSlu { s.slu with loop := .opened, discrepancyTimer := false }
  if s1.dsu.state.isActive then s1.actOnOpening mark else s1

/-- R143: the loop state follows the filtered states. -/
def State.followChannels (s : State) : State :=
  let a := (s.slu.channels.get .a).filtered
  let b := (s.slu.channels.get .b).filtered
  match s.slu.loop with
  | .closed =>
    if a && b then s
    else if !a && !b || s.dsu.state == .arming then s.openLoop false
    else s.withSlu { s.slu with loop := .discrepant, discrepancyTimer := true }
  | .discrepant =>
    if a && b then s.withSlu { s.slu with loop := .closed, discrepancyTimer := false }
    else if !a && !b then s.openLoop false
    else s
  | .opened => if a && b then s.withSlu { s.slu with loop := .closed } else s

/-- R143: a channel's filter timer expires. A timer that is not running cannot expire. -/
def State.channelSettles (s : State) (c : LoopChannel) : State :=
  if (s.slu.channels.get c).timer then
    (s.withSlu { s.slu with channels := s.slu.channels.modify c FilteredLine.settles }).followChannels
  else s

/-- LOOP_FILTER_EXPIRY. -/
def execLoopFilterExpiry (c : LoopChannel) (s : State) : Host.Outcome State Fault Refusal :=
  s.whileRunning fun s => s.channelSettles c

/-- R143: the discrepancy timer expires. -/
def State.discrepancyExpires (s : State) : State :=
  if s.slu.discrepancyTimer then
    if s.slu.loop = .discrepant then s.openLoop true else s.withSlu { s.slu with discrepancyTimer := false }
  else s

/-- DISCREPANCY_TIMER_EXPIRY. -/
def execDiscrepancyTimerExpiry (s : State) : Host.Outcome State Fault Refusal :=
  s.whileRunning fun s => s.discrepancyExpires

/-! ## Drive trips (R145) -/

/-- DRIVE_TRIP_INPUT_CHANGE. -/
def execDriveTripInputChange (m : Mover) (active : Bool) (s : State) : Host.Outcome State Fault Refusal :=
  .next (s.withSlu { s.slu with trips := s.slu.trips.modify m fun l => l.shows active s.slu.heldInReset })

/-- DRIVE TRIP against a mover (R145). -/
def State.raiseDriveTrip (s : State) (m : Mover) : State := s.raise ⟨.driveTrip, .one m, CauseData.nothing⟩

/-- R145: a drive-trip input's filter timer expires; a change to active raises DRIVE TRIP. -/
def State.tripInputSettles (s : State) (m : Mover) : State :=
  let l := s.slu.trips.get m
  if l.timer then
    let s1 := s.withSlu { s.slu with trips := s.slu.trips.set m l.settles }
    if l.raw && !l.filtered then s1.raiseDriveTrip m else s1
  else s

/-- DRIVE_TRIP_FILTER_EXPIRY. -/
def execDriveTripFilterExpiry (m : Mover) (s : State) : Host.Outcome State Fault Refusal :=
  s.whileRunning fun s => s.tripInputSettles m

/-! ## The reset line (R146) -/

/-- RESET_LINE_ASSERTION: the filter timer starts. A line already asserted makes no assertion. -/
def execResetLineAssertion (s : State) : Host.Outcome State Fault Refusal :=
  s.whileRunning fun s =>
    if s.slu.resetAsserted then s else s.withSlu { s.slu with resetAsserted := true, resetFilter := true }

end Sys2Proof.Machine
end

