-- ==== Sys2Proof/Machine/Braces.lean ====
section
/-! DEFINITION. The commands of the Brace Controller (chapter 7): BRACE, BRACE CLEAR, switch changes, the operation timer,
cutting short, and the brace demand. -/

namespace Sys2Proof.Machine

/-! ## Operations (R117, R118) -/

/-- A direction's target state (R117). -/
def targetState : BraceDirection → BraceState
  | .engage => .engaged
  | .withdraw => .withdrawn

/-- The switch reading that shows a direction's target. -/
def targetReading : BraceDirection → SwitchReading
  | .engage => .engaged
  | .withdraw => .withdrawn

/-- A direction's moving state (R117). -/
def movingState : BraceDirection → BraceState
  | .engage => .engaging
  | .withdraw => .withdrawing

/-- A brace driven in a direction: the other output off, this one on, the timer started for the time limit (R117). -/
def BraceRec.drive (b : BraceRec) (d : BraceDirection) (limit : Int) : BraceRec :=
  { b with state := movingState d
           engageOutput := d == .engage
           withdrawOutput := d == .withdraw
           timer := .running limit }

/-- A brace with its outputs off and its timer stopped, in a given state. -/
def BraceRec.still (b : BraceRec) (st : BraceState) : BraceRec :=
  { b with state := st, engageOutput := false, withdrawOutput := false, timer := .stopped }

/-- The brace time limit of the active image (general entry 13). -/
def State.braceLimit (s : State) : Int := s.cs.active.general.braceTimeLimit

/-- BRC's operation and start-pending fields replaced. -/
def State.setOperation (s : State) (op : Option BraceDirection) (startPending : Bool) : State :=
  s.withBrc { s.brc with operation := op, startPending := startPending }

/-- Both brace records changed by a function. -/
def State.mapBraces (s : State) (f : BraceRec → BraceRec) : State :=
  s.withBrc { s.brc with braces := ⟨f s.brc.braces.east, f s.brc.braces.west⟩ }

/-- One brace as an operation starts (R117, steps 2 and 3). -/
def BraceRec.enterOperation (b : BraceRec) (d : BraceDirection) (limit : Int) : BraceRec :=
  if b.reading = targetReading d then b.still (targetState d) else b.drive d limit

/-- The start of an operation, before its end is tested (R117). The start is a brace change. -/
def State.beginOperation (s : State) (d : BraceDirection) (startPending : Bool) : State :=
  ((s.mapBraces fun b => b.enterOperation d s.braceLimit).setOperation (some d) startPending).handDemand .braceChange

/-- BRACE DONE (R118). -/
def State.postBraceDone (s : State) (d : BraceDirection) : State :=
  s.post .brc allPorts ⟨.braceDone, 3, .absent, braceDirectionNumber d⟩

/-- The end of an operation in which both braces have completed (R118). -/
def State.finishOperation (s : State) (d : BraceDirection) : State :=
  ((s.setOperation none s.brc.startPending).postBraceDone d).handDemand .braceChange

/-- An operation ends where both braces have completed (R117, R118). -/
def State.endIfComplete (s : State) (d : BraceDirection) : State :=
  if s.bothBraces (targetState d) then s.finishOperation d else s

/-- R117: an operation is started. -/
def State.startOperation (s : State) (d : BraceDirection) (startPending : Bool) : State :=
  (s.beginOperation d startPending).endIfComplete d

/-! ## The demand (R123, R124) -/

/-- The bodies and the wind that BRC tests the demand condition on (R56, R123). -/
structure DemandView where
  body : PerMover (Option Extent)
  mean : Int
  gust : Int
  wind : WindState
deriving DecidableEq, Repr, Inhabited

/-- The bodies in the Zone Table, as ZT last took them (R56), and the wind as WM holds it (log 14). -/
def State.viewNow (s : State) : DemandView := ⟨s.zt.body, s.wm.mean, s.wm.gust, s.wm.state⟩

/-- What an event's test goes by: what the event hands over (R33, R132), and the rest as it stands (log 14). -/
def State.viewOn (s : State) : DemandEvent → DemandView
  | .closure mean gust wind => { s.viewNow with mean := mean, gust := gust, wind := wind }
  | .bodyChange u => { s.viewNow with body := s.zt.body.set u.mover u.body }
  | .braceChange | .holdReport | .deviceChange | .commit => s.viewNow

/-- Whether an engage for the demand may start: Armed, no brace Stalled, the ENGAGE conditions (R124). -/
def State.mayEngage (s : State) : Bool :=
  s.dsu.state == .armed && !s.anyStalled && s.zt.engageConditions

/-- R124: BRC acts on a standing demand. -/
def State.actOnDemand (s : State) : State :=
  match s.brc.operation with
  | some .engage => s
  | some .withdraw => s.setOperation s.brc.operation true
  | none => if s.mayEngage then s.startOperation .engage false else s.setOperation none true

/-- Whether the wind is no longer free for unengaged braces (R116, R123). -/
def State.windNeedsBraces (s : State) (v : DemandView) : Bool :=
  v.wind == .unknown || decide (s.cs.active.general.braceFreeMean ≤ v.mean)
    || decide (s.cs.active.general.braceFreeGust ≤ v.gust)

/-- The demand condition (R123). -/
def State.demandCondition (s : State) (v : DemandView) : Bool :=
  s.zt.panelOverEngagedNeed v.body && !s.bothBraces .engaged && s.windNeedsBraces v

/-- R123: the demand flag is set and BRACE DEMAND posted with the wind mean. -/
def State.setDemand (s : State) (mean : Int) : State :=
  (s.withBrc { s.brc with demand := true }).post .brc allPorts ⟨.braceDemand, 6, .absent, mean⟩

/-- R123: BRC tests the brace demand. -/
def State.testDemand (s : State) (v : DemandView) : State :=
  if s.brc.demand then
    if s.bothBraces .engaged || !s.zt.panelOverEngagedNeed v.body then
      s.withBrc { s.brc with demand := false, startPending := false }
    else s.actOnDemand
  else if s.demandCondition v then (s.setDemand v.mean).actOnDemand
  else s

/-- Whether an event of a source still waits: a body change that BRC takes after ZT's release it takes after ZT's report
of it too, so that a body change taken before the report finds the zone still held (R125; DEDUCED, log 38). -/
def State.demandWaits (s : State) (src : DemandSource) : Bool :=
  match src with
  | .bodyChange _ => s.hand.demandEvents.contains .holdReport
  | .closure | .braceChange | .holdReport | .deviceChange | .commit => false

/-- BRC takes the oldest event in flight of a source and tests the demand on it. Events of different sources are taken in
any order (R125, log 1). -/
def State.takeDemandEvent (s : State) (src : DemandSource) : State :=
  if s.demandWaits src then s
  else
    match takeNth (fun e : DemandEvent => e.source == src) 0 s.hand.demandEvents with
    | some (e, rest) => (s.withHand { s.hand with demandEvents := rest }).testDemand (s.viewOn e)
    | none => s

/-- DEMAND_CONDITION_TEST. -/
def execDemandConditionTest (s : State) (source : DemandSource := .closure) : Host.Outcome State Fault Refusal :=
  s.whileRunning fun s => s.takeDemandEvent source

/-! ## BRACE (R114 to R116) -/

/-- The body of a BRACE's DONE: the direction and both brace states (R156). -/
def State.braceBody (s : State) (d : BraceDirection) : List Byte :=
  byteField (braceDirectionNumber d) ++ byteField (braceStateNumber (s.braceState .east))
    ++ byteField (braceStateNumber (s.braceState .west))

/-- R115 and R116: the condition that refuses an operation, on the zone records and the bodies in the Zone Table (R56) and
on the wind as WM holds it. -/
def State.operationRefusal (s : State) (d : BraceDirection) : Option ReplyOutcome :=
  match d with
  | .engage => if s.zt.engageConditions then none else some .portalOccupied
  | .withdraw =>
    if s.zt.parkingInUse then some .parkingInUse
    else if s.zt.panelOverEngagedNeed s.zt.body && s.windNeedsBraces s.viewNow then some .wind
    else if s.brc.demand then some .braceDemand
    else none

/-- The direction a field names (R114). -/
def braceDirectionOf (n : Nat) : Option BraceDirection :=
  match n with
  | 1 => some .engage | 2 => some .withdraw | _ => none

/-- R114, steps 3 to 7. -/
def State.askOperation (s : State) (d : BraceDirection) : State × Option Answer :=
  match s.brc.operation with
  | some x =>
    (s, some (if x = d then refuse .inProgress else ⟨.busy, false, byteField (braceDirectionNumber x)⟩))
  | none =>
    if s.anyStalled then (s, some (refuse .state))
    else if s.bothBraces (targetState d) then (s, some (doneWith (s.braceBody d)))
    else
      match s.operationRefusal d with
      | some o => (s, some (refuse o))
      | none =>
        let s1 := s.startOperation d s.brc.startPending
        (s1, some (doneWith (s1.braceBody d)))

/-- R114. -/
def settleBrace : Settlement := fun _ r s =>
  if s.dsu.state = .armed then
    match braceDirectionOf (fieldAt r.body 0) with
    | some d => s.askOperation d
    | none => (s, some (refuse .badRequest))
  else (s, some (refuse .notArmed))

/-- BRACE_ENGAGE. -/
def execBraceEngage (s : State) : Host.Outcome State Fault Refusal :=
  s.whileRunning fun s => s.serve .braceEngage settleBrace

/-- BRACE_WITHDRAW. -/
def execBraceWithdraw (s : State) : Host.Outcome State Fault Refusal :=
  s.whileRunning fun s => s.serve .braceWithdraw settleBrace

/-! ## BRACE CLEAR (R120) -/

/-- R120 for one brace. -/
def State.clearBrace (s : State) (b : Brace) : State :=
  let r := s.brc.braces.get b
  if r.state = .stalled then (s.setBrace b { r with state := stateOfReading r.reading }).handDemand .braceChange else s

/-- The braces a field names: 1 East, 2 West, 0 both (R120). -/
def bracesOf (n : Nat) : Option (List Brace) :=
  match n with
  | 0 => some [.east, .west] | 1 => some [.east] | 2 => some [.west] | _ => none

/-- R120. -/
def settleBraceClear : Settlement := fun _ r s =>
  match bracesOf (fieldAt r.body 0) with
  | none => (s, some (refuse .badRequest))
  | some bs =>
    let s1 := bs.foldl State.clearBrace s
    (s1, some (doneWith (byteField (braceStateNumber (s1.braceState .east))
      ++ byteField (braceStateNumber (s1.braceState .west)))))

/-- BRACE_CLEAR. -/
def execBraceClear (s : State) : Host.Outcome State Fault Refusal :=
  s.whileRunning fun s => s.serve .braceClear settleBraceClear

/-! ## Switch changes (R113, R118, R122) -/

/-- The brace state a zone's need names (R122). -/
def stateOfNeed : BraceNeed → Option BraceState
  | .nothing => none
  | .engaged => some .engaged
  | .withdrawn => some .withdrawn

/-- R122: the movers over, or holding, a zone whose need is the state a brace has lost, and moving. -/
def State.lossScope (s : State) (lost : BraceState) : List Mover :=
  allMovers.filter fun m => !(s.moverState m).atRest && (s.zt.zones (pathOf m)).any fun z =>
    stateOfNeed z.need == some lost && (bodyOverlaps (s.zt.body.get m) z || z.holder == some m)

/-- R122, R113: a switch loss. The brace goes to Unknown and, where its reading already shows an end, to that state. -/
def State.loseSwitch (s : State) (b : Brace) : State :=
  let r := s.brc.braces.get b
  let s1 := (s.raise ⟨.braceLost, .named (s.lossScope r.state),
    { CauseData.nothing with brace := some b, lost := some r.state }⟩).handSwitchLoss b
  let s2 := (s1.setBrace b (r.still .unknown)).handDemand .braceChange
  if (stateOfReading r.reading).isKnown then
    (s2.setBrace b (r.still (stateOfReading r.reading))).handDemand .braceChange
  else s2

/-- R113: a brace at rest follows its switch reading. -/
def State.followSwitch (s : State) (b : Brace) : State :=
  let r := s.brc.braces.get b
  match r.state with
  | .unknown =>
    if (stateOfReading r.reading).isKnown then
      (s.setBrace b { r with state := stateOfReading r.reading }).handDemand .braceChange
    else s
  | .engaged => if r.reading = .engaged then s else s.loseSwitch b
  | .withdrawn => if r.reading = .withdrawn then s else s.loseSwitch b
  | .engaging | .withdrawing | .stalled => s

/-- R118: a withdraw that ends with an engage owed tries it (R124). -/
def State.payPending (s : State) (d : BraceDirection) : State :=
  if d = .withdraw ∧ s.brc.operation = none ∧ s.brc.startPending = true then s.actOnDemand else s

/-- R118: a switch reading during an operation. -/
def State.followOperation (s : State) (d : BraceDirection) (b : Brace) : State :=
  let r := s.brc.braces.get b
  if r.reading = targetReading d then
    if r.state = movingState d then
      ((s.setBrace b (r.still (targetState d))).endIfComplete d).payPending d
    else s
  else if r.state = targetState d then s.setBrace b (r.drive d s.braceLimit)
  else s

/-- A brace's end switches take new levels (R112). -/
def State.setSwitches (s : State) (b : Brace) (engaged withdrawn : Bool) : State :=
  s.setBrace b { s.brc.braces.get b with engagedSwitch := engaged, withdrawnSwitch := withdrawn }

/-- A change of a brace's switch reading, at rest or in an operation. -/
def State.switchesShow (s : State) (b : Brace) : State :=
  match s.brc.operation with
  | none => s.followSwitch b
  | some d => s.followOperation d b

/-- BRACE_SWITCH_CHANGE. The reading follows the switches at all times (R112). -/
def execBraceSwitchChange (b : Brace) (engaged withdrawn : Bool) (s : State) : Host.Outcome State Fault Refusal :=
  (s.setSwitches b engaged withdrawn).whileRunning fun t => t.switchesShow b

/-! ## The operation timer (R119) -/

/-- R119, steps 1 to 3 for one brace: a brace that has not completed stalls. -/
def BraceRec.stall (b : BraceRec) (d : BraceDirection) : BraceRec :=
  b.still (if b.state = targetState d then b.state else .stalled)

/-- What a stall's hand-over to FR carries: the brace, both brace states, and the wind mean and gust (R119). -/
def State.stallData (s : State) (b : Brace) : CauseData :=
  { CauseData.nothing with
    brace := some b
    braceStates := some (s.braceState .east, s.braceState .west)
    wind := some (s.wm.mean, s.wm.gust) }

/-- R119, step 5 for one brace. -/
def State.reportStall (s : State) (d : BraceDirection) (b : Brace) : State :=
  if s.braceState b = .stalled then
    (s.post .brc allPorts ⟨.braceStalled, 6, .brace b, braceDirectionNumber d⟩).handFault
      ⟨.braceStalled, none, none, none, s.stallData b⟩
  else s

/-- R119: the operation is stopped. The stall is a brace change. Where one expiry stalls both braces, R119 and R162 do not
say which BRACE STALLED is posted first: the model posts East before West (DESIGN CHOICE, log 40). -/
def State.stallOperation (s : State) (d : BraceDirection) : State :=
  let s1 := (s.mapBraces fun b => b.stall d).setOperation none s.brc.startPending
  ((s1.reportStall d .east).reportStall d .west).handDemand .braceChange

/-- R119: a brace's operation timer expires. A timer that is not running cannot expire. -/
def State.operationExpires (s : State) (b : Brace) : State :=
  let r := s.brc.braces.get b
  if r.timer.isRunning then
    match s.brc.operation with
    | some d => s.stallOperation d
    | none => s.setBrace b { r with timer := .stopped }
  else s

/-- OPERATION_TIMER_EXPIRY. -/
def execOperationTimerExpiry (b : Brace) (s : State) : Host.Outcome State Fault Refusal :=
  s.whileRunning fun s => s.operationExpires b

/-! ## Cutting short (R121) -/

/-- R121 for one brace: one that has not completed goes to Unknown, and at once to the state its reading shows (R113). -/
def BraceRec.cut (b : BraceRec) (d : BraceDirection) : BraceRec :=
  b.still (if b.state = targetState d then b.state else stateOfReading b.reading)

/-- R121: an operation in flight is cut short. The cut, and the states that braces take at once by their readings (R113),
are handed on as one brace change together, where a switch loss hands two; R113 and R121 do not say how many
(DESIGN CHOICE, log 39). -/
def State.cutOperation (s : State) : State :=
  match s.brc.operation with
  | some d => ((s.mapBraces fun b => b.cut d).setOperation none s.brc.startPending).handDemand .braceChange
  | none => s

/-- BRC takes the oldest event in flight that cuts an operation short (log 1). -/
def State.takeCut (s : State) : State :=
  match takeOldest s.hand.cuts with
  | some (_, rest) => (s.withHand { s.hand with cuts := rest }).cutOperation
  | none => s

/-- CUT_SHORT. -/
def execCutShort (s : State) : Host.Outcome State Fault Refusal :=
  s.whileRunning fun s => s.takeCut

end Sys2Proof.Machine
end

