-- ==== Sys2Proof/Machine/Wind.lean ====
section
/-! DEFINITION. The commands of the Wind Monitor (chapter 8): ANEMOMETER_PULSE and INTERVAL_CLOSURE. -/

namespace Sys2Proof.Machine

/-- R127: a pulse counted; the count saturates at 65,535. -/
def AnemometerRec.count1 (a : AnemometerRec) : AnemometerRec := { a with count := min 65535 (a.count + 1) }

/-- ANEMOMETER_PULSE. -/
def execAnemometerPulse (which : Anemometer) (s : State) : Host.Outcome State Fault Refusal :=
  s.whileRunning fun s => s.withWm { s.wm with anemometers := s.wm.anemometers.modify which AnemometerRec.count1 }

/-- R128: a count converted into a value. -/
def windValue (calibration : Int) (count : Nat) : Int := min 600 ((count : Int) * 10 / calibration)

/-- R129: an anemometer at a closure, from its own count and value, the other's value at this closure and the other's
failed mark before it. -/
def AnemometerRec.close (a : AnemometerRec) (value otherValue : Int) (otherFailed : Bool) : AnemometerRec :=
  if a.count ≠ 0 then ⟨0, value, 0, false⟩
  else if otherFailed = true ∨ 30 ≤ otherValue then
    ⟨0, value, min 30 (a.stuck + 1), a.failed || decide (30 ≤ a.stuck + 1)⟩
  else ⟨0, value, 0, a.failed⟩

/-- Both anemometers at a closure (R127 to R129). -/
def closeAnemometers (calibration : Int) (t : PerAnemometer AnemometerRec) : PerAnemometer AnemometerRec :=
  .ofFn fun x =>
    let a := t.get x
    let b := t.get (otherAnemometer x)
    a.close (windValue calibration a.count) (windValue calibration b.count) b.failed

/-- R130: the combined value of a closure. -/
def combinedValue (t : PerAnemometer AnemometerRec) : Option Int :=
  match t.first.failed, t.second.failed with
  | false, false => some (max t.first.value t.second.value)
  | true, false => some t.second.value
  | false, true => some t.first.value
  | true, true => none

/-- R130: the history after a combined value, at most 60 entries; emptied where there is none. -/
def enterHistory (h : List Int) : Option Int → List Int
  | none => []
  | some v =>
    let h' := h ++ [v]
    if 60 < h'.length then h'.drop 1 else h'

/-- R130. -/
def meanOf (h : List Int) : Int := if h.isEmpty then 0 else h.sum / (h.length : Int)

/-- R130: the greatest of the newest three. -/
def gustOf (h : List Int) : Int := greatest (h.drop (h.length - 3))

/-- The Limit test (R131). -/
def limitTest (g : General) (mean gust : Int) : Bool := decide (g.limitMean ≤ mean) || decide (g.limitGust ≤ gust)

/-- The release test (R131). -/
def releaseTest (g : General) (mean gust : Int) : Bool := decide (mean < g.releaseMean) && decide (gust < g.releaseGust)

/-- R131, the table: the new state and calm count, from a state where the wind is known. -/
def settleWind (g : General) (mean gust : Int) (st : WindState) (calm : Nat) : WindState × Nat :=
  match st with
  | .unknown | .calm =>
    if limitTest g mean gust then (.limit, 0) else if g.reducedThreshold ≤ mean then (.reduced, 0) else (.calm, 0)
  | .reduced =>
    if limitTest g mean gust then (.limit, 0) else if mean < g.calmThreshold then (.calm, 0) else (.reduced, 0)
  | .limit =>
    if releaseTest g mean gust then
      if g.releaseCount ≤ (calm : Int) + 1 then (if g.calmThreshold ≤ mean then .reduced else .calm, 0)
      else (.limit, calm + 1)
    else (.limit, 0)

/-- WM's state after a closure (R127 to R131). -/
def Wm.close (w : Wm) (g : General) : Wm :=
  let t := closeAnemometers g.calibration w.anemometers
  let h := enterHistory w.history (combinedValue t)
  let mean := meanOf h
  let gust := gustOf h
  let x := if h.length < 10 ∨ (t.first.failed = true ∧ t.second.failed = true) then (WindState.unknown, 0)
    else settleWind g mean gust w.state w.calmCount
  { anemometers := t, history := h, mean := mean, gust := gust, state := x.1, calmCount := x.2 }

/-- R132, step 2: whether a change of wind state raises WIND LIMIT. -/
def raisesWindLimit (before after : WindState) : Bool := !before.barsPanels && after.barsPanels

/-- R132: what a closure hands on. -/
def State.handClosure (s : State) (before : WindState) : State :=
  let s1 := if before = s.wm.state then s
    else s.post .wm allPorts ⟨.windState, 4, .absent, windStateNumber s.wm.state⟩
  let s2 := if raisesWindLimit before s.wm.state then s1.raise ⟨.windLimit, .panels, CauseData.nothing⟩ else s1
  s2.handDemand (.closure s.wm.mean s.wm.gust s.wm.state)

/-- INTERVAL_CLOSURE. The interval timer always runs outside a reset (R127). -/
def execIntervalClosure (s : State) : Host.Outcome State Fault Refusal :=
  s.whileRunning fun s => (s.withWm (s.wm.close s.cs.active.general)).handClosure s.wm.state

end Sys2Proof.Machine
end

