-- ==== Sys2Proof/Machine/Ports.lean ====
section
/-! DEFINITION. The commands of the Station Port Unit (chapter 10) but for the requests of other blocks: bytes and frames,
replies sent, silence, unknown codes and MASK. -/

namespace Sys2Proof.Machine

/-! ## Bytes (R149) -/

/-- A port's record changed by a function. -/
def State.modifyPort (s : State) (p : Port) (f : PortRec → PortRec) : State := s.setPort p (f (s.spu.ports.get p))

/-- How many bytes a frame has after its start byte, once its Length is known: Length and the two check bytes. -/
def frameSize (taken : List Byte) : Nat := fieldAt taken 0 + 2

/-- A Length outside 4 to 52 (R149). -/
def lengthBad (n : Nat) : Bool := decide (n < 4) || decide (52 < n)

/-- R149: a byte in Receiving, with no framing error. A frame completed by its second check byte waits in `complete`, in
the order completed and however many there are, until COMPLETE_FRAME tests it; other commands may come between, though
R149 has the frame tested at that byte (DESIGN CHOICE, log 41). -/
def PortRec.receive (r : PortRec) (taken : List Byte) (b : Byte) : PortRec :=
  let t := taken ++ [b]
  if taken = [] ∧ lengthBad b.toNat = true then { r with receiver := .hunting }
  else if t.length = frameSize t then { r with receiver := .hunting, complete := r.complete ++ [t] }
  else { r with receiver := .receiving t }

/-- R149: a byte arrives at a receiver. A framing error discards a frame in Receiving; in Hunting only the byte's value
is looked at (log 19). -/
def PortRec.byte (r : PortRec) (b : Byte) (framingError : Bool) : PortRec :=
  match r.receiver with
  | .hunting => if b = 0xA5#8 then { r with receiver := .receiving [] } else r
  | .receiving taken => if framingError then { r with receiver := .hunting } else r.receive taken b

/-- STATION_PORT_BYTE. -/
def execStationPortByte (p : Port) (b : Byte) (framingError : Bool) (s : State) : Host.Outcome State Fault Refusal :=
  s.whileRunning fun s => s.modifyPort p fun r => r.byte b framingError

/-- FRAME_TIMER_EXPIRY: a frame in Receiving is discarded. The timer runs exactly in Receiving (R149). -/
def execFrameTimerExpiry (p : Port) (s : State) : Host.Outcome State Fault Refusal :=
  s.whileRunning fun s => s.modifyPort p fun r => { r with receiver := .hunting }

/-! ## Complete frames (R150, R151) -/

/-- The bytes of a complete frame from Length through Body. -/
def coreOf (frame : List Byte) : List Byte := frame.take (frame.length - 2)

/-- R150: whether a complete frame passes both tests on a port. -/
def frameValid (p : Port) (frame : List Byte) : Bool :=
  decide (frame.drop (frame.length - 2) = checkField (coreOf frame)) && decide (fieldAt frame 1 = portNumber p)

/-- The request a valid frame carries. -/
def requestOf (frame : List Byte) : Request := ⟨byteAt frame 2, byteAt frame 3, (coreOf frame).drop 4⟩

/-- R151, step 1, R157: the silence timer restarted and the link Live. -/
def PortRec.hear (r : PortRec) (timeout : Int) : PortRec := { r with link := .live, silence := .running timeout }

/-- R151, steps 2 and 3: the request joins the queue, or is answered BUSY. -/
def PortRec.arrive (r : PortRec) (p : Port) (q : Request) : PortRec :=
  if r.queue.length < 2 then { r with queue := r.queue ++ [q] }
  else if busyReplies r.output < 2 then
    { r with output := r.output ++ [⟨.busy, p, q.tag, (refuse .busy).code, []⟩] }
  else r

/-- R150, R151: a complete frame is tested, and discarded or taken as a valid frame arrival. -/
def PortRec.takeFrame (r : PortRec) (p : Port) (frame : List Byte) (timeout : Int) : PortRec :=
  if frameValid p frame then (r.hear timeout).arrive p (requestOf frame) else r

/-- The oldest complete frame of a port is tested. -/
def State.testFrame (s : State) (p : Port) : State :=
  let r := s.spu.ports.get p
  match takeOldest r.complete with
  | some (f, rest) => s.setPort p ({ r with complete := rest }.takeFrame p f s.cs.active.general.silenceTimeout)
  | none => s

/-- COMPLETE_FRAME. -/
def execCompleteFrame (p : Port) (s : State) : Host.Outcome State Fault Refusal :=
  s.whileRunning fun s => s.testFrame p

/-! ## Replies sent (R152, R148) -/

/-- R152: the last byte of a port's oldest reply leaves; the reply to an accepted RESET makes the commanded reset due
(R148). -/
def State.sendReply (s : State) (p : Port) : State :=
  let r := s.spu.ports.get p
  match takeOldest r.output with
  | some (f, rest) =>
    let s1 := s.setPort p { r with output := rest }
    if f.kind = .resetAccepted then s1.withSpu { s1.spu with handler := .resetDue } else s1
  | none => s

/-- REPLY_FRAME_SENT. -/
def execReplyFrameSent (p : Port) (s : State) : Host.Outcome State Fault Refusal :=
  s.whileRunning fun s => s.sendReply p

/-! ## Silence (R157) -/

/-- The two stations other than one. -/
def otherPorts (p : Port) : List Port := allPorts.filter fun q => q != p

/-- The cause a silent port raises: VENUE SILENCE for the Venue port, LINK SILENCE for the others (R157). -/
def silenceCause : Port → CauseMessage
  | .venue => ⟨.venueSilence, .all, CauseData.nothing⟩
  | .roof => ⟨.linkSilence, .role .roof, CauseData.nothing⟩
  | .pitch => ⟨.linkSilence, .role .pitch, CauseData.nothing⟩

/-- R157: a port goes Silent. -/
def State.goSilent (s : State) (p : Port) : State :=
  ((s.modifyPort p fun r => { r with link := .silent, silence := .stopped }).raise (silenceCause p)).post .spu
    (otherPorts p) ⟨.linkSilent, 5, .station p, portNumber p⟩

/-- SILENCE_TIMER_EXPIRY. A timer that is not running cannot expire. -/
def execSilenceTimerExpiry (p : Port) (s : State) : Host.Outcome State Fault Refusal :=
  s.whileRunning fun s => if (s.spu.ports.get p).silence.isRunning then s.goSilent p else s

/-! ## UNKNOWN_REQUEST_CODE (R154) and MASK (R158) -/

/-- UNKNOWN_REQUEST_CODE. The handler answers BAD_REQUEST at its first check; no block takes the request. -/
def execUnknownRequestCode (s : State) : Host.Outcome State Fault Refusal :=
  s.whileRunning fun s => s.serve .unknownRequestCode (answerOnly fun _ _ _ => refuse .badRequest)

/-- R158. -/
def settleMask : Settlement := fun p r s =>
  let v := fieldAt r.body 0
  (s.modifyPort p fun x => { x with mask := min v 6 },
    some (doneClamped (decide (6 < v)) (byteField (min v 6))))

/-- MASK. -/
def execMask (s : State) : Host.Outcome State Fault Refusal :=
  s.whileRunning fun s => s.serve .mask settleMask

end Sys2Proof.Machine
end

