-- ==== Sys2Proof/Machine/Notices.lean ====
section
/-! DEFINITION. The commands of the Notice Unit and the Fault Record (chapter 11): NOTICE_POSTING, NOTICE, CAUSE_HANDOVER,
FAULT READ and FAULT CLEAR. -/

namespace Sys2Proof.Machine

/-! ## The notice queues (R163 to R165) -/

/-- The least severity in a queue; 8 for an empty one, above every severity. -/
def leastSeverity (q : List Notice) : Nat := ((q.map (·.severity)).min?).getD 8

/-- The greatest severity in a queue; 0 for an empty one. -/
def greatestSeverity (q : List Notice) : Nat := ((q.map (·.severity)).max?).getD 0

/-- The oldest notice of a severity, and the queue without it. -/
def takeSeverity (v : Nat) (q : List Notice) : Option (Notice × List Notice) := takeNth (fun n => n.severity == v) 0 q

/-- R164: a notice joins a full queue; only severity 7 displaces one, the oldest of the least severe below 7. -/
def displace (q : List Notice) (n : Notice) : List Notice :=
  if n.severity = 7 ∧ leastSeverity q < 7 then
    match takeSeverity (leastSeverity q) q with
    | some (_, rest) => rest ++ [n]
    | none => q
  else q

/-- A station's queue replaced; the attention line follows it (R165). -/
def NoticeQueue.withQueue (x : NoticeQueue) (q : List Notice) (overflow : Bool) : NoticeQueue :=
  { x with queue := q, overflow := overflow, attention := !q.isEmpty }

/-- R164: a notice delivered to a station. -/
def NoticeQueue.deliver (x : NoticeQueue) (n : Notice) : NoticeQueue :=
  if x.queue.length < 4 then x.withQueue (x.queue ++ [n]) x.overflow
  else x.withQueue (displace x.queue n) true

/-- R163: a posting reaches one station of its route, where its severity is above the station's mask. -/
def State.deliverTo (s : State) (n : Notice) (p : Port) : State :=
  if (s.spu.ports.get p).mask < n.severity then s.withNu (s.nu.modify p fun x => x.deliver n) else s

/-- NU takes the oldest posting in flight of a block (log 1, log 22). -/
def State.takePosting (s : State) (src : Block) : State :=
  match takeNth (fun x => x.source == src) 0 s.hand.postings with
  | some (x, rest) =>
    x.route.foldl (fun t p => t.deliverTo x.notice p) (s.withHand { s.hand with postings := rest })
  | none => s

/-- NOTICE_POSTING. -/
def execNoticePosting (src : Block) (s : State) : Host.Outcome State Fault Refusal :=
  s.whileRunning fun s => s.takePosting src

/-- The body of a NOTICE's DONE (R165). -/
def noticeBody (n : Notice) (left : Nat) (overflow : Bool) : List Byte :=
  byteField (noticeKindNumber n.kind) ++ byteField n.severity ++ subjectField n.subject ++ bytesOf 4 n.value
    ++ byteField left ++ [flagByte overflow]

/-- R165: one notice fetched from a station's queue. -/
def NoticeQueue.fetch (x : NoticeQueue) : NoticeQueue × Answer :=
  match takeSeverity (greatestSeverity x.queue) x.queue with
  | some (n, rest) =>
    let y := x.withQueue rest (x.overflow && !rest.isEmpty)
    (y, doneWith (noticeBody n rest.length y.overflow))
  | none => (x, refuse .none)

/-- R165. -/
def settleNotice : Settlement := fun p _ s =>
  let x := (s.nu.get p).fetch
  (s.withNu (s.nu.set p x.1), some x.2)

/-- NOTICE. -/
def execNotice (s : State) : Host.Outcome State Fault Refusal :=
  s.whileRunning fun s => s.serve .notice settleNotice

/-! ## The fault record (R167) -/

/-- R167: the record captured from a hand-over, with what it reads at the capture. -/
def State.capture (s : State) (f : FaultMessage) : Captured where
  cause := f.cause
  deviceState := f.deviceState.getD s.dsu.state
  mover := f.mover
  moverState := f.mover.map fun m => f.moverState.getD (s.moverState m)
  data := f.data.toRecordedData
  windMean := s.wm.mean
  gust := s.wm.gust
  east := s.braceState .east
  west := s.braceState .west

/-- R167: a cause entered in the summary. -/
def enterSummary (c : Cause) (es : List SummaryEntry) : List SummaryEntry :=
  if es.any fun e => e.cause == c then es.map fun e => if e.cause = c then { e with repeated := true } else e
  else es ++ [⟨c, false⟩]

/-- R167: FR takes a hand-over. -/
def State.recordFault (s : State) (f : FaultMessage) : State :=
  if isRecorded f.cause then
    match s.fr.record with
    | none => s.withFr ⟨some (s.capture f), [⟨f.cause, false⟩]⟩
    | some _ => s.withFr { s.fr with summary := enterSummary f.cause s.fr.summary }
  else s

/-- FR takes the n-th oldest hand-over in flight (log 1, log 26). -/
def State.takeFault (s : State) (n : Nat) : State :=
  match takeNth (fun _ => true) n s.hand.faults with
  | some (f, rest) => (s.withHand { s.hand with faults := rest }).recordFault f
  | none => s

/-- CAUSE_HANDOVER. -/
def execCauseHandover (n : Nat) (s : State) : Host.Outcome State Fault Refusal :=
  s.whileRunning fun s => s.takeFault n

/-! ## FAULT READ and FAULT CLEAR (R168) -/

/-- A number, or 0 where absent. -/
def optNumber {α : Type} (f : α → Nat) : Option α → Nat
  | some x => f x
  | none => 0

/-- The 31 bytes of a captured record after its presence byte (R168). -/
def capturedBytes (r : Captured) : List Byte :=
  let d := r.data
  byteField (causeNumber r.cause) ++ byteField (deviceStateNumber r.deviceState) ++ byteField (optNumber moverNumber r.mover)
    ++ byteField ((r.moverState.map moverStateNumber).getD 255) ++ byteField (optNumber axisNumber d.axis)
    ++ byteField (optNumber braceNumber d.brace) ++ byteField (sourceNumber d.source) ++ byteField (presenceByte d)
    ++ optField 3 d.lead ++ optField 3 d.primary ++ optField 3 d.check ++ optField 2 d.speed ++ optField 2 d.axisCeiling
    ++ optField 3 d.authorityEnd ++ bytesOf 2 r.windMean ++ bytesOf 2 r.gust ++ byteField (braceStateNumber r.east)
    ++ byteField (braceStateNumber r.west)

/-- The first 31 bytes of FAULT READ. Every field of an empty record is 0, but the mover state, which is absent and reads
FF hex (R168). -/
def recordBytes : Option Captured → List Byte
  | some r => byteField 1 ++ capturedBytes r
  | none => List.replicate 4 0#8 ++ byteField 255 ++ List.replicate 26 0#8

/-- A summary entry's byte (R168). -/
def summaryByte (e : SummaryEntry) : List Byte := byteField (causeNumber e.cause + if e.repeated then 128 else 0)

/-- The body of FAULT READ (R168). -/
def Fr.body (f : Fr) : List Byte :=
  recordBytes f.record ++ byteField f.summary.length ++ f.summary.flatMap summaryByte

/-- FAULT_READ. -/
def execFaultRead (s : State) : Host.Outcome State Fault Refusal :=
  s.whileRunning fun s => s.serve .faultRead (answerOnly fun _ _ t => doneWith t.fr.body)

/-- R168: FAULT CLEAR. -/
def settleFaultClear : Settlement := fun _ _ s =>
  if s.dsu.state = .locked then (s, some (refuse .locked))
  else ((s.withFr .initial).withDsu { s.dsu with flags := ⟨false, false, false, false⟩ }, some doneEmpty)

/-- FAULT_CLEAR. -/
def execFaultClear (s : State) : Host.Outcome State Fault Refusal :=
  s.whileRunning fun s => s.serve .faultClear settleFaultClear

end Sys2Proof.Machine
end

