-- ==== Sys2Proof/Machine/Status.lean ====
section
/-! DEFINITION. The status replies (R159, R160): STATUS and MOVER STATUS. -/

namespace Sys2Proof.Machine

/-! ## STATUS (R159) -/

/-- The configuration signature: the stored check value, 0 while the image status is Failed (R14, R159). -/
def State.signature (s : State) : Int := if s.cs.valid then s.cs.stored.check.toNat else 0

/-- The default detail mover of a role (R159). -/
def defaultDetail : Port → Mover
  | .roof | .venue => .p1
  | .pitch => .tray

/-- The detail mover a field names; 0 names the role's default (R159). -/
def detailOf (p : Port) (n : Nat) : Option Mover := if n = 0 then some (defaultDetail p) else moverOfNumber n

/-- An axis slot: position, validity, trimmed ceiling in units of 2 mm/s (R159). -/
def State.axisSlot (s : State) (a : Axis) : List Byte :=
  let r := s.pos.axes.get a
  optField 3 r.position ++ byteField (validityNumber r.validity) ++ bytesOf 1 ((s.asu.ceilings.get a).ceiling / 2)

/-- An axis slot a panel does not fill (R159). -/
def emptySlot : List Byte := bytesOf 3 0 ++ byteField 255 ++ bytesOf 1 0

/-- The four axis slots of a mover (R159). -/
def State.axisSlots (s : State) (m : Mover) : List Byte :=
  (axesOf m).flatMap s.axisSlot ++ (List.replicate (4 - (axesOf m).length) emptySlot).flatten

/-- Offsets 0 to 16 of STATUS, for a station (R159). -/
def State.statusDevice (s : State) (p : Port) : List Byte :=
  let q := s.nu.get p
  byteField (deviceStateNumber s.dsu.state) ++ byteField (statusFlags s.dsu s.brc.demand q.overflow)
    ++ bytesOf 4 s.signature ++ bytesOf 2 s.wm.mean ++ bytesOf 2 s.wm.gust ++ byteField (windStateNumber s.wm.state)
    ++ byteField (braceStateNumber (s.braceState .east)) ++ byteField (braceStateNumber (s.braceState .west))
    ++ allPorts.flatMap (fun x => byteField (linkStateNumber (s.spu.ports.get x).link))
    ++ byteField q.queue.length

/-- Offsets 17 to 47 of STATUS, for a detail mover (R159). -/
def State.statusMovers (s : State) (m : Mover) : List Byte :=
  let a := s.authorityOf m
  allMovers.flatMap (fun x => byteField (moverStateNumber (s.moverState x))) ++ byteField (moverNumber m)
    ++ bytesOf 1 (directionValue a.direction) ++ optField 3 a.authorityEnd ++ bytesOf 1 (a.untrimmed / 2) ++ s.axisSlots m

/-- The 48-byte body of STATUS. -/
def State.statusBody (s : State) (p : Port) (m : Mover) : List Byte := s.statusDevice p ++ s.statusMovers m

/-- R159. -/
def answerStatus (p : Port) (r : Request) (s : State) : Answer :=
  match detailOf p (fieldAt r.body 0) with
  | some m => doneWith (s.statusBody p m)
  | none => refuse .badRequest

/-- STATUS. -/
def execStatus (s : State) : Host.Outcome State Fault Refusal :=
  s.whileRunning fun s => s.serve .status (answerOnly answerStatus)

/-! ## MOVER STATUS (R160) -/

/-- Halt causes, oldest first, eleven places, unused places 0 (R160). -/
def haltCauseField (cs : List Cause) : List Byte :=
  ((cs.flatMap fun c => byteField (causeNumber c)) ++ List.replicate 11 0#8).take 11

/-- Page 0, the stop page, with the time left on the trip timer given (R160). -/
def State.stopPage (s : State) (m : Mover) (timeLeft : Int) : List Byte :=
  let r := s.msu.get m
  let q := s.pos.movers.get m
  byteField (moverStateNumber r.state) ++ bytesOf 1 (directionValue (s.authorityOf m).direction)
    ++ byteField (optNumber causeNumber r.stopCause) ++ byteField (stopEndNumber r.stopEnd)
    ++ byteField r.haltCauses.length ++ haltCauseField r.haltCauses ++ optField 4 r.parkedPosition
    ++ [flagByte r.uncommandedOpen] ++ bytesOf 2 timeLeft ++ [flagByte r.relayClosed] ++ [flagByte r.readbackClosed]
    ++ [flagByte q.standstill] ++ bytesOf 2 q.speed

/-- Page 1, the authority page (R160). -/
def State.authorityPage (s : State) (m : Mover) : List Byte :=
  let a := s.authorityOf m
  let q := s.pos.movers.get m
  let k := s.asu.skew.get m
  optField 4 q.lead ++ optField 4 q.furthest ++ optField 4 (q.body.map (·.low)) ++ optField 4 (q.body.map (·.high))
    ++ optField 4 a.authorityEnd ++ optField 4 a.stopTarget ++ byteField (sourceNumber a.source) ++ bytesOf 2 a.targetCap
    ++ bytesOf 2 a.capInUse ++ [flagByte a.descent.isSome] ++ optField 4 (a.descent.map (·.point)) ++ bytesOf 2 a.untrimmed
    ++ [flagByte a.overspeedOpen] ++ optField 4 k.lastSpread ++ [flagByte k.alarmOpen] ++ [flagByte k.tripOpen]

/-- A reader's last good position and status (R160). -/
def readerField (r : ReaderRec) : List Byte := optField 4 r.lastPosition ++ byteField (goodStatusNumber r.lastStatus)

/-- Pages 2 to 5, an axis page (R160). -/
def State.axisPage (s : State) (a : Axis) : List Byte :=
  let r := s.pos.axes.get a
  let c := s.asu.ceilings.get a
  byteField (axisNumber a) ++ byteField (validityNumber r.validity) ++ optField 4 r.position ++ bytesOf 2 r.speed
    ++ byteField r.standstillCount ++ byteField r.window.length ++ readerField (s.pos.primary.get a)
    ++ readerField (s.pos.check.get a) ++ byteField r.discrepancies ++ byteField r.recovery ++ bytesOf 2 c.ceiling
    ++ [flagByte c.overMark] ++ byteField c.overCount

/-- The page of a mover a field names, 0 to 5 and within its axes (R160). -/
def State.page (s : State) (m : Mover) (n : Nat) (timeLeft : Int) : Option (List Byte) :=
  match n with
  | 0 => some (s.stopPage m timeLeft)
  | 1 => some (s.authorityPage m)
  | k + 2 => ((axesOf m)[k]?).map s.axisPage

/-- R160. Each reply takes a fresh time left for the trip timer (log 5). -/
def settleMoverStatus : Settlement := fun _ r s =>
  let n := fieldAt r.body 1
  match moverOfNumber (fieldAt r.body 0) with
  | none => (s, some (refuse .badRequest))
  | some m =>
    match s.page m n (tripTimeLeft s.freeCount (s.msu.get m).tripTimer) with
    | none => (s, some (refuse .badRequest))
    | some bytes => (s.withFreeCount (s.freeCount + 1), some (doneWith (byteField (moverNumber m) ++ byteField n ++ bytes)))

/-- MOVER_STATUS. -/
def execMoverStatus (s : State) : Host.Outcome State Fault Refusal :=
  s.whileRunning fun s => s.serve .moverStatus settleMoverStatus

end Sys2Proof.Machine
end

