-- ==== Sys2Proof/Machine/Store.lean ====
section
/-! DEFINITION. The commands of the Configuration Store (R7 to R14): CONFIG READ, CONFIG WRITE, COMMIT and the end of a
storage write. -/

namespace Sys2Proof.Machine

/-! ## CONFIG READ (R9) -/

/-- The values of an image from a key on, at most n, in serial order (R9). -/
def Image.run (img : Image) (k : Key) (n : Nat) : List Int :=
  (((serialKeys.dropWhile fun x => x != k).take n).map img.value)

/-- The image a CONFIG READ's source names: 0 the active image, 1 the working copy (R9). -/
def Cs.source (c : Cs) (n : Nat) : Option Image := if n = 0 then some c.active else c.working

/-- R9: the refusals and the reply. R9 gives BAD_REQUEST and STATE without an order; the model tests BAD_REQUEST first
(DESIGN CHOICE, log 31). -/
def answerConfigRead (_ : Port) (r : Request) (s : State) : Answer :=
  let src := fieldAt r.body 0
  let k := keyAt r.body 1
  let n := fieldAt r.body 4
  if s.dsu.state = .locked then refuse .locked
  else if 1 < src ∨ n < 1 ∨ 10 < n ∨ k.isEntry = false then refuse .badRequest
  else
    match s.cs.source src with
    | none => refuse .state
    | some img =>
      let vs := img.run k n
      doneWith (keyField k ++ byteField vs.length ++ vs.flatMap (bytesOf 4))

/-- CONFIG_READ. -/
def execConfigRead (s : State) : Host.Outcome State Fault Refusal :=
  s.whileRunning fun s => s.serve .configRead (answerOnly answerConfigRead)

/-! ## CONFIG WRITE (R7, R8) -/

/-- Whether the device state lets a CONFIG WRITE be taken (R8, step 1). -/
def State.takesConfigWrite (s : State) : Bool :=
  match s.dsu.state with
  | .unconfigured | .configuring => true
  | .standby => s.allAtRest
  | .arming | .armed | .disarming | .locked => false

/-- R7: the working copy as a write finds it. -/
def Cs.workingCopy (c : Cs) : Image := c.working.getD (if c.valid then c.stored.image else defaultImage)

/-- The key that names no entry and loads the defaults (R8). -/
def defaultsKey : Key := ⟨1, 0, 0⟩

/-- R8, step 3: the working copy after a write. -/
def writeEntry (img : Image) (k : Key) (v : Int) : Image := if k = defaultsKey then defaultImage else img.setEntry k v

/-- The device goes to Configuring, where it is not there already (R8). -/
def State.toConfiguring (s : State) : State := if s.dsu.state = .configuring then s else s.changeDevice .configuring

/-- R8. -/
def settleConfigWrite : Settlement := fun _ r s =>
  let k := keyAt r.body 0
  let v := int32At r.body 3
  if s.dsu.state = .locked then (s, some (refuse .locked))
  else if s.takesConfigWrite = false then (s, some (refuse .state))
  else if k ≠ defaultsKey ∧ k.isEntry = false then (s, some (refuse .badRequest))
  else
    ((s.withCs { s.cs with working := some (writeEntry s.cs.workingCopy k v) }).toConfiguring,
      some (doneWith (keyField k ++ bytesOf 4 (if k = defaultsKey then 0 else v))))

/-- CONFIG_WRITE. -/
def execConfigWrite (s : State) : Host.Outcome State Fault Refusal :=
  s.whileRunning fun s => s.serve .configWrite settleConfigWrite

/-! ## COMMIT (R10, R11) -/

/-- R11: the storage write starts; the reply waits for its end. -/
def State.startWrite (s : State) (tag : Byte) (img : Image) : State :=
  s.withCs { s.cs with working := some img.normalise, commit := some ⟨tag, img.normalise.checkValue⟩ }

/-- R10, R11. In Configuring a working copy is always present. -/
def settleCommit : Settlement := fun _ r s =>
  if s.dsu.state = .locked then (s, some (refuse .locked))
  else
    match s.dsu.state, s.cs.working with
    | .configuring, some img =>
      match firstFailing img with
      | some k => (s, some ⟨.range, false, keyField k⟩)
      | none => (s.startWrite r.tag img, none)
    | _, _ => (s, some (refuse .state))

/-- COMMIT. -/
def execCommit (s : State) : Host.Outcome State Fault Refusal :=
  s.whileRunning fun s => s.serve .commit settleCommit

/-! ## The committed image taken up (R12) -/

/-- A position update in flight with its body and lead formed under new lengths and margins (R12, log 16). -/
def State.refreshUpdate (s : State) (u : PositionUpdate) : PositionUpdate :=
  match allPresent (u.axes.map (·.position)) with
  | some xs =>
    { u with body := some (bodyOf (s.params u.mover) xs), lead := some (leadOf (s.params u.mover) xs (s.directionOf u.mover)) }
  | none => u

/-- A demand event in flight, with the position update it carries formed anew (R12, log 16). -/
def State.refreshEvent (s : State) : DemandEvent → DemandEvent
  | .bodyChange u => .bodyChange (s.refreshUpdate u)
  | .closure mean gust wind => .closure mean gust wind
  | .braceChange => .braceChange
  | .holdReport => .holdReport
  | .deviceChange => .deviceChange
  | .commit => .commit

/-- R12, POS: every body extent and lead formed anew. -/
def State.reformBodies (s : State) : State :=
  let s1 := allMovers.foldl State.formGeometry s
  s1.withHand { s1.hand with
    toZt := s1.hand.toZt.map s1.refreshUpdate
    toAsu := s1.hand.toAsu.map s1.refreshUpdate
    toMsu := s1.hand.toMsu.map s1.refreshUpdate
    demandEvents := s1.hand.demandEvents.map s1.refreshEvent }

/-- R12, MSU: the parked position of a mover at rest. -/
def State.repark (s : State) (m : Mover) : State :=
  if (s.moverState m).atRest then s.setMover m { s.msu.get m with parkedPosition := (s.pos.movers.get m).lead } else s

/-- R12, Zone Table: a path's records built anew, with the movers that rest in them. -/
def restingZones (img : Image) (body : PerMover (Option Extent)) (p : Path) : List ZoneRec :=
  (freshZones (img.path p)).map fun z => { z with resting := (moversOn p).filter fun m => bodyOverlaps (body.get m) z }

/-- R12, Zone Table. The rebuild drops the waiting sets and posts no ZONE FREED, on which R12 is silent (DESIGN CHOICE,
log 33). -/
def State.rebuildZones (s : State) : State :=
  s.withZt ⟨restingZones s.cs.active s.bodies .runway, restingZones s.cs.active s.bodies .tray, s.bodies⟩

/-- R12: the blocks take up the active image; BRC tests the demand on it. -/
def State.takeUpImage (s : State) : State :=
  ((allMovers.foldl State.repark s.reformBodies).rebuildZones).handDemand .commit

/-! ## STORAGE_WRITE_COMPLETE (R11, R13) -/

/-- R11: the write succeeds. -/
def State.writeSucceeds (s : State) (c : CommitRec) (img : Image) : State :=
  let s1 := (s.withCs ⟨⟨img, c.check⟩, true, img, none, none⟩).takeUpImage
  (s1.changeDevice .standby).reply .venue c.tag (doneWith (bytesOf 4 c.check.toNat))

/-- R13: the write fails; the store is left in a state whose check fails (log 6). -/
def State.writeFails (s : State) (c : CommitRec) : State :=
  let s1 := (s.withCs { s.cs with stored := tornStore s.freeCount, valid := false, commit := none }).withFreeCount
    (s.freeCount + 1)
  (s1.changeDevice .unconfigured).reply .venue c.tag (refuse .checkFailed)

/-- R11, R13: the storage write in flight ends. While one is in flight a working copy is present. -/
def State.endWrite (s : State) (readbackMatches : Bool) : State :=
  match s.cs.commit, s.cs.working with
  | some c, some img => if readbackMatches then s.writeSucceeds c img else s.writeFails c
  | _, _ => s

/-- STORAGE_WRITE_COMPLETE. -/
def execStorageWriteComplete (readbackMatches : Bool) (s : State) : Host.Outcome State Fault Refusal :=
  s.whileRunning fun s => s.endWrite readbackMatches

end Sys2Proof.Machine
end

