-- ==== Sys2Proof/Machine/Resets.lean ====
section
/-! DEFINITION. The resets (R146 to R148): POWER_ON_RESET, LINE_RESET, RESET_LINE_RELEASE and COMMANDED_RESET. -/

namespace Sys2Proof.Machine

/-- The store as a reset finds it: torn where a write was in flight (R15, log 6). -/
def State.storeAtReset (s : State) : StoredImage := if s.cs.commit.isSome then tornStore s.freeCount else s.cs.stored

/-- R15. -/
def Cs.atReset (st : StoredImage) : Cs := ⟨st, st.passes, if st.passes then st.image else defaultImage, none, none⟩

/-- R143, R145: the lines at their raw levels, unfiltered. -/
def Slu.atReset (u : Slu) (filter held : Bool) : Slu where
  channels := .ofFn fun c => (u.channels.get c).settled
  loop := if (u.channels.get .a).raw && (u.channels.get .b).raw then .closed else .opened
  discrepancyTimer := false
  trips := .ofFn fun m => (u.trips.get m).settled
  resetAsserted := u.resetAsserted
  resetFilter := filter
  heldInReset := held

/-- R147: DSU's record at a reset. -/
def Dsu.atReset (valid token : Bool) (flags : ResetFlags) : Dsu :=
  ⟨if valid then .standby else .unconfigured, none, false, token, true, flags⟩

/-- R126: BRC at a reset, with its switches as they stand. -/
def Brc.atReset (b : Brc) : Brc :=
  ⟨.ofFn fun x => .initial (b.braces.get x).engagedSwitch (b.braces.get x).withdrawnSwitch, none, false, false⟩

/-- R145: DRIVE TRIP for every drive-trip input found active at a reset. -/
def tripsFound (u : Slu) : List CauseMessage :=
  (allMovers.filter fun m => (u.trips.get m).raw).map fun m => ⟨.driveTrip, .one m, CauseData.nothing⟩

/-- What distinguishes the resets (R146, R147, R166, R168). -/
structure ResetKind where
  token : Bool
  flags : ResetFlags
  fr : Fr
  filter : Bool
  held : Bool
deriving DecidableEq, Repr

/-- R147: every block set to its reset values. While the reset line holds the part in reset the notice queues are empty
and the attention lines released; when the reset ends each holds RESTARTED (R166). Nothing handed over before survives
(log 24). -/
def State.resetTo (s : State) (k : ResetKind) : State where
  cs := .atReset s.storeAtReset
  pos := .initial
  zt := .initial (Cs.atReset s.storeAtReset).active
  asu := .initial
  msu := .ofFn fun m => .initial (s.msu.get m).readbackClosed
  brc := s.brc.atReset
  wm := .initial
  slu := s.slu.atReset k.filter k.held
  dsu := .atReset s.storeAtReset.passes k.token k.flags
  spu := .initial
  nu := .ofFn fun _ => if k.held then .cleared else .restarted k.flags
  fr := k.fr
  hand := { Handovers.none with causes := tripsFound s.slu }
  freeCount := if s.cs.commit.isSome then s.freeCount + 1 else s.freeCount
  pending := s.pending

/-- POWER_ON_RESET (R147). The reset line's filter starts where the line is asserted (log 11). -/
def execPowerOnReset (s : State) : Host.Outcome State Fault Refusal :=
  .next (s.resetTo ⟨false, ⟨true, false, false, false⟩, .initial, s.slu.resetAsserted, false⟩)

/-- R147: the reset cause flags after a line reset. -/
def ResetFlags.afterLine (f : ResetFlags) (locked : Bool) : ResetFlags :=
  { f with line := true, fromLocked := f.fromLocked || locked }

/-- R146, R147: a line reset is taken, and the part is held in reset. -/
def State.lineReset (s : State) : State :=
  s.resetTo ⟨s.dsu.token, s.dsu.flags.afterLine (s.dsu.state == .locked), s.fr, false, true⟩

/-- LINE_RESET: the reset line's filter timer expires. A timer that is not running cannot expire. -/
def execLineReset (s : State) : Host.Outcome State Fault Refusal :=
  s.whileRunning fun s => if s.slu.resetFilter then s.lineReset else s

/-- The reset line's level becomes released and its filter stops. -/
def State.lineReleased (s : State) : State :=
  s.withSlu { s.slu with resetAsserted := false, resetFilter := false }

/-- R146: the reset ends and the part starts, with the inputs as they stand (log 10). -/
def State.endReset (s : State) : State := s.lineReleased.resetTo ⟨s.dsu.token, s.dsu.flags, s.fr, false, false⟩

/-- RESET_LINE_RELEASE. A release before the filter expires only stops it (R146). -/
def execResetLineRelease (s : State) : Host.Outcome State Fault Refusal :=
  .next (if s.slu.heldInReset then s.endReset else s.lineReleased)

/-- R147, R148: the commanded reset. -/
def State.commandedReset (s : State) : State :=
  s.resetTo ⟨s.dsu.token, { s.dsu.flags with command := true }, s.fr, s.slu.resetAsserted, false⟩

/-- COMMANDED_RESET. It is taken once the reply to an accepted RESET has left (R148). -/
def execCommandedReset (s : State) : Host.Outcome State Fault Refusal :=
  s.whileRunning fun s => if s.spu.handler = .resetDue then s.commandedReset else s

end Sys2Proof.Machine
end

