-- ==== Sys2Proof/Machine/Dispatch.lean ====
section
/-! DEFINITION. What each command does: one arm for each constructor of `Instr`. -/

namespace Sys2Proof.Machine

/-- A command's effect on everything but the queue of waiting commands. -/
def exec (i : Instr) (s : State) : Host.Outcome State Fault Refusal :=
  match i with
  | .powerOnReset => Sys2Proof.Machine.execPowerOnReset s
  | .resetLineAssertion => Sys2Proof.Machine.execResetLineAssertion s
  | .lineReset => Sys2Proof.Machine.execLineReset s
  | .resetLineRelease => Sys2Proof.Machine.execResetLineRelease s
  | .commandedReset => Sys2Proof.Machine.execCommandedReset s
  | .completeFrame port => Sys2Proof.Machine.execCompleteFrame port s
  | .frameTimerExpiry port => Sys2Proof.Machine.execFrameTimerExpiry port s
  | .replyFrameSent port => Sys2Proof.Machine.execReplyFrameSent port s
  | .silenceTimerExpiry port => Sys2Proof.Machine.execSilenceTimerExpiry port s
  | .unknownRequestCode => Sys2Proof.Machine.execUnknownRequestCode s
  | .status => Sys2Proof.Machine.execStatus s
  | .moverStatus => Sys2Proof.Machine.execMoverStatus s
  | .notice => Sys2Proof.Machine.execNotice s
  | .mask => Sys2Proof.Machine.execMask s
  | .reserve => Sys2Proof.Machine.execReserve s
  | .release => Sys2Proof.Machine.execRelease s
  | .move => Sys2Proof.Machine.execMove s
  | .stop => Sys2Proof.Machine.execStop s
  | .clear => Sys2Proof.Machine.execClear s
  | .braceEngage => Sys2Proof.Machine.execBraceEngage s
  | .braceWithdraw => Sys2Proof.Machine.execBraceWithdraw s
  | .braceClear => Sys2Proof.Machine.execBraceClear s
  | .barrierClose => Sys2Proof.Machine.execBarrierClose s
  | .barrierOpen => Sys2Proof.Machine.execBarrierOpen s
  | .permitsOff => Sys2Proof.Machine.execPermitsOff s
  | .permitsOn => Sys2Proof.Machine.execPermitsOn s
  | .arm => Sys2Proof.Machine.execArm s
  | .standby => Sys2Proof.Machine.execStandby s
  | .reset => Sys2Proof.Machine.execReset s
  | .faultRead => Sys2Proof.Machine.execFaultRead s
  | .faultClear => Sys2Proof.Machine.execFaultClear s
  | .configRead => Sys2Proof.Machine.execConfigRead s
  | .configWrite => Sys2Proof.Machine.execConfigWrite s
  | .commit => Sys2Proof.Machine.execCommit s
  | .storageWriteComplete readbackMatches => Sys2Proof.Machine.execStorageWriteComplete readbackMatches s
  | .readingArrival bus frame => Sys2Proof.Machine.execReadingArrival bus frame s
  | .gapTimerExpiry axis role => Sys2Proof.Machine.execGapTimerExpiry axis role s
  | .lossTimerExpiry axis => Sys2Proof.Machine.execLossTimerExpiry axis s
  | .validityChange axis => Sys2Proof.Machine.execValidityChange axis s
  | .positionUpdateZT mover => Sys2Proof.Machine.execPositionUpdateZT mover s
  | .positionUpdateASU mover => Sys2Proof.Machine.execPositionUpdateASU mover s
  | .authorityConsumed mover => Sys2Proof.Machine.execAuthorityConsumed mover s
  | .positionUpdateMSU mover => Sys2Proof.Machine.execPositionUpdateMSU mover s
  | .immediateCauseTaken which => Sys2Proof.Machine.execImmediateCauseTaken which s
  | .controlledCauseTaken which => Sys2Proof.Machine.execControlledCauseTaken which s
  | .holdCauseTaken which => Sys2Proof.Machine.execHoldCauseTaken which s
  | .deviceStateChangeMSU => Sys2Proof.Machine.execDeviceStateChangeMSU s
  | .tripTimerExpiry mover => Sys2Proof.Machine.execTripTimerExpiry mover s
  | .readbackTimerExpiry mover => Sys2Proof.Machine.execReadbackTimerExpiry mover s
  | .readbackContactChange mover closed => Sys2Proof.Machine.execReadbackContactChange mover closed s
  | .stepTimerExpiry => Sys2Proof.Machine.execStepTimerExpiry s
  | .moverStateChange => Sys2Proof.Machine.execMoverStateChange s
  | .loopChannelChange channel closed => Sys2Proof.Machine.execLoopChannelChange channel closed s
  | .loopFilterExpiry channel => Sys2Proof.Machine.execLoopFilterExpiry channel s
  | .discrepancyTimerExpiry => Sys2Proof.Machine.execDiscrepancyTimerExpiry s
  | .driveTripInputChange mover active => Sys2Proof.Machine.execDriveTripInputChange mover active s
  | .driveTripFilterExpiry mover => Sys2Proof.Machine.execDriveTripFilterExpiry mover s
  | .braceSwitchChange brace engagedClosed withdrawnClosed => Sys2Proof.Machine.execBraceSwitchChange brace engagedClosed withdrawnClosed s
  | .braceSwitchLoss => Sys2Proof.Machine.execBraceSwitchLoss s
  | .operationTimerExpiry brace => Sys2Proof.Machine.execOperationTimerExpiry brace s
  | .cutShort => Sys2Proof.Machine.execCutShort s
  | .demandConditionTest source => Sys2Proof.Machine.execDemandConditionTest s source
  | .anemometerPulse which => Sys2Proof.Machine.execAnemometerPulse which s
  | .intervalClosure => Sys2Proof.Machine.execIntervalClosure s
  | .noticePosting source => Sys2Proof.Machine.execNoticePosting source s
  | .causeHandover which => Sys2Proof.Machine.execCauseHandover which s
  | .stationPortByte port byte framingError => Sys2Proof.Machine.execStationPortByte port byte framingError s

end Sys2Proof.Machine
end

