-- ==== Sys2Proof/Safety.lean ====
section
/-! DEFINITION. What a sound state of the part is, block by block, in the terms the statements use. Each predicate says a
law of the manual that every step keeps. -/

namespace Sys2Proof.Machine

/-! ## Zone records (R35, R36, R55) -/

/-- A zone record of a path: never both a holder and a clearing-for mover; a Closed barrier stands with neither and a
Pending one with one of them (R35, R36, R55); no mover rests in a zone it holds (R37); only movers of the path appear
(R35). -/
def ZoneRec.Sound (p : Path) (z : ZoneRec) : Prop :=
  (z.holder = none ∨ z.clearingFor = none)
    ∧ (z.barrier = .closed → z.holder = none ∧ z.clearingFor = none)
    ∧ (z.barrier = .pending → z.holder ≠ none ∨ z.clearingFor ≠ none)
    ∧ (∀ m, z.holder = some m → m ∉ z.resting)
    ∧ (∀ m, z.holder = some m ∨ z.clearingFor = some m ∨ m ∈ z.resting ∨ m ∈ z.waiting → pathOf m = p)

/-- Every zone record is sound. -/
def State.ZonesSound (s : State) : Prop := ∀ p, ∀ z ∈ s.zt.zones p, z.Sound p

/-! ## Station ports (R149 to R152, R157, R158) -/

/-- A port within its bounds: at most two requests queued (R151), at most two replies to served requests and two BUSY
replies waiting (R152), Live exactly while the silence timer runs (R157), a mask of at most 6 (R158). -/
def PortRec.Sound (r : PortRec) : Prop :=
  r.queue.length ≤ 2 ∧ servedReplies r.output ≤ 2 ∧ busyReplies r.output ≤ 2
    ∧ (r.link = .live ↔ r.silence.isRunning = true) ∧ r.mask ≤ 6

/-- Every port is sound, and while a storage write is in flight the Venue port keeps room for its reply (R153). -/
def State.PortsSound (s : State) : Prop :=
  (∀ p, (s.spu.ports.get p).Sound)
    ∧ (s.cs.commit.isSome = true → servedReplies (s.spu.ports.get .venue).output < 2)

/-! ## Notice queues (R164, R165) -/

/-- At most four notices; the attention line asserted exactly while the queue holds one; the overflow flag set only
while it holds one. -/
def NoticeQueue.Sound (x : NoticeQueue) : Prop :=
  x.queue.length ≤ 4 ∧ (x.attention = true ↔ x.queue ≠ []) ∧ (x.overflow = true → x.queue ≠ [])

/-- Every station's notice queue is sound. -/
def State.NoticesSound (s : State) : Prop := ∀ p, (s.nu.get p).Sound

/-! ## Braces (R112, R117) -/

/-- A brace under the operation in flight: an output on, or a timer running, only while the brace moves that way, and it
moves only in the direction of the operation in flight. -/
def BraceRec.Sound (op : Option BraceDirection) (b : BraceRec) : Prop :=
  (b.engageOutput = true → b.state = .engaging) ∧ (b.withdrawOutput = true → b.state = .withdrawing)
    ∧ (b.timer.isRunning = true → b.state = .engaging ∨ b.state = .withdrawing)
    ∧ (b.state = .engaging → op = some .engage) ∧ (b.state = .withdrawing → op = some .withdraw)

/-- Both braces are sound. -/
def State.BracesSound (s : State) : Prop := ∀ b, (s.brc.braces.get b).Sound s.brc.operation

/-! ## Wind (R127, R130, R131) -/

/-- WM within its bounds: pulse counts, stuck counts and history (R127, R129, R130); the calm count 0 outside Limit, and
the state Unknown while the history is short (R131). -/
def Wm.Sound (w : Wm) : Prop :=
  (∀ x, (w.anemometers.get x).count ≤ 65535 ∧ (w.anemometers.get x).stuck ≤ 30)
    ∧ w.history.length ≤ 60 ∧ (w.state ≠ .limit → w.calmCount = 0) ∧ (w.history.length < 10 → w.state = .unknown)

/-! ## Axes (R20 to R28) -/

/-- An axis within its bounds: window, standstill count, discrepancy and recovery counts, speed; a position present
exactly outside Unknown. -/
def AxisRec.Sound (r : AxisRec) : Prop :=
  r.window.length ≤ 10 ∧ r.standstillCount ≤ 5 ∧ r.discrepancies ≤ 2 ∧ r.recovery ≤ 4
    ∧ absInt r.speed ≤ 9999 ∧ (r.position = none ↔ r.validity = .unknown)

/-- Every axis is sound. -/
def State.AxesSound (s : State) : Prop := ∀ a, (s.pos.axes.get a).Sound

/-! ## The fault record (R167) -/

/-- The summary lists recorded causes, each once, and is empty exactly where no record is captured. -/
def Fr.Sound (f : Fr) : Prop :=
  (f.record = none ↔ f.summary = []) ∧ (f.summary.map (·.cause)).Nodup ∧ ∀ e ∈ f.summary, isRecorded e.cause = true

/-! ## Movers, relays and authority (R60, R93, R103) -/

/-- A mover record: a stop end exactly while Stopping, a running trip timer only while Tripped, and neither a stop cause
nor a halt cause while Parked (R93, R97, R101, R107). -/
def MoverRec.Sound (r : MoverRec) : Prop :=
  (r.stopEnd ≠ none ↔ r.state = .stopping) ∧ (r.tripTimer.isRunning = true → r.state = .tripped)
    ∧ (r.state = .parked → r.stopCause = none ∧ r.haltCauses = [])

/-- An authority record by its mover's state: direction and end present while Permitted or Stopping, end and stop target
absent and the computed fields 0 while at rest (R60). -/
def Authority.Sound (a : Authority) (st : MoverState) : Prop :=
  (st.hasAuthority = true → a.direction ≠ none ∧ a.authorityEnd ≠ none)
    ∧ (st.atRest = true → a.authorityEnd = none ∧ a.stopTarget = none ∧ a.untrimmed = 0 ∧ a.descent = none
        ∧ a.overspeedOpen = false)

/-- A relay is commanded closed only while its mover is Permitted or Stopping, or for the close phase of its own test
(R103). -/
def State.RelaySound (s : State) (m : Mover) : Prop :=
  (s.msu.get m).relayClosed = true → (s.moverState m).hasAuthority = true ∨ s.dsu.armingStep = some (m, .close)

/-- A mover's records are sound together. -/
def State.MoverSound (s : State) (m : Mover) : Prop :=
  (s.msu.get m).Sound ∧ (s.authorityOf m).Sound (s.moverState m) ∧ s.RelaySound m

/-- Every mover is sound, an arming step stands exactly in Arming (R136), and a storage write is in flight only in
Configuring, with a working copy (R10, R11). -/
def State.MoversSound (s : State) : Prop :=
  (∀ m, s.MoverSound m) ∧ (s.dsu.armingStep ≠ none ↔ s.dsu.state = .arming)
    ∧ (s.cs.commit ≠ none → s.dsu.state = .configuring ∧ s.cs.working ≠ none)

/-! ## Requests in the handler's hands (R153, R154) -/

/-- The part runs, and the handler's next grant is a request of a code, with a body of a length the table allows. -/
def State.Asked (s : State) (p : Port) (r : Request) (c : RequestCode) : Prop :=
  s.slu.heldInReset = false ∧ s.grant = some (p, r) ∧ codeOfByte r.code = some c ∧ bodyLengthOk c r.body.length = true

/-- Such a request that passes the handler's other checks as well: the device not Locked, or the request one of the four
served in Locked; a role that may send it; and no mover of the other role named. -/
def State.Served (s : State) (p : Port) (r : Request) (c : RequestCode) : Prop :=
  s.Asked p r c ∧ (s.dsu.state = .locked → servedInLocked c = true) ∧ roleMaySend c p = true
    ∧ (namesMover c = true → wrongOwner p r.body = false)

/-- The state once the handler has taken the head and answered, where the owning block changed nothing else. -/
def State.answered (s : State) (p : Port) (r : Request) (a : Answer) : State := (s.takeHead p).reply p r.tag a

/-! ## Hand-overs taken, and fields of bodies -/

/-- A member is the n-th oldest, counted from 0, of those of a list that satisfy a test, and the rest is the list
without it (log 1). -/
def Taken {α : Type} (p : α → Bool) (n : Nat) (xs : List α) (x : α) (rest : List α) : Prop :=
  ∃ before after, xs = before ++ x :: after ∧ p x = true ∧ before.countP p = n ∧ rest = before ++ after

/-- The bytes of a body field by its offset and size (R159, R160, R165, R168). -/
def fieldBytes (body : List Byte) (off size : Nat) : List Byte := (body.drop off).take size

/-! ## Zone ranges -/

/-- No zone of a range satisfies a condition. -/
def NoneIn (zs : List ZoneRec) (r : ZoneRange) (c : ZoneRec → Prop) : Prop :=
  ∀ k z, zs[k]? = some z → r.first ≤ k → k ≤ r.last → ¬ c z

/-- A zone is the lowest-numbered of a range that satisfies a condition. -/
def LowestIn (zs : List ZoneRec) (r : ZoneRange) (c : ZoneRec → Prop) (k : Nat) : Prop :=
  (∃ z, zs[k]? = some z ∧ r.first ≤ k ∧ k ≤ r.last ∧ c z) ∧
    ∀ j z, zs[j]? = some z → r.first ≤ j → j < k → ¬ c z

/-! ## Resets (R147) -/

/-- What every reset sets, in the spec's own words for each block: CS by R15, POS by R34, ZT by R58, ASU by R60 and R81,
MSU by R110, BRC by R126, WM by R134, SLU by R143 and R145, DSU by R147, SPU by R161. -/
def State.BlocksReset (s t : State) : Prop :=
  (t.cs.working = none ∧ t.cs.commit = none ∧ (s.cs.commit = none → t.cs.stored = s.cs.stored)
      ∧ (s.cs.commit ≠ none → t.cs.valid = false))
    ∧ (if t.cs.stored.passes = true then t.cs.valid = true ∧ t.cs.active = t.cs.stored.image ∧ t.dsu.state = .standby
        else t.cs.valid = false ∧ t.cs.active = defaultImage ∧ t.dsu.state = .unconfigured)
    ∧ (t.pos = .initial ∧ t.asu = .initial ∧ t.wm = .initial ∧ t.spu = .initial)
    ∧ (∀ p, t.zt.zones p = freshZones (t.cs.active.path p))
    ∧ (∀ m, t.msu.get m = ⟨.parked, none, none, [], none, false, .stopped, false, (s.msu.get m).readbackClosed, false⟩)
    ∧ (∀ b, t.brc.braces.get b = ⟨stateOfReading (s.brc.braces.get b).reading, false, false, .stopped,
        (s.brc.braces.get b).engagedSwitch, (s.brc.braces.get b).withdrawnSwitch⟩)
    ∧ (t.brc.operation = none ∧ t.brc.startPending = false ∧ t.brc.demand = false)
    ∧ (∀ c, t.slu.channels.get c = ⟨(s.slu.channels.get c).raw, (s.slu.channels.get c).raw, false⟩)
    ∧ (∀ m, t.slu.trips.get m = ⟨(s.slu.trips.get m).raw, (s.slu.trips.get m).raw, false⟩)
    ∧ (t.slu.loop = (if (s.slu.channels.get .a).raw && (s.slu.channels.get .b).raw then .closed else .opened)
        ∧ t.slu.discrepancyTimer = false)
    ∧ (t.dsu.armingStep = none ∧ t.dsu.stepTimer = false ∧ t.dsu.permits = true)
    ∧ t.hand = { Handovers.none with
        causes := (allMovers.filter fun m => (s.slu.trips.get m).raw).map fun m => ⟨.driveTrip, .one m, .nothing⟩ }
    ∧ t.pending = s.pending

end Sys2Proof.Machine
end

