-- ==== Sys2Proof/Certificates/Slice0/Obligations.lean ====
section
/-! DEFINITION. The statements about the part. Each docstring names the rule a statement formalises, or says that the
statement is the model's own and names its log entry. -/

open Sys2Proof Sys2Proof.Machine

/-! ## The queue of waiting commands -/

/-- The block's interface (log 3): a step takes the command at the front of the queue and runs it on the state with
the rest of the queue; on an empty queue the part idles. -/
def Obligations.StepRunsFrontCommand : Prop :=
  ∀ (c : Instr) (rest : List Instr) (s : State),
    step (s.withPending (c :: rest)) = exec c (s.withPending rest)
      ∧ step (s.withPending []) = .next (s.withPending [])

/-- Log 30: every command has a next state in every state, and none touches the queue of waiting commands. -/
def Obligations.EveryCommandCompletes : Prop :=
  ∀ (c : Instr) (s : State), ∃ t, exec c s = .next t ∧ t.pending = s.pending

/-! ## Resets -/

/-- R16, with R15, R34, R58, R60, R81, R110, R126, R134, R161, R166 and R168: the part after its first power-on reset.
The part is taken after a power-on reset (log 9). -/
def Obligations.ResetIsUnconfiguredOnDefaults : Prop :=
  State.reset.dsu.state = .unconfigured ∧ State.reset.cs.valid = false ∧ State.reset.cs.stored.passes = false
    ∧ State.reset.cs.active = defaultImage ∧ State.reset.signature = 0 ∧ State.reset.dsu.flags = ⟨true, false, false, false⟩
    ∧ (∀ p, State.reset.zt.zones p = freshZones (defaultImage.path p))
    ∧ (State.reset.zt.runway.length = 36 ∧ State.reset.zt.tray.length = 25)
    ∧ (∀ m, State.reset.moverState m = .parked ∧ (State.reset.msu.get m).relayClosed = false)
    ∧ State.reset.wm.state = .unknown ∧ State.reset.fr = ⟨none, []⟩
    ∧ ∀ p, State.reset.nu.get p = ⟨[⟨.restarted, 6, .absent, 1⟩], false, true⟩

/-- R147 for a power-on reset, R168: every block is set to its reset values, the token and the fault record are
cleared, the flags are POWER alone, and RESTARTED stands in every station's queue (R166). R146, R147 for a line reset:
every block is set to its reset values, the token and the fault record are kept, LINE is added to the flags, with
FROM_LOCKED where the reset was taken in Locked, and the part is held in reset with every notice queue empty and every
attention line released (R166). That the hand-overs in flight are dropped is the model's choice (log 24), and so are
what the held part answers to (log 10) and that a power-on reset ends a hold by the reset line (log 11). -/
def Obligations.PowerOnAndLineResets : Prop :=
  (∀ s : State, ∃ t, exec .powerOnReset s = .next t ∧ s.BlocksReset t
      ∧ t.dsu.token = false ∧ t.dsu.flags = ⟨true, false, false, false⟩ ∧ t.fr = ⟨none, []⟩
      ∧ t.slu.heldInReset = false ∧ t.slu.resetAsserted = s.slu.resetAsserted
      ∧ ∀ p, t.nu.get p = ⟨[⟨.restarted, 6, .absent, 1⟩], false, true⟩)
    ∧ (∀ s : State, s.slu.heldInReset = false → s.slu.resetFilter = true →
        ∃ t, exec .lineReset s = .next t ∧ s.BlocksReset t
          ∧ t.dsu.token = s.dsu.token ∧ t.fr = s.fr
          ∧ t.dsu.flags = { s.dsu.flags with line := true, fromLocked := s.dsu.flags.fromLocked || s.dsu.state == .locked }
          ∧ t.slu.heldInReset = true ∧ t.slu.resetFilter = false ∧ t.slu.resetAsserted = s.slu.resetAsserted
          ∧ ∀ p, t.nu.get p = ⟨[], false, false⟩)

/-- R146: an assertion starts the filter timer; a release before it expires only stops it; the release of a held line
ends the reset, and the part starts with RESTARTED in every station's queue (R166). That the input levels are read
again at the release (log 10), and that the release drops the hand-overs in flight and raises only DRIVE TRIPs (log 24),
is the model's reading. -/
def Obligations.ResetLineAssertedAndReleased : Prop :=
  (∀ s : State, s.slu.heldInReset = false → s.slu.resetAsserted = false →
      exec .resetLineAssertion s = .next { s with slu := { s.slu with resetAsserted := true, resetFilter := true } })
    ∧ (∀ s : State, s.slu.heldInReset = false →
      exec .resetLineRelease s = .next { s with slu := { s.slu with resetAsserted := false, resetFilter := false } })
    ∧ (∀ s : State, s.slu.heldInReset = true →
      ∃ t, exec .resetLineRelease s = .next t ∧ s.BlocksReset t
        ∧ t.dsu.token = s.dsu.token ∧ t.fr = s.fr ∧ t.dsu.flags = s.dsu.flags
        ∧ t.slu.heldInReset = false ∧ t.slu.resetAsserted = false ∧ t.slu.resetFilter = false
        ∧ ∀ p, t.nu.get p = ⟨[⟨.restarted, 6, .absent, s.dsu.flags.value⟩], false, true⟩)

/-- R148: RESET is refused with STATE while a mover moves; else it is accepted: its head leaves the port's queue, the
port is the last granted (R153), the handler stops and DONE waits in the port's output. Once that reply has left, the
commanded reset sets every block, keeps the token and the fault record and adds COMMAND to the flags (R147). That the
hand-overs in flight are dropped is the model's choice (log 24). -/
def Obligations.CommandedResetFollowsItsReply : Prop :=
  (∀ (s : State) p r, s.Served p r .reset → s.dsu.state ≠ .locked → s.allAtRest = false →
      exec .reset s = .next (s.answered p r ⟨.state, false, []⟩))
    ∧ (∀ (s : State) p r, s.Served p r .reset → s.dsu.state ≠ .locked → s.allAtRest = true →
      exec .reset s = .next { s with spu := ⟨s.spu.ports.set p { s.spu.ports.get p with
        queue := (s.spu.ports.get p).queue.tail
        output := (s.spu.ports.get p).output ++ [⟨.resetAccepted, p, r.tag, 0, []⟩] }, p, .resetAccepted⟩ })
    ∧ (∀ s : State, s.slu.heldInReset = false → s.spu.handler = .resetDue →
      ∃ t, exec .commandedReset s = .next t ∧ s.BlocksReset t
        ∧ t.dsu.token = s.dsu.token ∧ t.fr = s.fr ∧ t.dsu.flags = { s.dsu.flags with command := true }
        ∧ t.slu.heldInReset = false
        ∧ ∀ p, t.nu.get p
            = ⟨[⟨.restarted, 6, .absent, ({ s.dsu.flags with command := true } : ResetFlags).value⟩], false, true⟩)

/-! ## Station ports -/

/-- R149: a byte at a receiver, and the expiry of the frame timer. That an A5 byte with a framing error starts a frame
is the model's choice (log 19), and so is that a completed frame waits to be tested by a command of its own (log 41). -/
def Obligations.ReceiverTakesBytes : Prop :=
  ∀ (s : State) (p : Port) (b : Byte) (fe : Bool), s.slu.heldInReset = false →
    ((s.spu.ports.get p).receiver = .hunting → b ≠ 0xA5#8 → exec (.stationPortByte p b fe) s = .next s)
      ∧ ((s.spu.ports.get p).receiver = .hunting → b = 0xA5#8 →
        exec (.stationPortByte p b fe) s = .next (s.setPort p { s.spu.ports.get p with receiver := .receiving [] }))
      ∧ (∀ taken, (s.spu.ports.get p).receiver = .receiving taken → fe = true →
        exec (.stationPortByte p b fe) s = .next (s.setPort p { s.spu.ports.get p with receiver := .hunting }))
      ∧ ((s.spu.ports.get p).receiver = .receiving [] → fe = false → b.toNat < 4 ∨ 52 < b.toNat →
        exec (.stationPortByte p b fe) s = .next (s.setPort p { s.spu.ports.get p with receiver := .hunting }))
      ∧ (∀ taken, (s.spu.ports.get p).receiver = .receiving taken → fe = false →
        taken ≠ [] ∨ (4 ≤ b.toNat ∧ b.toNat ≤ 52) → (taken ++ [b]).length = fieldAt (taken ++ [b]) 0 + 2 →
        exec (.stationPortByte p b fe) s = .next (s.setPort p { s.spu.ports.get p with
          receiver := .hunting, complete := (s.spu.ports.get p).complete ++ [taken ++ [b]] }))
      ∧ (∀ taken, (s.spu.ports.get p).receiver = .receiving taken → fe = false →
        taken ≠ [] ∨ (4 ≤ b.toNat ∧ b.toNat ≤ 52) → (taken ++ [b]).length ≠ fieldAt (taken ++ [b]) 0 + 2 →
        exec (.stationPortByte p b fe) s = .next (s.setPort p { s.spu.ports.get p with receiver := .receiving (taken ++ [b]) }))
      ∧ exec (.frameTimerExpiry p) s = .next (s.setPort p { s.spu.ports.get p with receiver := .hunting })

/-- R149, R150, R152: the bytes of a frame the part forms for a port, sent to a Hunting receiver of that port, make
one complete frame, which waits to be tested (log 41) and passes both tests, and its tag, code and body read back as
they were given. -/
def Obligations.FramesRoundTrip : Prop :=
  ∀ (r : PortRec) (p : Port) (kind : ReplyKind) (tag code : Byte) (body : List Byte),
    r.receiver = .hunting → body.length ≤ 48 →
    ∃ frame, (ReplyFrame.wire ⟨kind, p, tag, code, body⟩).foldl (fun x b => x.byte b false) r
        = { r with complete := r.complete ++ [frame] }
      ∧ frameValid p frame = true ∧ requestOf frame = ⟨tag, code, body⟩

/-- R150, R151: a complete frame whose check or role is wrong is discarded with no other effect. A valid one restarts
the silence timer and makes the link Live; its request joins a queue with room, and meets a full queue with BUSY,
unless two BUSY replies already wait. The frame tested is the oldest of its port that waits to be tested (log 41). -/
def Obligations.CompleteFrameTested : Prop :=
  ∀ (s : State) (p : Port) (f : List Byte) (rest : List (List Byte)), s.slu.heldInReset = false →
    (s.spu.ports.get p).complete = f :: rest →
    let r := s.spu.ports.get p
    let valid := f.drop (f.length - 2) = checkField (f.take (f.length - 2)) ∧ fieldAt f 1 = portNumber p
    let heard : PortRec := { r with
      complete := rest, link := .live, silence := .running s.cs.active.general.silenceTimeout }
    (¬ valid → exec (.completeFrame p) s = .next (s.setPort p { r with complete := rest }))
      ∧ (valid → r.queue.length < 2 → exec (.completeFrame p) s
        = .next (s.setPort p { heard with queue := r.queue ++ [requestOf f] }))
      ∧ (valid → 2 ≤ r.queue.length → busyReplies r.output < 2 → exec (.completeFrame p) s
        = .next (s.setPort p { heard with output := r.output ++ [⟨.busy, p, byteAt f 2, 1, []⟩] }))
      ∧ (valid → 2 ≤ r.queue.length → 2 ≤ busyReplies r.output → exec (.completeFrame p) s = .next (s.setPort p heard))

/-- R152: a reply leaves its output when its last byte has been sent; the reply to an accepted RESET makes the
commanded reset due (R148). R157: a port whose silence timer expires goes Silent and its timer stops; a Roof or Pitch
port raises LINK SILENCE for its role's movers and the Venue port VENUE SILENCE; LINK SILENT goes to the two other
stations. A port whose timer does not run has no expiry. -/
def Obligations.RepliesLeaveAndPortsFallSilent : Prop :=
  (∀ (s : State) (p : Port) (f : ReplyFrame) (rest : List ReplyFrame), s.slu.heldInReset = false →
      (s.spu.ports.get p).output = f :: rest →
      (f.kind ≠ .resetAccepted →
          exec (.replyFrameSent p) s = .next (s.setPort p { s.spu.ports.get p with output := rest }))
        ∧ (f.kind = .resetAccepted →
          exec (.replyFrameSent p) s = .next ((s.withSpu { s.spu with handler := .resetDue }).setPort p
            { s.spu.ports.get p with output := rest })))
    ∧ (∀ (s : State) (p : Port), s.slu.heldInReset = false →
        ((s.spu.ports.get p).silence.isRunning = false → exec (.silenceTimerExpiry p) s = .next s)
          ∧ ((s.spu.ports.get p).silence.isRunning = true → exec (.silenceTimerExpiry p) s = .next
            { s with
              spu := { s.spu with ports := s.spu.ports.set p { s.spu.ports.get p with link := .silent, silence := .stopped } }
              hand := { s.hand with
                causes := s.hand.causes ++ [⟨if p = .venue then .venueSilence else .linkSilence,
                  if p = .venue then .all else .role p, .nothing⟩]
                postings := s.hand.postings ++ [⟨.spu, allPorts.filter (fun q => q ≠ p),
                  ⟨.linkSilent, 5, .station p, portNumber p⟩⟩] } }))

/-- R153: a head is held in Arming where its code is MOVE, RESERVE, BRACE or BRACE CLEAR; it is grantable where it is
not held, its port has room for the reply and, for the Venue port, no storage write is in flight. The free handler is
granted exactly to the first port, in the cyclic order after the last granted one, whose head is grantable; with none
grantable, or the handler not free, there is no grant. R154: the handler's checks, in order; the first that fails gives
the reply, and nothing changes but the port's queue and output and the arbiter's last port. -/
def Obligations.HandlerGrantsAndChecks : Prop :=
  (∀ s : State,
      let held : Request → Prop := fun r =>
        s.dsu.state = .arming ∧ (r.code = 0x12#8 ∨ r.code = 0x10#8 ∨ r.code = 0x20#8 ∨ r.code = 0x21#8)
      let grantable : Port → Request → Prop := fun p r =>
        (s.spu.ports.get p).queue.head? = some r ∧ ¬ held r
          ∧ ((s.spu.ports.get p).output.filter fun f => f.kind != .busy).length < 2 ∧ (p = .venue → s.cs.commit = none)
      let order : List Port :=
        match s.spu.lastGranted with
        | .roof => [.pitch, .venue, .roof]
        | .pitch => [.venue, .roof, .pitch]
        | .venue => [.roof, .pitch, .venue]
      (∀ p r before after, s.spu.handler = .free → order = before ++ p :: after → grantable p r →
          (∀ q ∈ before, ∀ x, ¬ grantable q x) → s.grant = some (p, r))
        ∧ (∀ p r, s.grant = some (p, r) → s.spu.handler = .free ∧ grantable p r
          ∧ ∃ before after, order = before ++ p :: after ∧ ∀ q ∈ before, ∀ x, ¬ grantable q x)
        ∧ (s.grant = none ↔ s.spu.handler ≠ .free ∨ ∀ p r, ¬ grantable p r))
    ∧ (∀ (s : State) (p : Port) (r : Request), s.slu.heldInReset = false → s.grant = some (p, r) →
        (codeOfByte r.code = none → exec .unknownRequestCode s = .next (s.answered p r ⟨.badRequest, false, []⟩))
          ∧ ∀ c, codeOfByte r.code = some c →
            (s.dsu.state = .locked → servedInLocked c = false →
                exec (requestRow r) s = .next (s.answered p r ⟨.locked, false, []⟩))
              ∧ ((s.dsu.state = .locked → servedInLocked c = true) → roleMaySend c p = false →
                exec (requestRow r) s = .next (s.answered p r ⟨.notPermitted, false, []⟩))
              ∧ ((s.dsu.state = .locked → servedInLocked c = true) → roleMaySend c p = true →
                bodyLengthOk c r.body.length = false →
                exec (requestRow r) s = .next (s.answered p r ⟨.badRequest, false, []⟩))
              ∧ ((s.dsu.state = .locked → servedInLocked c = true) → roleMaySend c p = true →
                bodyLengthOk c r.body.length = true → namesMover c = true → wrongOwner p r.body = true →
                exec (requestRow r) s = .next (s.answered p r ⟨.notOwner, false, []⟩)))

/-- R158: MASK sets the requesting port's mask, in every device state, and changes nothing else. -/
def Obligations.MaskSetsPortMask : Prop :=
  ∀ (s : State) p r v, s.Asked p r .mask → r.body = [v] →
    (v.toNat ≤ 6 → exec .mask s = .next (((s.takeHead p).setPort p { (s.takeHead p).spu.ports.get p with mask := v.toNat }).reply
        p r.tag ⟨.done, false, [v]⟩))
      ∧ (6 < v.toNat → exec .mask s = .next (((s.takeHead p).setPort p { (s.takeHead p).spu.ports.get p with mask := 6 }).reply
        p r.tag ⟨.done, true, [6]⟩))


/-! ## Status replies (R159, R160) -/

/-- R159: STATUS returns 48 bytes, each field as its block holds it when the request is served; a detail mover above 5
gets BAD_REQUEST. -/
def Obligations.StatusIsOnePicture : Prop :=
  ∀ (s : State) p r d, s.Served p r .status → r.body = [d] →
    (5 < d.toNat → exec .status s = .next (s.answered p r ⟨.badRequest, false, []⟩))
      ∧ ∀ m, (d.toNat = 0 ∧ m = (if p = .pitch then .tray else .p1)) ∨ d.toNat = moverNumber m →
        ∃ body, exec .status s = .next (s.answered p r ⟨.done, false, body⟩) ∧ body.length = 48
          ∧ fieldBytes body 0 1 = byteField (deviceStateNumber s.dsu.state)
          ∧ ((byteAt body 1).getLsbD 0 = s.dsu.token ∧ (byteAt body 1).getLsbD 1 = s.dsu.permits
            ∧ (byteAt body 1).getLsbD 2 = s.brc.demand ∧ (byteAt body 1).getLsbD 3 = (s.nu.get p).overflow
            ∧ (byteAt body 1).getLsbD 4 = s.dsu.flags.power ∧ (byteAt body 1).getLsbD 5 = s.dsu.flags.line
            ∧ (byteAt body 1).getLsbD 6 = s.dsu.flags.command ∧ (byteAt body 1).getLsbD 7 = s.dsu.flags.fromLocked)
          ∧ fieldBytes body 2 4 = bytesOf 4 (if s.cs.valid then s.cs.stored.check.toNat else 0)
          ∧ fieldBytes body 6 2 = bytesOf 2 s.wm.mean ∧ fieldBytes body 8 2 = bytesOf 2 s.wm.gust
          ∧ fieldBytes body 10 1 = byteField (windStateNumber s.wm.state)
          ∧ fieldBytes body 11 1 = byteField (braceStateNumber (s.brc.braces.get .east).state)
          ∧ fieldBytes body 12 1 = byteField (braceStateNumber (s.brc.braces.get .west).state)
          ∧ fieldBytes body 13 1 = byteField (linkStateNumber (s.spu.ports.get .roof).link)
          ∧ fieldBytes body 14 1 = byteField (linkStateNumber (s.spu.ports.get .pitch).link)
          ∧ fieldBytes body 15 1 = byteField (linkStateNumber (s.spu.ports.get .venue).link)
          ∧ fieldBytes body 16 1 = byteField (s.nu.get p).queue.length
          ∧ (∀ x, fieldBytes body (16 + moverNumber x) 1 = byteField (moverStateNumber (s.msu.get x).state))
          ∧ fieldBytes body 22 1 = byteField (moverNumber m)
          ∧ fieldBytes body 23 1 = bytesOf 1 (directionValue (s.asu.authority.get m).direction)
          ∧ fieldBytes body 24 3 = bytesOf 3 ((s.asu.authority.get m).authorityEnd.getD 0)
          ∧ fieldBytes body 27 1 = bytesOf 1 ((s.asu.authority.get m).untrimmed / 2)
          ∧ (∀ i a, (axesOf m)[i]? = some a →
            fieldBytes body (28 + 5 * i) 5 = bytesOf 3 ((s.pos.axes.get a).position.getD 0)
              ++ byteField (validityNumber (s.pos.axes.get a).validity) ++ bytesOf 1 ((s.asu.ceilings.get a).ceiling / 2))
          ∧ ∀ i, (axesOf m).length ≤ i → i < 4 → fieldBytes body (28 + 5 * i) 5 = [0, 0, 0, 255, 0]

/-- R160: MOVER STATUS: its refusals, the stop page, the authority page and the axis pages, 2 to 5. A reply advances the
counter of free values (log 5). The time left on a running trip timer is the free value at that counter, from 0 to the
time the timer was started with (log 5), and 0 when the timer is stopped or has expired (R93). -/
def Obligations.MoverStatusPages : Prop :=
  (∀ (s : State) p r d g, s.Served p r .status → r.body = [d, g] →
      ((∀ m, d.toNat ≠ moverNumber m) → exec .moverStatus s = .next (s.answered p r ⟨.badRequest, false, []⟩))
        ∧ ∀ m, d.toNat = moverNumber m →
          ((axesOf m).length + 2 ≤ g.toNat → exec .moverStatus s = .next (s.answered p r ⟨.badRequest, false, []⟩))
            ∧ ∀ i a, g.toNat = i + 2 → (axesOf m)[i]? = some a →
              ∃ body, exec .moverStatus s
                  = .next (((s.takeHead p).withFreeCount (s.freeCount + 1)).reply p r.tag ⟨.done, false, body⟩)
                ∧ body.length = 28 ∧ fieldBytes body 0 2 = [d, g] ∧ fieldBytes body 2 1 = byteField (axisNumber a)
                ∧ fieldBytes body 3 1 = byteField (validityNumber (s.pos.axes.get a).validity)
                ∧ fieldBytes body 4 4 = bytesOf 4 ((s.pos.axes.get a).position.getD 0)
                ∧ fieldBytes body 8 2 = bytesOf 2 (s.pos.axes.get a).speed
                ∧ fieldBytes body 10 1 = byteField (s.pos.axes.get a).standstillCount
                ∧ fieldBytes body 11 1 = byteField (s.pos.axes.get a).window.length
                ∧ fieldBytes body 12 4 = bytesOf 4 ((s.pos.primary.get a).lastPosition.getD 0)
                ∧ fieldBytes body 16 1 = byteField (goodStatusNumber (s.pos.primary.get a).lastStatus)
                ∧ fieldBytes body 17 4 = bytesOf 4 ((s.pos.check.get a).lastPosition.getD 0)
                ∧ fieldBytes body 21 1 = byteField (goodStatusNumber (s.pos.check.get a).lastStatus)
                ∧ fieldBytes body 22 1 = byteField (s.pos.axes.get a).discrepancies
                ∧ fieldBytes body 23 1 = byteField (s.pos.axes.get a).recovery
                ∧ fieldBytes body 24 2 = bytesOf 2 (s.asu.ceilings.get a).ceiling
                ∧ fieldBytes body 26 1 = [if (s.asu.ceilings.get a).overMark then 1 else 0]
                ∧ fieldBytes body 27 1 = byteField (s.asu.ceilings.get a).overCount)
    ∧ (∀ (s : State) p r d g m, s.Served p r .status → r.body = [d, g] → d.toNat = moverNumber m →
        let k := s.msu.get m
        let q := s.pos.movers.get m
        let a := s.asu.authority.get m
        let w := s.asu.skew.get m
        let left := tripTimeLeft s.freeCount k.tripTimer
        (∀ x, k.tripTimer = .running x → left ≤ x ∧ (0 ≤ x → 0 ≤ left)) ∧ (k.tripTimer.isRunning = false → left = 0)
          ∧ (g.toNat = 0 → ∃ body, exec .moverStatus s
              = .next (((s.takeHead p).withFreeCount (s.freeCount + 1)).reply p r.tag ⟨.done, false, body⟩)
            ∧ body.length = 30 ∧ fieldBytes body 0 2 = [d, g] ∧ fieldBytes body 2 1 = byteField (moverStateNumber k.state)
            ∧ fieldBytes body 3 1 = bytesOf 1 (directionValue a.direction)
            ∧ fieldBytes body 4 1 = byteField ((k.stopCause.map causeNumber).getD 0)
            ∧ fieldBytes body 5 1 = byteField (stopEndNumber k.stopEnd) ∧ fieldBytes body 6 1 = byteField k.haltCauses.length
            ∧ (k.haltCauses.length ≤ 11 → fieldBytes body 7 11
              = k.haltCauses.flatMap (fun c => byteField (causeNumber c)) ++ List.replicate (11 - k.haltCauses.length) 0#8)
            ∧ fieldBytes body 18 4 = bytesOf 4 (k.parkedPosition.getD 0)
            ∧ fieldBytes body 22 1 = [if k.uncommandedOpen then 1 else 0] ∧ fieldBytes body 23 2 = bytesOf 2 left
            ∧ fieldBytes body 25 1 = [if k.relayClosed then 1 else 0] ∧ fieldBytes body 26 1 = [if k.readbackClosed then 1 else 0]
            ∧ fieldBytes body 27 1 = [if q.standstill then 1 else 0] ∧ fieldBytes body 28 2 = bytesOf 2 q.speed)
          ∧ (g.toNat = 1 → ∃ body, exec .moverStatus s
              = .next (((s.takeHead p).withFreeCount (s.freeCount + 1)).reply p r.tag ⟨.done, false, body⟩)
            ∧ body.length = 45 ∧ fieldBytes body 0 2 = [d, g] ∧ fieldBytes body 2 4 = bytesOf 4 (q.lead.getD 0)
            ∧ fieldBytes body 6 4 = bytesOf 4 (q.furthest.getD 0)
            ∧ fieldBytes body 10 4 = bytesOf 4 ((q.body.map (·.low)).getD 0)
            ∧ fieldBytes body 14 4 = bytesOf 4 ((q.body.map (·.high)).getD 0)
            ∧ fieldBytes body 18 4 = bytesOf 4 (a.authorityEnd.getD 0) ∧ fieldBytes body 22 4 = bytesOf 4 (a.stopTarget.getD 0)
            ∧ fieldBytes body 26 1 = byteField ((a.source.map portNumber).getD 0) ∧ fieldBytes body 27 2 = bytesOf 2 a.targetCap
            ∧ fieldBytes body 29 2 = bytesOf 2 a.capInUse ∧ fieldBytes body 31 1 = [if a.descent.isSome then 1 else 0]
            ∧ fieldBytes body 32 4 = bytesOf 4 ((a.descent.map (·.point)).getD 0) ∧ fieldBytes body 36 2 = bytesOf 2 a.untrimmed
            ∧ fieldBytes body 38 1 = [if a.overspeedOpen then 1 else 0] ∧ fieldBytes body 39 4 = bytesOf 4 (w.lastSpread.getD 0)
            ∧ fieldBytes body 43 1 = [if w.alarmOpen then 1 else 0] ∧ fieldBytes body 44 1 = [if w.tripOpen then 1 else 0]))

/-! ## Notices (R162 to R165) -/

/-- R163, R164: a posting reaches each station of its route whose mask its severity is above, and no other; it joins a
queue of fewer than four; at a full queue only severity 7 displaces a notice, the oldest of the least severe below 7,
and any delivery there sets the overflow flag. R165: NOTICE answers NONE on an empty queue; else it removes and
returns the oldest of the most severe notices, and the overflow flag and the attention line go with the last one. The
posting taken is the oldest of its block in flight (log 22). -/
def Obligations.NoticesQueuedAndFetched : Prop :=
  (∀ (s : State) src (x : Posting) rest, s.slu.heldInReset = false →
      Taken (fun y : Posting => y.source == src) 0 s.hand.postings x rest → x.route.Nodup →
      ∃ t, exec (.noticePosting src) s = .next t ∧ t = { s with hand := { s.hand with postings := rest }, nu := t.nu }
        ∧ ∀ p, (¬ (p ∈ x.route ∧ (s.spu.ports.get p).mask < x.notice.severity) → t.nu.get p = s.nu.get p)
          ∧ (p ∈ x.route → (s.spu.ports.get p).mask < x.notice.severity →
            let q := s.nu.get p
            (q.queue.length < 4 → t.nu.get p = ⟨q.queue ++ [x.notice], q.overflow, true⟩)
              ∧ (4 ≤ q.queue.length → x.notice.severity ≠ 7 → t.nu.get p = ⟨q.queue, true, true⟩)
              ∧ (4 ≤ q.queue.length → x.notice.severity = 7 → (∀ y ∈ q.queue, 7 ≤ y.severity) →
                t.nu.get p = ⟨q.queue, true, true⟩)
              ∧ ∀ before y after, 4 ≤ q.queue.length → x.notice.severity = 7 → q.queue = before ++ y :: after →
                y.severity < 7 → (∀ z ∈ q.queue, y.severity ≤ z.severity) → (∀ z ∈ before, y.severity < z.severity) →
                t.nu.get p = ⟨before ++ after ++ [x.notice], true, true⟩))
    ∧ (∀ (s : State) p r, s.Served p r .notice →
        ((s.nu.get p).queue = [] → exec .notice s = .next (s.answered p r ⟨.none, false, []⟩))
          ∧ ∀ before n after, (s.nu.get p).queue = before ++ n :: after → (∀ z ∈ (s.nu.get p).queue, z.severity ≤ n.severity) →
            (∀ z ∈ before, z.severity < n.severity) →
            let left := before ++ after
            let flag := (s.nu.get p).overflow && decide (left ≠ [])
            ∃ body, exec .notice s = .next (((s.takeHead p).withNu (s.nu.set p ⟨left, flag, decide (left ≠ [])⟩)).reply p r.tag
                ⟨.done, false, body⟩)
              ∧ body.length = 10 ∧ fieldBytes body 0 1 = byteField (noticeKindNumber n.kind)
              ∧ fieldBytes body 1 1 = byteField n.severity
              ∧ (n.subject = .absent → fieldBytes body 2 2 = [0, 0])
              ∧ (∀ m, n.subject = .mover m → fieldBytes body 2 2 = 1 :: byteField (moverNumber m))
              ∧ (∀ k, n.subject = .zone .runway k → fieldBytes body 2 2 = 2 :: byteField k)
              ∧ (∀ k, n.subject = .zone .tray k → fieldBytes body 2 2 = 3 :: byteField k)
              ∧ (∀ b, n.subject = .brace b → fieldBytes body 2 2 = 4 :: byteField (braceNumber b))
              ∧ (∀ q, n.subject = .station q → fieldBytes body 2 2 = 5 :: byteField (portNumber q))
              ∧ fieldBytes body 4 4 = bytesOf 4 n.value ∧ fieldBytes body 8 1 = byteField left.length
              ∧ fieldBytes body 9 1 = [if flag then 1 else 0])

/-! ## The fault record (R167, R168) -/

/-- R167: a hand-over of a cause that is not recorded leaves the record and the summary; the first recorded one is
captured and opens the summary; a later one leaves the record and joins the summary once, or marks its entry repeated.
R168: FAULT READ returns the record and the summary and changes nothing else; FAULT CLEAR empties both and clears the
reset cause flags. Which hand-over is taken is the command's operand (log 1, log 26); that the wind and brace fields
are read at the capture, and the FF of an empty record's mover state, are the model's readings (log 29). -/
def Obligations.FaultRecordKeepsTheFirst : Prop :=
  (∀ (s : State) n (f : FaultMessage) rest, s.slu.heldInReset = false → Taken (fun _ => true) n s.hand.faults f rest →
      let recorded : List Cause := [.safetyLoop, .driveTrip, .overspeed, .overrun, .rollback, .uncommandedMotion, .skewTrip,
        .readerLoss, .readerDiscrepancy, .braceLost, .linkSilence, .venueSilence, .braceStalled, .brakeFault, .relayStuck]
      let u := { s with hand := { s.hand with faults := rest } }
      (f.cause ∉ recorded → exec (.causeHandover n) s = .next u)
        ∧ (f.cause ∈ recorded → s.fr.record = none → exec (.causeHandover n) s = .next { u with fr :=
            ⟨some { cause := f.cause, deviceState := f.deviceState.getD s.dsu.state, mover := f.mover
                    moverState := f.mover.map fun m => f.moverState.getD (s.msu.get m).state
                    data := f.data.toRecordedData, windMean := s.wm.mean, gust := s.wm.gust
                    east := (s.brc.braces.get .east).state, west := (s.brc.braces.get .west).state },
              [⟨f.cause, false⟩]⟩ })
        ∧ (f.cause ∈ recorded → s.fr.record ≠ none → (∀ e ∈ s.fr.summary, e.cause ≠ f.cause) →
          exec (.causeHandover n) s = .next { u with fr := ⟨s.fr.record, s.fr.summary ++ [⟨f.cause, false⟩]⟩ })
        ∧ (f.cause ∈ recorded → s.fr.record ≠ none → (∃ e ∈ s.fr.summary, e.cause = f.cause) →
          exec (.causeHandover n) s = .next { u with fr := ⟨s.fr.record,
            s.fr.summary.map fun e => if e.cause = f.cause then ⟨e.cause, true⟩ else e⟩ }))
    ∧ ((∀ (s : State) p r, s.Served p r .faultRead →
        ∃ body, exec .faultRead s = .next (s.answered p r ⟨.done, false, body⟩) ∧ body.length = 32 + s.fr.summary.length
          ∧ fieldBytes body 31 1 = byteField s.fr.summary.length
          ∧ (∀ i e, s.fr.summary[i]? = some e →
            fieldBytes body (32 + i) 1 = byteField (causeNumber e.cause + if e.repeated then 128 else 0))
          ∧ (s.fr.record = none → fieldBytes body 0 31 = List.replicate 4 0 ++ [255] ++ List.replicate 26 0)
          ∧ ∀ c, s.fr.record = some c →
            fieldBytes body 0 4 = 1 :: byteField (causeNumber c.cause) ++ byteField (deviceStateNumber c.deviceState)
                ++ byteField ((c.mover.map moverNumber).getD 0)
              ∧ fieldBytes body 4 1 = byteField ((c.moverState.map moverStateNumber).getD 255)
              ∧ fieldBytes body 5 1 = byteField ((c.data.axis.map axisNumber).getD 0)
              ∧ fieldBytes body 6 1 = byteField ((c.data.brace.map braceNumber).getD 0)
              ∧ fieldBytes body 7 1 = byteField ((c.data.source.map portNumber).getD 0)
              ∧ ((byteAt body 8).getLsbD 0 = c.data.lead.isSome ∧ (byteAt body 8).getLsbD 1 = c.data.primary.isSome
                ∧ (byteAt body 8).getLsbD 2 = c.data.check.isSome ∧ (byteAt body 8).getLsbD 3 = c.data.speed.isSome
                ∧ (byteAt body 8).getLsbD 4 = c.data.axisCeiling.isSome ∧ (byteAt body 8).getLsbD 5 = c.data.authorityEnd.isSome)
              ∧ fieldBytes body 9 3 = bytesOf 3 (c.data.lead.getD 0) ∧ fieldBytes body 12 3 = bytesOf 3 (c.data.primary.getD 0)
              ∧ fieldBytes body 15 3 = bytesOf 3 (c.data.check.getD 0) ∧ fieldBytes body 18 2 = bytesOf 2 (c.data.speed.getD 0)
              ∧ fieldBytes body 20 2 = bytesOf 2 (c.data.axisCeiling.getD 0)
              ∧ fieldBytes body 22 3 = bytesOf 3 (c.data.authorityEnd.getD 0)
              ∧ fieldBytes body 25 2 = bytesOf 2 c.windMean ∧ fieldBytes body 27 2 = bytesOf 2 c.gust
              ∧ fieldBytes body 29 2 = byteField (braceStateNumber c.east) ++ byteField (braceStateNumber c.west))
        ∧ ∀ (s : State) p r, s.Served p r .faultClear →
          exec .faultClear s = .next ({ s.takeHead p with
            fr := ⟨none, []⟩, dsu := { s.dsu with flags := ⟨false, false, false, false⟩ } }.reply p r.tag ⟨.done, false, []⟩))

/-! ## The zone table (chapter 3) -/

/-- R40 to R43: a RESERVE in Armed that meets none of the six conditions makes the mover the travel holder of every
zone of the settled range, out of its resting and waiting sets, as one Zone Table event. The body is the one ZT last
took (log 13). -/
def Obligations.ReserveGrantsTheRange : Prop :=
  ∀ (s : State) p r m, s.Served p r .reserve → s.dsu.state = .armed → fieldAt r.body 0 = moverNumber m →
    let zs := s.zt.zones (pathOf m)
    let x := fieldAt r.body 1
    let y := fieldAt r.body 2
    let rg : ZoneRange := ⟨min (min x y) (zs.length - 1), min (max x y) (zs.length - 1), decide (zs.length - 1 < max x y)⟩
    NoneIn zs rg (fun z => (z.holder ≠ none ∧ z.holder ≠ some m) ∨ (z.clearingFor ≠ none ∧ z.clearingFor ≠ some m)) →
    NoneIn zs rg (fun z => z.barrier ≠ .opened) →
    NoneIn zs rg (fun z => (z.need = .engaged ∧ ¬ (s.braceState .east = .engaged ∧ s.braceState .west = .engaged))
      ∨ (z.need = .withdrawn ∧ ¬ (s.braceState .east = .withdrawn ∧ s.braceState .west = .withdrawn))) →
    NoneIn zs rg (fun z => z.need = .withdrawn ∧ s.brc.demand = true) →
    (∃ k z, zs[k]? = some z ∧ rg.first ≤ k + 1 ∧ k ≤ rg.last + 1
      ∧ (z.holder = some m ∨ z.clearingFor = some m ∨ bodyOverlaps (s.zt.body.get m) z = true)) →
    NoneIn zs rg (fun z => isPanel m = true ∧ z.need = .engaged ∧ (s.wm.state = .limit ∨ s.wm.state = .unknown)) →
    exec .reserve s = .next (((s.takeHead p).commitZones (s.zonesMapped m rg fun z =>
      { z with
        holder := some m
        clearingFor := if z.clearingFor = some m then none else z.clearingFor
        resting := z.resting.filter fun q => q != m
        waiting := z.waiting.filter fun q => q != m })).reply p r.tag
      ⟨.done, rg.clamped, byteField (moverNumber m) ++ byteField rg.first ++ byteField rg.last⟩)

/-- R39, R40, R43: the refusals of RESERVE. The first condition that holds for some zone gives the outcome and the
lowest-numbered such zone; HELD_BY_OTHER alone enters the mover in the waiting sets of the zones others have. The zone
NOT_ADJACENT names is the model's choice (log 29), and the body it tests is the one ZT last took (log 13). -/
def Obligations.ReserveRefusedInOrder : Prop :=
  ∀ (s : State) p r, s.Served p r .reserve →
    (s.dsu.state ≠ .armed → exec .reserve s = .next (s.answered p r ⟨.notArmed, false, []⟩))
      ∧ (s.dsu.state = .armed → (∀ m, fieldAt r.body 0 ≠ moverNumber m) →
        exec .reserve s = .next (s.answered p r ⟨.badRequest, false, []⟩))
      ∧ ∀ m, s.dsu.state = .armed → fieldAt r.body 0 = moverNumber m →
        let zs := s.zt.zones (pathOf m)
        let rg := s.rangeOf m r.body
        let byOther : ZoneRec → Prop := fun z =>
          (z.holder ≠ none ∧ z.holder ≠ some m) ∨ (z.clearingFor ≠ none ∧ z.clearingFor ≠ some m)
        let unmet : ZoneRec → Prop := fun z =>
          (z.need = .engaged ∧ ¬ (s.braceState .east = .engaged ∧ s.braceState .west = .engaged))
            ∨ (z.need = .withdrawn ∧ ¬ (s.braceState .east = .withdrawn ∧ s.braceState .west = .withdrawn))
        let demanded : ZoneRec → Prop := fun z => z.need = .withdrawn ∧ s.brc.demand = true
        let near := ∃ k z, zs[k]? = some z ∧ rg.first ≤ k + 1 ∧ k ≤ rg.last + 1
          ∧ (z.holder = some m ∨ z.clearingFor = some m ∨ bodyOverlaps (s.zt.body.get m) z = true)
        let windy : ZoneRec → Prop := fun z =>
          isPanel m = true ∧ z.need = .engaged ∧ (s.wm.state = .limit ∨ s.wm.state = .unknown)
        (∀ k, LowestIn zs rg byOther k → exec .reserve s = .next (((s.takeHead p).commitZones (s.zonesMapped m rg fun z =>
            if (z.holder ≠ none ∧ z.holder ≠ some m) ∨ (z.clearingFor ≠ none ∧ z.clearingFor ≠ some m) then
              { z with waiting := addMover m z.waiting }
            else z)).reply p r.tag ⟨.heldByOther, false, byteField k⟩))
          ∧ (NoneIn zs rg byOther → (∀ k, LowestIn zs rg (fun z => z.barrier ≠ .opened) k →
              exec .reserve s = .next (s.answered p r ⟨.barred, false, byteField k⟩))
            ∧ (NoneIn zs rg (fun z => z.barrier ≠ .opened) → (∀ k, LowestIn zs rg unmet k →
                exec .reserve s = .next (s.answered p r ⟨.braceState, false, byteField k⟩))
              ∧ (NoneIn zs rg unmet → (∀ k, LowestIn zs rg demanded k →
                  exec .reserve s = .next (s.answered p r ⟨.braceDemand, false, byteField k⟩))
                ∧ (NoneIn zs rg demanded → (¬ near →
                    exec .reserve s = .next (s.answered p r ⟨.notAdjacent, false, byteField rg.first⟩))
                  ∧ (near → ∀ k, LowestIn zs rg windy k →
                    exec .reserve s = .next (s.answered p r ⟨.wind, false, byteField k⟩))))))

/-- R47: a mover number outside 1 to 5 gets BAD_REQUEST. R47, R48: a RELEASE by a mover at rest takes the hold off
every held zone of the range at once; the mover returns to the resting set where its body overlaps the zone, and a
Pending barrier closes. R47, R49, R50: a RELEASE by a moving mover is refused with OCCUPIED where its body overlaps a
zone of the range; else each held zone of the range loses its hold, and one ahead that the stopping envelope reaches
is Clearing. The authority end of a Permitted or Stopping mover falls back to the new held-run bound or the stopping
point, and is never advanced; a Tripped mover's end is left alone. The body is the one ZT last took (log 13). -/
def Obligations.ReleaseGivesUpHeldZones : Prop :=
  (∀ (s : State) p r, s.Served p r .release → (∀ m, fieldAt r.body 0 ≠ moverNumber m) →
      exec .release s = .next (s.answered p r ⟨.badRequest, false, []⟩))
    ∧ (∀ (s : State) p r m, s.Served p r .release → fieldAt r.body 0 = moverNumber m →
      s.moverState m = .parked ∨ s.moverState m = .halted →
      let rg := s.rangeOf m r.body
      exec .release s = .next (((s.takeHead p).commitZones (s.zonesMapped m rg fun z =>
        if z.holder = some m then
          { z with
            holder := none
            resting := if bodyOverlaps (s.zt.body.get m) z then addMover m z.resting else z.resting
            barrier := if z.barrier = .pending ∧ z.clearingFor = none then .closed else z.barrier }
        else z)).reply p r.tag
        ⟨.done, rg.clamped,
          byteField (countIn (s.zt.zones (pathOf m)) rg fun z => z.holder == some m) ++ [0, 0, 0, 0, 0]⟩))
    ∧ (∀ (s : State) p r m, s.Served p r .release → fieldAt r.body 0 = moverNumber m →
        s.moverState m = .permitted ∨ s.moverState m = .stopping ∨ s.moverState m = .tripped →
        let zs := s.zt.zones (pathOf m)
        let rg := s.rangeOf m r.body
        (∀ k, LowestIn zs rg (fun z => bodyOverlaps (s.zt.body.get m) z = true) k →
            exec .release s = .next (s.answered p r ⟨.occupied, false, byteField k⟩))
          ∧ ∀ b l, s.zt.body.get m = some b → (s.pos.movers.get m).lead = some l →
            NoneIn zs rg (fun z => b.overlaps z = true) →
            let d := s.directionOf m
            let a := s.params m
            let v := (s.pos.movers.get m).speed
            let stop := l + d.sign * (ceilDiv (v * v) (2 * a.deceleration) + a.stopMargin)
            let reached : ZoneRec → Bool := fun z => zoneAhead d b z && envelopeReaches d a.bodyMargin stop z
            let u := (s.takeHead p).commitZones (s.zonesMapped m rg fun z =>
              if z.holder = some m then
                { z with
                  holder := none
                  clearingFor := if reached z then some m else z.clearingFor
                  barrier := if z.barrier = .pending ∧ z.clearingFor = none ∧ reached z = false then .closed else z.barrier }
              else z)
            let counts := byteField (countIn zs rg fun z => z.holder == some m)
              ++ byteField (countIn zs rg fun z => z.holder == some m && reached z)
            (s.moverState m = .tripped → exec .release s = .next (u.reply p r.tag ⟨.done, rg.clamped, counts ++ [0, 0, 0, 0]⟩))
              ∧ ∀ e, s.moverState m ≠ .tripped → (s.authorityOf m).direction = some d → (s.authorityOf m).authorityEnd = some e →
                let bound := runBoundary d l (heldRun (u.zt.zones (pathOf m)) m d l) - d.sign * a.bodyMargin
                let e' := lessAdvancedOf d (moreAdvancedOf d bound stop) e
                exec .release s = .next ((u.setAuthority m { s.authorityOf m with authorityEnd := some e' }).reply p r.tag
                  ⟨.done, rg.clamped, counts ++ bytesOf 4 e'⟩))

/-- R54, R55: BARRIER closes or opens every zone of the range: a close leaves a held or Clearing zone Pending and any
other Closed, an open leaves every zone Open. The refusals come first. -/
def Obligations.BarrierClosesAndOpens : Prop :=
  ∀ (s : State) p r, s.Served p r .barrier →
    (s.dsu.state ≠ .armed → exec (requestRow r) s = .next (s.answered p r ⟨.notArmed, false, []⟩))
      ∧ (s.dsu.state = .armed → (fieldAt r.body 0 ≠ 1 ∧ fieldAt r.body 0 ≠ 2) ∨ 1 < fieldAt r.body 3 →
        exec (requestRow r) s = .next (s.answered p r ⟨.badRequest, false, []⟩))
      ∧ ∀ q : Path, s.dsu.state = .armed → fieldAt r.body 0 = (if q = .runway then 1 else 2) →
        let zs := s.zt.zones q
        let x := fieldAt r.body 1
        let y := fieldAt r.body 2
        let rg : ZoneRange :=
          ⟨min (min x y) (zs.length - 1), min (max x y) (zs.length - 1), decide (zs.length - 1 < max x y)⟩
        (fieldAt r.body 3 = 1 →
          let zs' := mapRange zs rg fun z =>
            if z.barrier = .opened then
              { z with barrier := if z.holder = none ∧ z.clearingFor = none then .closed else .pending }
            else z
          exec .barrierClose s = .next (((s.takeHead p).commitZones (s.zt.setZones q zs')).reply p r.tag ⟨.done, rg.clamped,
            byteField (countIn zs' rg fun z => z.barrier == .closed)
              ++ byteField (countIn zs' rg fun z => z.barrier == .pending)⟩))
          ∧ (fieldAt r.body 3 = 0 →
            exec .barrierOpen s = .next (((s.takeHead p).commitZones (s.zt.setZones q (mapRange zs rg fun z =>
              { z with barrier := .opened }))).reply p r.tag ⟨.done, rg.clamped, [0, 0]⟩))

/-- R37, R44, R51: a position update of a mover at rest keeps its resting sets; one of a moving mover frees the zones
its body has left behind and re-examines those Clearing for it. An update without a body overlaps no zone, and one
without a body or a lead has no envelope. Either is one Zone Table event. R57: a brace switch loss takes every travel
hold off every zone with a brace need, as one Zone Table event: a moving holder keeps the zone Clearing where its body
overlaps it or its envelope reaches it, a holder at rest joins the resting set of a zone its body overlaps. The update
taken is the oldest of its mover in flight (log 1), also where its body is older than the one ZT holds (log 42), the
body before it the one ZT last took (log 13); no authority end moves with either event (log 35). -/
def Obligations.ZonesFollowBodiesAndBraces : Prop :=
  (∀ (s : State) m (u : PositionUpdate) rest, s.slu.heldInReset = false →
      Taken (fun x : PositionUpdate => x.mover == m) 0 s.hand.toZt u rest →
      let s0 := { s with hand := { s.hand with toZt := rest } }
      let t0 : ZoneTable := { s.zt with body := s.zt.body.set m u.body }
      let q := pathOf m
      (s.moverState m = .parked ∨ s.moverState m = .halted →
          exec (.positionUpdateZT m) s = .next (s0.commitZones (t0.setZones q ((s.zt.zones q).map fun z =>
            { z with resting :=
              if bodyOverlaps u.body z = true ∧ z.holder ≠ some m then addMover m z.resting
              else z.resting.filter fun x => x != m }))))
        ∧ (s.moverState m = .permitted ∨ s.moverState m = .stopping ∨ s.moverState m = .tripped →
          let d := s.directionOf m
          let a := s.params m
          let stop : Int → Int := fun l => l + d.sign * (ceilDiv (u.speed * u.speed) (2 * a.deceleration) + a.stopMargin)
          let left : ZoneRec → Bool := fun z =>
            match u.body with
            | some b => bodyOverlaps (s.zt.body.get m) z && !b.overlaps z && zoneBehind d b z
            | none => false
          let stays : ZoneRec → Bool := fun z =>
            match u.body, u.lead with
            | some b, some l => b.overlaps z || (zoneAhead d b z && envelopeReaches d a.bodyMargin (stop l) z)
            | some b, none => b.overlaps z
            | none, _ => false
          exec (.positionUpdateZT m) s = .next (s0.commitZones (t0.setZones q ((s.zt.zones q).map fun z =>
            let z' := { z with resting := z.resting.filter fun x => x != m }
            if z.holder = some m ∧ left z = true then
              { z' with holder := none
                        barrier := if z.barrier = .pending ∧ z.clearingFor = none then .closed else z.barrier }
            else if z.clearingFor = some m ∧ stays z = false then
              { z' with clearingFor := none
                        barrier := if z.barrier = .pending ∧ z.holder = none then .closed else z.barrier }
            else z')))))
    ∧ (∀ (s : State) b rest, s.slu.heldInReset = false → s.hand.switchLosses = b :: rest →
        let lose : ZoneRec → ZoneRec := fun z =>
          match z.holder, z.need with
          | none, _ => z
          | _, .nothing => z
          | some m, _ =>
            let under := bodyOverlaps (s.zt.body.get m) z
            let moving := s.moverState m = .permitted ∨ s.moverState m = .stopping ∨ s.moverState m = .tripped
            let clears := under || envelopeTouches (s.envelopeOf m) z
            { z with
              holder := none
              clearingFor := if moving ∧ clears = true then some m else z.clearingFor
              resting := if ¬ moving ∧ under = true then addMover m z.resting else z.resting
              barrier := if z.barrier = .pending ∧ z.clearingFor = none ∧ ¬ (moving ∧ clears = true) then .closed
                else z.barrier }
        exec .braceSwitchLoss s = .next ({ s with hand := { s.hand with switchLosses := rest } }.commitZones
          { s.zt with runway := s.zt.runway.map lose, tray := s.zt.tray.map lose }))

/-- R36: the derived state of a zone is the first row of the table whose condition holds. R45, R56: what every Zone
Table event ends with. A zone that becomes Free loses its waiting set, with one ZONE FREED for each station that owns
movers in it, in an order left open (log 32); one report goes to BRC where a hold or clearing of a zone with a brace
need has changed (log 23); nothing else of the state moves. The bodies are those ZT last took (log 13). -/
def Obligations.ZoneEventsEndWithFreedZones : Prop :=
  (∀ (t : ZoneTable) (p : Path) (z : ZoneRec),
      let bodyIn := ∃ m ∈ moversOn p, ∃ e, t.body.get m = some e ∧ e.low < z.stop ∧ z.start ≤ e.high
      (z.holder ≠ none → t.stateOf p z = .held)
        ∧ (z.holder = none → z.clearingFor ≠ none → t.stateOf p z = .clearing)
        ∧ (z.holder = none → z.clearingFor = none → z.barrier = .closed → (z.resting ≠ [] ∨ bodyIn) →
          t.stateOf p z = .closed true)
        ∧ (z.holder = none → z.clearingFor = none → z.barrier = .closed → z.resting = [] → ¬ bodyIn →
          t.stateOf p z = .closed false)
        ∧ (z.holder = none → z.clearingFor = none → z.barrier ≠ .closed → (z.resting ≠ [] ∨ bodyIn) →
          t.stateOf p z = .resting)
        ∧ (z.holder = none → z.clearingFor = none → z.barrier ≠ .closed → z.resting = [] → ¬ bodyIn →
          t.stateOf p z = .free))
    ∧ (∀ (s : State) (t : ZoneTable), (∀ p, (t.zones p).length = (s.zt.zones p).length) →
        let u := s.commitZones t
        let freed : Path → ZoneRec → ZoneRec → Prop := fun p z z' => s.zt.stateOf p z ≠ .free ∧ t.stateOf p z' = .free
        (∀ p, (u.zt.zones p).length = (s.zt.zones p).length) ∧ u.zt.body = t.body
          ∧ (∀ p (k : Nat) (z z' : ZoneRec), (s.zt.zones p)[k]? = some z → (t.zones p)[k]? = some z' →
            (freed p z z' → (u.zt.zones p)[k]? = some { z' with waiting := [] })
              ∧ (¬ freed p z z' → (u.zt.zones p)[k]? = some z'))
          ∧ (∃ posts : List Posting, u.hand.postings = s.hand.postings ++ posts ∧ posts.Nodup
            ∧ ∀ x, x ∈ posts ↔ ∃ (p : Path) (k : Nat) (z z' : ZoneRec) (q : Port), (s.zt.zones p)[k]? = some z ∧ (t.zones p)[k]? = some z' ∧ freed p z z'
              ∧ (q = Port.roof ∨ q = Port.pitch) ∧ (∃ m ∈ z'.waiting, ownerOf m = q)
              ∧ x = ⟨.zt, [q], ⟨.zoneFreed, 2, .zone p k, (z'.waiting.filter fun m => ownerOf m == q).length⟩⟩)
          ∧ ((∃ (p : Path) (k : Nat) (z z' : ZoneRec), (s.zt.zones p)[k]? = some z ∧ (t.zones p)[k]? = some z' ∧ z.need ≠ .nothing
                ∧ (z.holder ≠ z'.holder ∨ z.clearingFor ≠ z'.clearingFor)) →
              u.hand.demandEvents = s.hand.demandEvents ++ [.holdReport])
          ∧ ((∀ p (k : Nat) (z z' : ZoneRec), (s.zt.zones p)[k]? = some z → (t.zones p)[k]? = some z' → z.need ≠ .nothing →
                z.holder = z'.holder ∧ z.clearingFor = z'.clearingFor) → u.hand.demandEvents = s.hand.demandEvents)
          ∧ u = { s with
              zt := u.zt
              hand := { s.hand with postings := u.hand.postings, demandEvents := u.hand.demandEvents } })

/-- R53, R60: entry to Parked or Halted. The authority fields empty and the mover's ceilings go to 0; then every hold
under the body becomes resting, holds elsewhere stand, clearings end, and the mover rests in every other zone its body
overlaps, all as one Zone Table event. A mover without a body overlaps no zone. The conversion takes the body as POS
last reported it (log 27), and the updates in flight to ZT stay in flight (log 42). -/
def Obligations.EnteringRestConvertsHolds : Prop :=
  ∀ (s : State) (m : Mover),
    (∃ a, s.endAuthority m = { s with asu := a }
      ∧ a.authority.get m = { s.authorityOf m with
          authorityEnd := none, stopTarget := none, untrimmed := 0, descent := none, overspeedOpen := false }
      ∧ (∀ q, q ≠ m → a.authority.get q = s.asu.authority.get q) ∧ a.skew = s.asu.skew
      ∧ ∀ x, a.ceilings.get x = if moverOfAxis x = m then ⟨0, false, 0⟩ else s.asu.ceilings.get x)
    ∧ (let body := (s.pos.movers.get m).body
      let t0 : ZoneTable := { s.zt with body := s.zt.body.set m body }
      s.parkingConversion m = s.commitZones (t0.setZones (pathOf m) ((s.zt.zones (pathOf m)).map fun z =>
        if z.holder = some m then
          if bodyOverlaps body z then
            { z with
              holder := none, resting := addMover m z.resting
              barrier := if z.barrier = .pending ∧ z.clearingFor = none then .closed else z.barrier }
          else z
        else
          { z with
            clearingFor := if z.clearingFor = some m then none else z.clearingFor
            resting := if bodyOverlaps body z then addMover m z.resting else z.resting.filter fun q => q != m
            barrier := if z.barrier = .pending ∧ z.clearingFor = some m ∧ z.holder = none then .closed else z.barrier })))

/-! ## Movement authority (chapter 4) -/

/-- R62, R65: a MOVE in Armed that meets no refusal and leaves room is granted: the direction, the settled end and the
source are recorded; a Parked mover becomes Permitted with its relay commanded closed; from Parked or on a reversal
the lead is formed anew, the furthest lead set to it and the cap set afresh; the ceilings are computed at once (R68 to
R74, R83), in the mover's own direction with the target cap, the cap in use and a cap descent as the last position
update left them (log 34), and the reply carries the end and the untrimmed ceiling. -/
def Obligations.MoveGranted : Prop :=
  ∀ (s : State) p r m d b (mo : Motion), s.Served p r .move → s.dsu.state = .armed →
    fieldAt r.body 0 = moverNumber m → byteAt r.body 1 = BitVec.ofInt 8 d.sign →
    s.dsu.permits = true → (s.spu.ports.get .venue).link ≠ .silent →
    s.moverState m ≠ .halted → s.moverState m ≠ .tripped →
    (∀ x, (s.authorityOf m).direction = some x → x ≠ d → s.moverState m = .parked
      ∨ (s.moverState m = .permitted ∧ (s.pos.movers.get m).standstill = true)) →
    (isPanel m = true → s.wm.state = .calm ∨ s.wm.state = .reduced) →
    (∀ a ∈ axesOf m, (s.pos.axes.get a).validity = .valid ∨ (s.pos.axes.get a).validity = .substituted) →
    (s.pos.movers.get m).body = some b → (∀ z ∈ s.zt.zones (pathOf m), b.overlaps z = true → z.holder = some m) →
    s.motionOf m = some mo →
    let g := s.params m
    let e := s.settleEnd m d (int32At r.body 2) mo
    let lead := leadOf g mo.values d
    let fresh := s.moverState m = .parked ∨ ∃ x, (s.authorityOf m).direction = some x ∧ x ≠ d
    (fresh → g.stopMargin + 200 < (e.position - lead) * d.sign) →
    ∃ t : State, exec .move s = .next (t.reply p r.tag ⟨.done, e.clamped, byteField (moverNumber m) ++ bytesOf 1 d.sign
          ++ bytesOf 4 e.position ++ bytesOf 2 (t.authorityOf m).untrimmed⟩)
      ∧ t = { s.takeHead p with asu := t.asu, pos := t.pos, msu := t.msu, hand := t.hand }
      ∧ ((t.authorityOf m).direction = some d ∧ (t.authorityOf m).authorityEnd = some e.position
        ∧ (t.authorityOf m).source = some p ∧ (t.authorityOf m).stopTarget = (s.authorityOf m).stopTarget
        ∧ (t.authorityOf m).overspeedOpen = (s.authorityOf m).overspeedOpen)
      ∧ (∀ q, q ≠ m → t.authorityOf q = s.authorityOf q ∧ t.msu.get q = s.msu.get q
        ∧ t.pos.movers.get q = s.pos.movers.get q)
      ∧ (t.pos.axes = s.pos.axes ∧ t.pos.primary = s.pos.primary ∧ t.pos.check = s.pos.check ∧ t.asu.skew = s.asu.skew)
      ∧ (s.moverState m = .parked → t.msu.get m = { s.msu.get m with
            state := .permitted, haltCauses := [], uncommandedOpen := false, relayClosed := true
            readbackTimer := (s.msu.get m).readbackTimer || !(s.msu.get m).relayClosed }
          ∧ t.hand = { s.hand with moverChanges := s.hand.moverChanges ++ [⟨m, .permitted⟩] })
      ∧ (s.moverState m ≠ .parked → t.msu.get m = s.msu.get m ∧ t.hand = s.hand)
      ∧ (fresh → t.pos.movers.get m = { s.pos.movers.get m with
            body := some (bodyOf g mo.values), lead := some lead, furthest := some lead }
          ∧ (t.authorityOf m).descent = none
          ∧ (t.authorityOf m).targetCap = targetCapOf g (isPanel m) s.wm.state mo.substituted
          ∧ (t.authorityOf m).capInUse = targetCapOf g (isPanel m) s.wm.state mo.substituted)
      ∧ (¬ fresh → t.pos.movers.get m = s.pos.movers.get m
          ∧ (t.authorityOf m).targetCap = (s.authorityOf m).targetCap ∧ (t.authorityOf m).capInUse = (s.authorityOf m).capInUse
          ∧ (t.authorityOf m).descent = (s.authorityOf m).descent
          ∧ t = ((s.takeHead p).setAuthority m { s.authorityOf m with
              direction := some d, authorityEnd := some e.position, source := some p }).computeCeilings m mo .asItStands)
      ∧ (∀ mo', t.motionOf m = some mo' → (t.authorityOf m).untrimmed
          = vPerm g d (s.zt.zones (pathOf m)) mo' e.position (t.authorityOf m).capInUse)
      ∧ (∀ a x, (a, x) ∈ mo.positions → t.asu.ceilings.get a = { s.asu.ceilings.get a with
          ceiling := trimmed g (t.authorityOf m).untrimmed (leadExcess d (lagOf d mo.values) x) })
      ∧ ∀ a, moverOfAxis a ≠ m → t.asu.ceilings.get a = s.asu.ceilings.get a

/-- R61, R62, R64: the refusals of MOVE in order; the first that holds gives the outcome and nothing else changes. The
last is the DONE with the clamped flag of an authority that would leave no room. -/
def Obligations.MoveRefusedInOrder : Prop :=
  ∀ (s : State) p r, s.Served p r .move →
    (s.dsu.state ≠ .armed → exec .move s = .next (s.answered p r ⟨.notArmed, false, []⟩))
      ∧ (s.dsu.state = .armed → (∀ m, fieldAt r.body 0 ≠ moverNumber m) ∨ (byteAt r.body 1 ≠ 1#8 ∧ byteAt r.body 1 ≠ 255#8) →
        exec .move s = .next (s.answered p r ⟨.badRequest, false, []⟩))
      ∧ ∀ m (d : Direction), s.dsu.state = .armed → fieldAt r.body 0 = moverNumber m →
        byteAt r.body 1 = BitVec.ofInt 8 d.sign →
        let refused := fun o => exec .move s = .next (s.answered p r ⟨o, false, []⟩)
        let reversing := ∃ x, (s.authorityOf m).direction = some x ∧ x ≠ d
        let c3 := s.moverState m = .halted ∨ s.moverState m = .tripped
        let c4 := reversing ∧ (s.moverState m = .stopping
          ∨ (s.moverState m = .permitted ∧ (s.pos.movers.get m).standstill = false))
        let c5 := isPanel m = true ∧ (s.wm.state = .limit ∨ s.wm.state = .unknown)
        let c6 := (∃ a ∈ axesOf m, (s.pos.axes.get a).validity ≠ .valid ∧ (s.pos.axes.get a).validity ≠ .substituted)
          ∨ (s.pos.movers.get m).body = none
        let c7 := ∃ z ∈ s.zt.zones (pathOf m), bodyOverlaps (s.pos.movers.get m).body z = true ∧ z.holder ≠ some m
        (s.dsu.permits = false → refused .permitsOff)
          ∧ (s.dsu.permits = true → ((s.spu.ports.get .venue).link = .silent → refused .venueSilent)
            ∧ ((s.spu.ports.get .venue).link ≠ .silent → (c3 → refused .halted)
              ∧ (¬ c3 → (c4 → refused .notStandstill)
                ∧ (¬ c4 → (c5 → refused .wind)
                  ∧ (¬ c5 → (c6 → refused .reader)
                    ∧ (¬ c6 → (c7 → refused .notHeld)
                      ∧ (¬ c7 → ∀ mo, s.motionOf m = some mo → (s.moverState m = .parked ∨ reversing) →
                        let e := s.settleEnd m d (int32At r.body 2) mo
                        (e.position - leadOf (s.params m) mo.values d) * d.sign ≤ (s.params m).stopMargin + 200 →
                        exec .move s = .next (s.answered p r ⟨.done, true, byteField (moverNumber m) ++ bytesOf 1 d.sign
                          ++ bytesOf 4 e.position ++ bytesOf 2 (s.authorityOf m).untrimmed⟩))))))))

/-- R63, R64, R67: the end a MOVE settles on. It lies at or short of the held-run bound or of the authority-run bound,
and of the stop target of a Stopping mover; it falls short of the stopping point only at the authority-run bound or at
that stop target; it is the target unless it is clamped. A clip position is the near edge of a panel ahead whose body
overlaps the held run, less the clip gap: where the stopping-point floor does not apply, the end lies at or short of
the target, of the held-run bound and of every clip position, and it is one of them or the stop target. A bound or a
clip position strictly short of the target clamps it. -/
def Obligations.SettledEndStaysOnHeldTrack : Prop :=
  ∀ (s : State) m d target (mo : Motion),
    let g := s.params m
    let zs := s.zt.zones (pathOf m)
    let lead := leadOf g mo.values d
    let heldBound := runBoundary d lead (heldRun zs m d lead) - d.sign * g.bodyMargin
    let authorityBound := runBoundary d lead (authorityRun zs m d lead) - d.sign * g.bodyMargin
    let stop := stoppingPoint g d lead mo.speed
    let clips : Int → Prop := fun x => isPanel m = true ∧ ∃ q ∈ panels, q ≠ m ∧ ∃ o, s.motionOf q = some o
      ∧ (∃ z ∈ heldRun zs m d lead, o.body.low < z.stop ∧ z.start ≤ o.body.high)
      ∧ ((d = .south ∧ greatest mo.values < least o.values ∧ x = o.body.low - g.clipGap)
        ∨ (d = .north ∧ greatest o.values < least mo.values ∧ x = o.body.high + g.clipGap))
    let e := s.settleEnd m d target mo
    (e.position * d.sign ≤ heldBound * d.sign ∨ e.position * d.sign ≤ authorityBound * d.sign)
      ∧ (∀ x, s.moverState m = .stopping → (s.authorityOf m).stopTarget = some x →
        e.position * d.sign ≤ x * d.sign)
      ∧ (e.position * d.sign < stop * d.sign → e.position = authorityBound
        ∨ (s.moverState m = .stopping ∧ (s.authorityOf m).stopTarget = some e.position))
      ∧ (e.clamped = false → e.position = target)
      ∧ (∀ x, x = target ∨ x = heldBound ∨ clips x → stop * d.sign ≤ x * d.sign → e.position * d.sign ≤ x * d.sign)
      ∧ (stop * d.sign < e.position * d.sign → e.position = target ∨ e.position = heldBound ∨ clips e.position
        ∨ (s.moverState m = .stopping ∧ (s.authorityOf m).stopTarget = some e.position))
      ∧ ∀ x, x = heldBound ∨ clips x → x * d.sign < target * d.sign → e.clamped = true

/-- The Conventions' isqrt (00_scope.md): the greatest whole number whose square does not exceed the argument. -/
def Obligations.IsqrtIsGreatestRoot : Prop :=
  ∀ n : Nat, isqrtNat n * isqrtNat n ≤ n ∧ n < (isqrtNat n + 1) * (isqrtNat n + 1)

/-- R69 to R73, R82, R83: the computation of a mover's ceilings. The target cap; the cap in use, set afresh at a grant
from Parked or a reversal, worked out again along a descent under way and compared with the target cap on a position
update, and used as it stands in between (R68, log 34); the untrimmed ceiling, which is the least of the cap in use,
v_brake, v_here and v_ahead; the axis ceilings, trimmed by lead excess. Nothing else of the state moves. -/
def Obligations.CeilingsComputedByStages : Prop :=
  ∀ (s : State) m (mo : Motion) (work : CapWork) d e, (s.authorityOf m).direction = some d →
    (s.authorityOf m).authorityEnd = some e → (mo.positions.map (·.1)).Nodup →
    let g := s.params m
    let a := s.authorityOf m
    let zs := s.zt.zones (pathOf m)
    let t := s.computeCeilings m mo work
    let b := t.authorityOf m
    let wind := if isPanel m = true ∧ s.wm.state ≠ .calm then g.maxSpeed / 2 else g.maxSpeed
    let target := if mo.substituted = true then wind / 2 else wind
    let left : CapDescent → Int := fun c => max 0 ((c.point - mo.lead) * d.sign)
    let worked := match a.descent with
      | none => a.capInUse
      | some c => if left c = 0 then c.toCap else min c.fromCap (isqrt (c.toCap * c.toCap + 2 * g.deceleration * left c))
    let under : CapDescent → Prop := fun c => a.descent = some c ∧ left c ≠ 0
    let meets : ZoneRec → Prop := fun z => mo.body.low < z.stop ∧ z.start ≤ mo.body.high
    let near : ZoneRec → Int := fun z => if d = .south then z.start else z.stop
    let slowerAhead : ZoneRec → Prop := fun z => ¬ meets z ∧ zoneAhead d mo.body z = true
      ∧ near z * d.sign < (e + d.sign * g.bodyMargin) * d.sign
      ∧ (∀ w ∈ zs, meets w → z.ceiling < w.ceiling) ∧ ((∀ w ∈ zs, ¬ meets w) → z.ceiling < g.maxSpeed)
    let brake := if 0 < (e - mo.lead) * d.sign - g.stopMargin then
      isqrt (2 * g.deceleration * ((e - mo.lead) * d.sign - g.stopMargin)) else 0
    let entering : ZoneRec → Int := fun z => isqrt (z.ceiling * z.ceiling + 2 * g.deceleration
      * max 0 ((near z - d.sign * g.bodyMargin - mo.lead) * d.sign - g.stopMargin))
    let term : Int → Prop := fun v => v = b.capInUse ∨ v = brake ∨ (∃ z ∈ zs, meets z ∧ v = z.ceiling)
      ∨ (∃ z ∈ zs, slowerAhead z ∧ v = entering z)
      ∨ (v = g.maxSpeed ∧ ((∀ z ∈ zs, ¬ meets z) ∨ ∀ z ∈ zs, ¬ slowerAhead z))
    t = { s with asu := t.asu } ∧ t.asu.skew = s.asu.skew ∧ (∀ q, q ≠ m → t.authorityOf q = s.authorityOf q)
      ∧ b = { a with targetCap := b.targetCap, capInUse := b.capInUse, descent := b.descent, untrimmed := b.untrimmed }
      ∧ (work = .asItStands → b.targetCap = a.targetCap ∧ b.capInUse = a.capInUse ∧ b.descent = a.descent)
      ∧ (work = .afresh → b.targetCap = target ∧ b.capInUse = target ∧ b.descent = none)
      ∧ (work = .compared → b.targetCap = target
        ∧ (worked ≤ target → b.capInUse = target ∧ b.descent = none)
          ∧ (∀ c, target < worked → under c → c.toCap = target → b.capInUse = worked ∧ b.descent = some c)
          ∧ (target < worked → (∀ c, under c → c.toCap ≠ target) → b.capInUse = worked ∧ b.descent = some ⟨worked, target,
            mo.lead + d.sign * (g.stopMargin + ceilDiv (worked * worked - target * target) (2 * g.deceleration))⟩))
      ∧ (term b.untrimmed ∧ ∀ v, term v → b.untrimmed ≤ v)
      ∧ (∀ x ∈ mo.positions,
        let excess := (x.2 - if d = .south then least mo.values else greatest mo.values) * d.sign
        t.asu.ceilings.get x.1 = { s.asu.ceilings.get x.1 with ceiling :=
          if excess ≤ g.trimThreshold then b.untrimmed
          else if excess < g.trimThreshold + g.trimWidth then
            b.untrimmed * (g.trimThreshold + g.trimWidth - excess) / g.trimWidth
          else 0 })
      ∧ ∀ y, (∀ x ∈ mo.positions, x.1 ≠ y) → t.asu.ceilings.get y = s.asu.ceilings.get y

/-- R73: the untrimmed ceiling lies between 0 and the mover's maximum speed, and no axis ceiling exceeds it or falls
below 0, wherever the configured figures and the caps the record holds are themselves within their ranges. -/
def Obligations.CeilingsWithinBounds : Prop :=
  ∀ (s : State) m (mo : Motion) (work : CapWork) d e,
    let g := s.params m
    let a := s.authorityOf m
    a.direction = some d → a.authorityEnd = some e → 0 ≤ g.maxSpeed → 0 < g.trimWidth →
    (∀ z ∈ s.zt.zones (pathOf m), 0 ≤ z.ceiling) → 0 ≤ a.capInUse → a.capInUse ≤ g.maxSpeed →
    (∀ c, a.descent = some c → 0 ≤ c.fromCap ∧ c.fromCap ≤ g.maxSpeed ∧ 0 ≤ c.toCap ∧ c.toCap ≤ g.maxSpeed) →
    let t := s.computeCeilings m mo work
    0 ≤ (t.authorityOf m).untrimmed ∧ (t.authorityOf m).untrimmed ≤ g.maxSpeed
      ∧ 0 ≤ (t.authorityOf m).capInUse ∧ (t.authorityOf m).capInUse ≤ g.maxSpeed
      ∧ ∀ x ∈ mo.positions, 0 ≤ (t.asu.ceilings.get x.1).ceiling
        ∧ (t.asu.ceilings.get x.1).ceiling ≤ (t.authorityOf m).untrimmed

/-- R66, R63: the clip of a position update touches no field but authority ends, and only those of panels with
authority. It sets the end of each such panel to the least advanced of the end and its clip positions, formed from its
held run as it stands with the updated panel as the update gives it; so it never advances one. -/
def Obligations.ClipOnlyShortens : Prop :=
  ∀ (s : State) (u : PositionUpdate) (m : Mover),
    let t := s.clipAll u
    let view : Mover → Option Motion := fun q => if q = u.mover then u.motion else s.motionOf q
    (∃ e, t.authorityOf m = { s.authorityOf m with authorityEnd := e })
      ∧ (isPanel m = false ∨ isPanel u.mover = false ∨ (s.moverState m).hasAuthority = false
        ∨ (s.authorityOf m).authorityEnd = none → t.authorityOf m = s.authorityOf m)
      ∧ (∀ d e, (s.authorityOf m).direction = some d → (s.authorityOf m).authorityEnd = some e →
        ∃ e', (t.authorityOf m).authorityEnd = some e' ∧ e' * d.sign ≤ e * d.sign)
      ∧ (∀ d e mo, isPanel m = true → isPanel u.mover = true → s.moverState m = .permitted ∨ s.moverState m = .stopping →
        (s.authorityOf m).direction = some d → (s.authorityOf m).authorityEnd = some e → view m = some mo →
        let clips : Int → Prop := fun x => ∃ q ∈ panels, q ≠ m ∧ ∃ o, view q = some o
          ∧ (∃ z ∈ heldRun (s.zt.zones (pathOf m)) m d mo.lead, o.body.low < z.stop ∧ z.start ≤ o.body.high)
          ∧ ((d = .south ∧ greatest mo.values < least o.values ∧ x = o.body.low - (s.params m).clipGap)
            ∨ (d = .north ∧ greatest o.values < least mo.values ∧ x = o.body.high + (s.params m).clipGap))
        ∃ e', (t.authorityOf m).authorityEnd = some e' ∧ (e' = e ∨ clips e')
          ∧ ∀ x, x = e ∨ clips x → e' * d.sign ≤ x * d.sign)
      ∧ t = { s with asu := { s.asu with authority := t.asu.authority } }

/-- R68, R86: ASU's work on a position update, in order: the clip, the ceilings, the spread test and supervision for a
Permitted or Stopping mover; the clip and the spread test for any other. R86 to R88: the spread test. It is made when
every axis is Valid or Substituted; it stores the spread and settles both excursions; SKEW ALARM is posted and SKEW
TRIP raised as each excursion opens. An update that lacks an axis position, the body or the lead, as the first of a
mover's axes give after a reset, brings no ceilings and no spread test, and one without a lead no supervision. The
update taken is the oldest of its mover in flight (log 1), as POS formed it (log 15). -/
def Obligations.AsuWorksInOrderAndTestsSpread : Prop :=
  (∀ (s : State) m (u : PositionUpdate) rest, s.slu.heldInReset = false →
      Taken (fun x : PositionUpdate => x.mover == m) 0 s.hand.toAsu u rest →
      let s1 := { s with hand := { s.hand with toAsu := rest } }.clipAll u
      (s.moverState m = .permitted ∨ s.moverState m = .stopping →
          (∀ mo, u.motion = some mo →
            exec (.positionUpdateASU m) s = .next (((s1.computeCeilings m mo .compared).spreadTest u).supervise u))
            ∧ (u.motion = none → exec (.positionUpdateASU m) s = .next (s1.supervise u)))
        ∧ (s.moverState m = .parked ∨ s.moverState m = .tripped ∨ s.moverState m = .halted →
          exec (.positionUpdateASU m) s = .next (s1.spreadTest u)))
    ∧ (∀ (s : State) (u : PositionUpdate), ((u.lead = none ∨ u.body = none ∨ ∃ x ∈ u.axes, x.position = none) → u.motion = none)
        ∧ (u.motion = none → s.spreadTest u = s) ∧ (u.lead = none → s.supervise u = s))
    ∧ (∀ (s : State) (u : PositionUpdate) (mo : Motion), u.motion = some mo →
        let m := u.mover
        let g := s.params m
        let k := s.asu.skew.get m
        let spread := greatest mo.values - least mo.values
        let authority := s.moverState m = .permitted ∨ s.moverState m = .stopping
        let tested := ∀ x ∈ u.axes, x.validity = .valid ∨ x.validity = .substituted
        (¬ tested → s.spreadTest u = s)
          ∧ (tested → ∃ data : CauseData, s.spreadTest u = { s with
                asu := { s.asu with skew := s.asu.skew.set m ⟨some spread, decide (g.skewAlarm ≤ spread), decide (g.skewTrip ≤ spread)⟩ }
                hand := { s.hand with
                  postings := s.hand.postings ++ (if g.skewAlarm ≤ spread ∧ k.alarmOpen = false then
                    [⟨.asu, [ownerOf m, .venue], ⟨.skewAlarm, 4, .mover m, spread⟩⟩] else [])
                  causes := s.hand.causes ++ (if g.skewTrip ≤ spread ∧ k.tripOpen = false then
                    [⟨.skewTrip, .one m, data⟩] else []) } }
              ∧ data.axis = some u.axis ∧ data.lead = u.lead ∧ data.primary = (s.pos.primary.get u.axis).lastPosition
              ∧ data.check = (s.pos.check.get u.axis).lastPosition ∧ data.speed = some u.axisSpeed
              ∧ (authority → data.source = (s.authorityOf m).source ∧ data.authorityEnd = (s.authorityOf m).authorityEnd
                ∧ data.axisCeiling = some (s.asu.ceilings.get u.axis).ceiling)
              ∧ (¬ authority → data.source = none ∧ data.authorityEnd = none ∧ data.axisCeiling = none)))

/-- R74 to R79: supervision of a Permitted or Stopping mover on a position update: the over-ceiling mark and the
excursion with its warning, the over-intervention count and OVERSPEED, OVERRUN, ROLLBACK, and the consumption test.
The update is taken as POS formed it (log 15), and one without a furthest lead raises no ROLLBACK (log 43). -/
def Obligations.SupervisionChecksMotion : Prop :=
  ∀ (s : State) (u : PositionUpdate) d e l,
    s.moverState u.mover = .permitted ∨ s.moverState u.mover = .stopping →
    (s.authorityOf u.mover).direction = some d → (s.authorityOf u.mover).authorityEnd = some e → u.lead = some l →
    let m := u.mover
    let v := u.axisSpeed * d.sign
    let c := s.asu.ceilings.get u.axis
    let intervention := c.ceiling + max (c.ceiling / 10) 20
    let causes : List Cause := (if intervention < v ∧ c.overCount ≠ 0 then [.overspeed] else [])
      ++ (if 0 < (l - e) * d.sign then [.overrun] else []) ++ (if 50 < (u.furthest.getD l - l) * d.sign then [.rollback] else [])
    let data : CauseData :=
      { CauseData.nothing with
        axis := some u.axis, source := (s.authorityOf m).source, lead := some l, primary := (s.pos.primary.get u.axis).lastPosition, check := (s.pos.check.get u.axis).lastPosition
        speed := some u.axisSpeed, axisCeiling := some c.ceiling, authorityEnd := some e }
    let t := s.supervise u
    let marked := ∃ a ∈ axesOf m, (t.asu.ceilings.get a).overMark = true
    t.asu.ceilings.get u.axis = ⟨c.ceiling, decide (c.ceiling < v), if intervention < v ∧ c.overCount = 0 then 1 else 0⟩
      ∧ (∀ a, a ≠ u.axis → t.asu.ceilings.get a = s.asu.ceilings.get a)
      ∧ ((marked → (t.authorityOf m).overspeedOpen = true) ∧ (¬ marked → (t.authorityOf m).overspeedOpen = false))
      ∧ (∃ o, t.authorityOf m = { s.authorityOf m with overspeedOpen := o })
      ∧ (∀ q, q ≠ m → t.authorityOf q = s.authorityOf q)
      ∧ (marked → (s.authorityOf m).overspeedOpen = false →
        t.hand.postings = s.hand.postings ++ [⟨.asu, [ownerOf m], ⟨.overspeedWarning, 3, .mover m, v⟩⟩])
      ∧ (¬ marked ∨ (s.authorityOf m).overspeedOpen = true → t.hand.postings = s.hand.postings)
      ∧ t.hand.causes = s.hand.causes ++ causes.map (fun x => ⟨x, .one m, data⟩)
      ∧ t.hand.consumed = s.hand.consumed ++ (if s.moverState m = .permitted ∧ causes = [] ∧ u.standstill = true
          ∧ (e - l) * d.sign ≤ (s.params m).stopMargin + 200 then [m] else [])
      ∧ t = { s with
          asu := { s.asu with authority := t.asu.authority, ceilings := t.asu.ceilings }
          hand := { s.hand with
            postings := t.hand.postings, causes := t.hand.causes, consumed := t.hand.consumed } }

/-! ## Mover states and stopping (chapter 6) -/

/-- R79: MSU takes a consumption. A mover still Permitted, at standstill and no more than M + 200 short of its end
parks, its relay commanded open, with MOVER PARKED to its owner; otherwise the hand-over is dropped. R97, R100, R105,
R106: MSU takes a position update. At standstill a Stopping mover reaches its stop end and a Tripped one Halted, at
the lead; the first lead after a reset becomes the parked position; a mover at rest opens its excursion more than 100
mm from its parked position, and UNCOMMANDED MOTION is raised and taken as it opens; an update without a lead, before
every axis has a position, changes nothing. The hand-over taken is the mover's
oldest in flight (log 1), and MSU goes by the lead and standstill of the update it takes (log 15). -/
def Obligations.MsuEndsStopsAndWatchesRest : Prop :=
  (∀ (s : State) m rest, s.slu.heldInReset = false → Taken (fun x : Mover => x == m) 0 s.hand.consumed m rest →
      let s0 := { s with hand := { s.hand with consumed := rest } }
      let k := s.msu.get m
      (s.moverState m ≠ .permitted → exec (.authorityConsumed m) s = .next s0)
        ∧ ((s.authorityOf m).direction = none ∨ (s.authorityOf m).authorityEnd = none ∨ (s.pos.movers.get m).lead = none →
          exec (.authorityConsumed m) s = .next s0)
        ∧ ∀ d e l, s.moverState m = .permitted → (s.authorityOf m).direction = some d →
          (s.authorityOf m).authorityEnd = some e → (s.pos.movers.get m).lead = some l →
          ((s.pos.movers.get m).standstill = false ∨ (s.params m).stopMargin + 200 < (e - l) * d.sign →
              exec (.authorityConsumed m) s = .next s0)
            ∧ ((s.pos.movers.get m).standstill = true → (e - l) * d.sign ≤ (s.params m).stopMargin + 200 →
              exec (.authorityConsumed m) s = .next (((((s0.setMover m { k with
                  state := .parked, stopCause := none, stopEnd := none, haltCauses := [], parkedPosition := some l
                  uncommandedOpen := false, relayClosed := false
                  readbackTimer := k.readbackTimer || k.relayClosed }).endAuthority m).handMoverChange m
                .parked).parkingConversion m).post .msu [ownerOf m] ⟨.moverParked, 2, .mover m, l⟩)))
    ∧ (∀ (s : State) m (u : PositionUpdate) rest, s.slu.heldInReset = false →
        Taken (fun x : PositionUpdate => x.mover == m) 0 s.hand.toMsu u rest →
        let s0 := { s with hand := { s.hand with toMsu := rest } }
        let k := s.msu.get m
        let act := exec (.positionUpdateMSU m) s
        let atRest := k.state = .parked ∨ k.state = .halted
        (u.first = false → u.lead = none → act = .next s0) ∧ ∀ l, u.lead = some l →
        (u.first = false → k.state = .permitted ∨ ((k.state = .stopping ∨ k.state = .tripped) ∧ u.standstill = false) →
            act = .next s0)
          ∧ (atRest → u.first = true →
            act = .next (s0.setMover m { k with parkedPosition := some l, uncommandedOpen := false }))
          ∧ (atRest → u.first = false → k.parkedPosition = none → act = .next s0)
          ∧ (∀ q, atRest → u.first = false → k.parkedPosition = some q →
            (max (l - q) (q - l) ≤ 100 → act = .next (s0.setMover m { k with uncommandedOpen := false }))
              ∧ (100 < max (l - q) (q - l) → k.uncommandedOpen = true → act = .next s0)
              ∧ (100 < max (l - q) (q - l) → k.uncommandedOpen = false →
                act = .next ((s0.setMover m { k with uncommandedOpen := true }).takeCause
                  ⟨.uncommandedMotion, .one m,
                    { CauseData.nothing with
                      axis := some u.axis, lead := some l, parked := some q, speed := some u.axisSpeed }⟩)))
          ∧ (u.first = false → u.standstill = true → k.state = .stopping → k.stopEnd = some .parked →
            act = .next (((((s0.setMover m { k with
                state := .parked, stopCause := none, stopEnd := none, haltCauses := [], parkedPosition := some l
                uncommandedOpen := false, relayClosed := false, readbackTimer := k.readbackTimer || k.relayClosed }).endAuthority
              m).handMoverChange m .parked).parkingConversion m).post .msu [ownerOf m] ⟨.moverParked, 2, .mover m, l⟩))
          ∧ (u.first = false → u.standstill = true → k.state = .stopping → k.stopEnd = some .halted →
            act = .next ((((s0.setMover m { k with
                state := .halted, stopEnd := none, parkedPosition := some l, uncommandedOpen := false, relayClosed := false
                readbackTimer := k.readbackTimer || k.relayClosed }).endAuthority m).handMoverChange m .halted).parkingConversion
              m))
          ∧ (u.first = false → u.standstill = true → k.state = .tripped →
            act = .next ((((s0.setMover m { k with
                state := .halted, tripTimer := .stopped, parkedPosition := some l
                uncommandedOpen := false }).endAuthority m).handMoverChange m .halted).parkingConversion m)))

/-- R94, R95, R98: MSU takes a cause: it applies it to the movers of its scope as they then stand, in mover order, and
hands it to the fault record with the device state, the data and, for a cause of one mover, the mover and its state. A
Hold cause changes no mover. Which cause is taken is the command's operand (log 1, log 26); the movers BRACE LOST names
were fixed at the switch change, and each counts whatever its state is now (log 25). -/
def Obligations.CausesReachTheirScope : Prop :=
  ∀ (s : State) n (c : CauseMessage) rest, s.slu.heldInReset = false →
    let s0 := { s with hand := { s.hand with causes := rest } }
    let scope := allMovers.filter fun m =>
      match c.scope with
      | .all => true
      | .panels => m != .tray
      | .role p => ownerOf m == p
      | .one x => x == m
      | .named ms => ms.contains m
    let fault : FaultMessage :=
      match c.scope with
      | .one m => ⟨c.cause, some s.dsu.state, some m, some (s.moverState m), c.data⟩
      | _ => ⟨c.cause, some s.dsu.state, none, none, c.data⟩
    (Taken (fun x : CauseMessage => causeClass x.cause == some .immediate) n s.hand.causes c rest →
        exec (.immediateCauseTaken n) s
          = .next ((scope.foldl (fun t m => t.applyImmediate c.cause m) s0).handFault fault))
      ∧ (Taken (fun x : CauseMessage => causeClass x.cause == some .controlled) n s.hand.causes c rest →
        exec (.controlledCauseTaken n) s
          = .next ((scope.foldl (fun t m => t.applyControlled c.cause m) s0).handFault fault))
      ∧ (Taken (fun x : CauseMessage => causeClass x.cause == some .hold) n s.hand.causes c rest →
        exec (.holdCauseTaken n) s = .next (s0.handFault fault))

/-- R99, R109: what an Immediate cause does to a mover, by its state. -/
def Obligations.ImmediateCauseActs : Prop :=
  ∀ (s : State) (c : Cause) (m : Mover),
    let k := s.msu.get m
    let halts := if c ∈ k.haltCauses then k.haltCauses else k.haltCauses ++ [c]
    (k.state = .permitted ∨ k.state = .stopping →
        ∃ t, s.applyImmediate c m = t ∧ t = { s with msu := t.msu, asu := t.asu, hand := t.hand }
          ∧ t.msu = s.msu.set m { k with
              state := .tripped, stopCause := some c, stopEnd := none, haltCauses := halts
              tripTimer := .running (1000 * (s.params m).tripStopTime), relayClosed := false
              readbackTimer := k.readbackTimer || k.relayClosed }
          ∧ t.asu.authority = s.asu.authority.set m
              { s.authorityOf m with untrimmed := 0, descent := none, overspeedOpen := false }
          ∧ t.asu.skew = s.asu.skew
          ∧ (∀ a, t.asu.ceilings.get a = if moverOfAxis a = m then ⟨0, false, 0⟩ else s.asu.ceilings.get a)
          ∧ t.hand = { s.hand with
              moverChanges := s.hand.moverChanges ++ [⟨m, .tripped⟩]
              postings := s.hand.postings
                ++ [⟨.msu, [ownerOf m, .venue], ⟨.moverStopped, 6, .mover m, causeNumber c⟩⟩] })
      ∧ (k.state = .parked → s.applyImmediate c m
        = ((((s.setMover m { k with state := .halted, stopCause := some c, haltCauses := halts }).endAuthority
          m).handMoverChange m .halted).parkingConversion m).post .msu [ownerOf m, .venue]
          ⟨.moverStopped, 6, .mover m, causeNumber c⟩)
      ∧ (k.state = .tripped ∨ k.state = .halted → s.applyImmediate c m = s.setMover m { k with haltCauses := halts })

/-- R96, R98, R109: what a controlled cause does to a mover, by its state and its stop end. LINK SILENCE is the one
halting controlled cause. The ceilings are computed at once, with the cap in use as it stands (log 34). -/
def Obligations.ControlledCauseActs : Prop :=
  ∀ (s : State) (c : Cause) (m : Mover), causeClass c = some .controlled →
    let k := s.msu.get m
    let halts := if c ∈ k.haltCauses then k.haltCauses else k.haltCauses ++ [c]
    let g := s.params m
    (∀ d e l, k.state = .permitted → (s.authorityOf m).direction = some d → (s.authorityOf m).authorityEnd = some e →
      (s.pos.movers.get m).lead = some l →
      let v := (s.pos.movers.get m).speed
      let stop := l + d.sign * (ceilDiv (v * v) (2 * g.deceleration) + g.stopMargin)
      let target := if e * d.sign < stop * d.sign then e else stop
      s.applyControlled c m = ((((s.setMover m { k with
          state := .stopping, stopCause := some c
          stopEnd := some (if c = .linkSilence then .halted else .parked)
          haltCauses := if c = .linkSilence then halts else k.haltCauses }).setAuthority m
            { s.authorityOf m with authorityEnd := some target, stopTarget := some target }).computeCeilingsNow m
              false).handMoverChange m .stopping).post .msu [ownerOf m, .venue]
          ⟨.moverStopped, if c = .linkSilence then 5 else 2, .mover m, causeNumber c⟩)
      ∧ (k.state = .stopping → c ≠ .linkSilence → s.applyControlled c m = s)
      ∧ (k.state = .stopping → c = .linkSilence → k.stopEnd = some .halted →
        s.applyControlled c m = s.setMover m { k with haltCauses := halts })
      ∧ (k.state = .stopping → c = .linkSilence → k.stopEnd = some .parked →
        s.applyControlled c m = (s.setMover m { k with
          stopEnd := some .halted, stopCause := some c, haltCauses := halts }).post .msu [ownerOf m, .venue]
            ⟨.moverStopped, 5, .mover m, causeNumber c⟩)
      ∧ (k.state = .parked ∨ k.state = .tripped ∨ k.state = .halted → s.applyControlled c m = s)

/-- R102: when the device passes from Armed or Disarming to another state, every Permitted or Stopping mover goes to
Tripped with stop cause DEVICE, its halt causes as they were and nothing handed to the fault record; any other change
of device state touches no mover. The change taken, and taken off, is the oldest in flight (log 1). That the changes of
mover state are handed on and MOVER STOPPED posted in mover order is the model's choice (log 40). -/
def Obligations.DeviceChangeTrips : Prop :=
  ∀ (s : State) (c : DeviceChange) rest, s.slu.heldInReset = false → s.hand.deviceChanges = c :: rest →
    let leaves := (c.before = .armed ∨ c.before = .disarming) ∧ c.after ≠ .armed ∧ c.after ≠ .disarming
    let tripped := allMovers.filter fun m => s.moverState m == .permitted || s.moverState m == .stopping
    (¬ leaves → exec .deviceStateChangeMSU s = .next { s with hand := { s.hand with deviceChanges := rest } })
      ∧ (leaves → ∃ t, exec .deviceStateChangeMSU s = .next t
        ∧ t = { s with msu := t.msu, asu := t.asu, hand := t.hand } ∧ t.asu.skew = s.asu.skew
        ∧ t.hand = { s.hand with
            deviceChanges := rest
            moverChanges := s.hand.moverChanges ++ tripped.map fun m => ⟨m, .tripped⟩
            postings := s.hand.postings
              ++ tripped.map fun m => ⟨.msu, [ownerOf m, .venue], ⟨.moverStopped, 6, .mover m, 17⟩⟩ }
        ∧ (∀ a, t.asu.ceilings.get a
          = if s.moverState (moverOfAxis a) = .permitted ∨ s.moverState (moverOfAxis a) = .stopping then ⟨0, false, 0⟩
            else s.asu.ceilings.get a)
        ∧ ∀ m, (s.moverState m ≠ .permitted → s.moverState m ≠ .stopping →
            t.msu.get m = s.msu.get m ∧ t.authorityOf m = s.authorityOf m)
          ∧ (s.moverState m = .permitted ∨ s.moverState m = .stopping →
            t.msu.get m = { s.msu.get m with
                state := .tripped, stopCause := some .device, stopEnd := none
                tripTimer := .running (1000 * (s.params m).tripStopTime), relayClosed := false
                readbackTimer := (s.msu.get m).readbackTimer || (s.msu.get m).relayClosed }
              ∧ t.authorityOf m = { s.authorityOf m with untrimmed := 0, descent := none, overspeedOpen := false }))

/-- R142: DSU takes BRAKE FAULT or RELAY STUCK. In Arming, Armed and Disarming the device goes to Locked, every relay
is commanded open, with a readback check started for each that was commanded closed (R103, R138, log 36), the arming
step and its timer end, and LOCKED is posted at severity 7 with the fault as value; in any other state nothing
changes. R101, R104: the expiry of a running trip timer hands BRAKE FAULT to the fault record with the mover and to
DSU; that of a running readback timer raises RELAY STUCK in the same way where the relay is commanded open and reads
closed, and nothing otherwise. A timer that does not run has no expiry. -/
def Obligations.TimersRaiseFaultsThatLock : Prop :=
  (∀ (s : State) (f : Cause),
      (s.dsu.state ≠ .arming → s.dsu.state ≠ .armed → s.dsu.state ≠ .disarming → s.takeDeviceFault f = s)
        ∧ (s.dsu.state = .arming ∨ s.dsu.state = .armed ∨ s.dsu.state = .disarming →
          ∃ t, s.takeDeviceFault f = t ∧ t = { s with msu := t.msu, dsu := t.dsu, hand := t.hand }
            ∧ t.dsu = { s.dsu with state := .locked, armingStep := none, stepTimer := false }
            ∧ (∀ m, t.msu.get m = { s.msu.get m with
                relayClosed := false, readbackTimer := (s.msu.get m).readbackTimer || (s.msu.get m).relayClosed })
            ∧ t.hand = { s.hand with
                deviceChanges := s.hand.deviceChanges ++ [⟨s.dsu.state, .locked⟩]
                demandEvents := s.hand.demandEvents ++ [.deviceChange]
                cuts := s.hand.cuts ++ (if s.dsu.state = .armed then [.leftArmed] else [])
                postings := s.hand.postings
                  ++ [⟨.dsu, [.roof, .pitch, .venue], ⟨.locked, 7, .absent, causeNumber f⟩⟩] }))
    ∧ (∀ (s : State) (m : Mover), s.slu.heldInReset = false →
        let k := s.msu.get m
        let raised : Cause → FaultMessage := fun f => ⟨f, none, some m, none, CauseData.nothing⟩
        (k.tripTimer.isRunning = false → exec (.tripTimerExpiry m) s = .next s)
          ∧ (k.tripTimer.isRunning = true → exec (.tripTimerExpiry m) s
            = .next (((s.setMover m { k with tripTimer := .expired }).handFault (raised .brakeFault)).takeDeviceFault .brakeFault))
          ∧ (k.readbackTimer = false → exec (.readbackTimerExpiry m) s = .next s)
          ∧ (k.readbackTimer = true → k.relayClosed = true ∨ k.readbackClosed = false → exec (.readbackTimerExpiry m) s
            = .next (s.setMover m { k with readbackTimer := false }))
          ∧ (k.readbackTimer = true → k.relayClosed = false → k.readbackClosed = true → exec (.readbackTimerExpiry m) s
            = .next (((s.setMover m { k with readbackTimer := false }).handFault (raised .relayStuck)).takeDeviceFault .relayStuck)))

/-- R108: STOP of a Permitted mover raises STOP REQUEST and takes it at once, and its reply carries the stop target;
of a Stopping one it changes nothing and carries the stop target; of any other it changes nothing. R107: CLEAR. It is
served in Standby and Armed; a Halted mover goes to Parked where every halt cause is gone, else CAUSE_PRESENT names
the oldest that stands. That this entry to Parked runs parking conversion is the model's reading (log 20). -/
def Obligations.StopAndClear : Prop :=
  (∀ (s : State) p r, s.Served p r .stop →
      ((∀ m, fieldAt r.body 0 ≠ moverNumber m) → exec .stop s = .next (s.answered p r ⟨.badRequest, false, []⟩))
        ∧ ∀ m, fieldAt r.body 0 = moverNumber m →
          (s.moverState m = .permitted →
            let t := (s.takeHead p).takeCause ⟨.stopRequest, .one m, CauseData.nothing⟩
            exec .stop s = .next (t.reply p r.tag ⟨.done, false, bytesOf 4 ((t.authorityOf m).stopTarget.getD 0)⟩)
              ∧ ∀ d e l, (s.authorityOf m).direction = some d → (s.authorityOf m).authorityEnd = some e →
                (s.pos.movers.get m).lead = some l →
                let stop := stoppingPoint (s.params m) d l (s.pos.movers.get m).speed
                (t.moverState m = .stopping ∧ (t.msu.get m).stopEnd = some .parked
                  ∧ (t.authorityOf m).stopTarget = some (if e * d.sign < stop * d.sign then e else stop)))
            ∧ (s.moverState m = .stopping → exec .stop s
              = .next (s.answered p r ⟨.done, false, bytesOf 4 ((s.authorityOf m).stopTarget.getD 0)⟩))
            ∧ (s.moverState m = .parked ∨ s.moverState m = .tripped ∨ s.moverState m = .halted →
              exec .stop s = .next (s.answered p r ⟨.done, false, [0, 0, 0, 0]⟩)))
    ∧ (∀ (s : State) p r, s.Served p r .clear →
        (s.dsu.state ≠ .standby → s.dsu.state ≠ .armed → exec .clear s = .next (s.answered p r ⟨.state, false, []⟩))
          ∧ (s.dsu.state = .standby ∨ s.dsu.state = .armed → (∀ m, fieldAt r.body 0 ≠ moverNumber m) →
            exec .clear s = .next (s.answered p r ⟨.badRequest, false, []⟩))
          ∧ ∀ m, s.dsu.state = .standby ∨ s.dsu.state = .armed → fieldAt r.body 0 = moverNumber m →
            let k := s.msu.get m
            let gone : Cause → Prop := fun c =>
              match c with
              | .readerLoss | .readerDiscrepancy => ∀ a ∈ axesOf m, (s.pos.axes.get a).validity = .valid
              | .overspeed | .overrun | .rollback | .uncommandedMotion => (s.pos.movers.get m).standstill = true
              | .skewTrip => ∀ x, (s.asu.skew.get m).lastSpread = some x → x < (s.params m).skewAlarm
              | .safetyLoop => (s.slu.channels.get .a).filtered = true ∧ (s.slu.channels.get .b).filtered = true
              | .driveTrip => (s.slu.trips.get m).filtered = false
              | .braceLost => (s.braceState .east = .engaged ∨ s.braceState .east = .withdrawn)
                  ∧ (s.braceState .west = .engaged ∨ s.braceState .west = .withdrawn)
              | .linkSilence => (s.spu.ports.get (ownerOf m)).link = .live
              | _ => True
            (k.state = .parked → exec .clear s = .next (s.answered p r ⟨.done, false, []⟩))
              ∧ (k.state = .permitted ∨ k.state = .stopping ∨ k.state = .tripped →
                exec .clear s = .next (s.answered p r ⟨.state, false, []⟩))
              ∧ (∀ before c after, k.state = .halted → k.haltCauses = before ++ c :: after → (∀ x ∈ before, gone x) → ¬ gone c →
                exec .clear s = .next (s.answered p r ⟨.causePresent, false, byteField (causeNumber c)⟩))
              ∧ (k.state = .halted → (∀ c ∈ k.haltCauses, gone c) → exec .clear s = .next ((((((s.takeHead p).setMover m { k with
                  state := .parked, stopCause := none, haltCauses := []
                  parkedPosition := (s.pos.movers.get m).lead, uncommandedOpen := false }).endAuthority m).handMoverChange m
                  .parked).parkingConversion m).reply p r.tag ⟨.done, false, []⟩)))

/-! ## Position readers (chapter 2) -/

/-- R17, R18, R24, with R19 to R23 for the timers: what sets a reading aside, and what the expiry of a gap or loss
timer does. A timer that does not run has no expiry. That an expiry hands on no position update is the model's reading
(log 17), and that the check is an input (log 12). -/
def Obligations.ReadingsSetAsideAndTimersExpire : Prop :=
  (∀ (s : State) (bus : ReaderBus) (f : ReadingFrame), s.slu.heldInReset = false →
    (f.checkMatches = false ∨ f.address < 1 ∨ 24 < f.address ∨ (bus = .a ∧ 13 ≤ f.address) ∨ (bus = .b ∧ f.address ≤ 12) →
        exec (.readingArrival bus f) s = .next s)
      ∧ ∀ a role, f.checkMatches = true → bus = (if role = .primary then .a else .b) → f.address = readerAddress a role →
        let k := s.pos.axes.get a
        let missing := f.status = .fault ∨ f.position < 0 ∨ s.pathLengthOf a < f.position
        (missing → role = .check ∨ k.validity ≠ .invalid → exec (.readingArrival bus f) s = .next s)
          ∧ (missing → role = .primary → k.validity = .invalid → exec (.readingArrival bus f) s
            = .next (s.setAxis a { k with recovery := 0, window := [], source := none }))
          ∧ (¬ missing → (s.pos.reader a role).lastSequence = some f.sequence → exec (.readingArrival bus f) s = .next s))
    ∧ (∀ (s : State) (a : Axis) (role : ReaderRole), s.slu.heldInReset = false →
      let m := moverOfAxis a
      let k := s.pos.axes.get a
      let s1 := s.withPos (s.pos.setReader a role { s.pos.reader a role with gapRunning := false })
      let check := s.pos.check.get a
      ((s.pos.reader a role).gapRunning = false → exec (.gapTimerExpiry a role) s = .next s)
        ∧ ((s.pos.reader a role).gapRunning = true →
          (∀ x n, role = .primary → k.validity = .valid → check.gapRunning = true → check.lastPosition = some x →
              check.lastSequence = some n → exec (.gapTimerExpiry a role) s
                = .next (((s1.setAxis a { k with
                  validity := .substituted, position := some x, window := [⟨x, n⟩], source := some .check }).formGeometry
                    m).handValidity ⟨a, .valid, .substituted⟩))
            ∧ (role = .primary → k.validity = .valid → check.gapRunning = false → exec (.gapTimerExpiry a role) s
              = .next (((s1.setAxis a { k with validity := .holding }).formGeometry m).handValidity ⟨a, .valid, .holding⟩))
            ∧ (role = .check → k.validity = .substituted → exec (.gapTimerExpiry a role) s
              = .next (((s1.setAxis a { k with validity := .holding }).formGeometry m).handValidity
                ⟨a, .substituted, .holding⟩))
            ∧ (role = .primary → k.validity = .invalid → exec (.gapTimerExpiry a role) s
              = .next ((s1.setAxis a { k with recovery := 0, window := [], source := none }).formGeometry m))
            ∧ ((role = .primary → k.validity ≠ .valid ∧ k.validity ≠ .invalid) → (role = .check → k.validity ≠ .substituted) →
              exec (.gapTimerExpiry a role) s = .next (s1.formGeometry m))))
    ∧ ∀ (s : State) (a : Axis), s.slu.heldInReset = false →
      let m := moverOfAxis a
      let k := s.pos.axes.get a
      (k.lossRunning = false → exec (.lossTimerExpiry a) s = .next s)
        ∧ (k.lossRunning = true → k.validity ≠ .holding →
          exec (.lossTimerExpiry a) s = .next (s.setAxis a { k with lossRunning := false }))
        ∧ (k.lossRunning = true → k.validity = .holding → exec (.lossTimerExpiry a) s = .next ((((s.setAxis a { k with
            validity := .invalid, standstillCount := 0, window := [], source := none, recovery := 0
            lossRunning := false }).formMotion m).raise ⟨.readerLoss, .one m,
              { CauseData.nothing with
                axis := some a, lead := (s.pos.movers.get m).lead, primary := (s.pos.primary.get a).lastPosition
                check := (s.pos.check.get a).lastPosition, speed := some k.speed }⟩).handValidity ⟨a, .holding, .invalid⟩))

/-- R20 to R27: what a good reading does to its axis, by reader and validity state: the window, the speed taken over
it, the standstill count, the recovery count and the validity state. -/
def Obligations.AxisFollowsGoodReadings : Prop :=
  (∀ (k : AxisRec) (e : WindowEntry),
    let count : Int → Nat := fun v => if max v (-v) ≤ 5 then min 5 (k.standstillCount + 1) else 0
    let win := enterWindow k.window e
    let v := speedFrom win k.speed
    (k.validity = .unknown ∨ k.validity = .substituted ∨ k.validity = .holding → k.afterGood .primary e = { k with
        validity := .valid, position := some e.position, window := [e], source := some .primary, lossRunning := true
        standstillCount := count k.speed })
      ∧ (k.validity = .valid → k.afterGood .primary e = { k with
        position := some e.position, window := win, source := some .primary, speed := v, lossRunning := true
        standstillCount := count v })
      ∧ (k.validity = .invalid → k.recovery < 4 → k.afterGood .primary e = { k with
        position := some e.position, window := win, source := some .primary, speed := v, lossRunning := true
        standstillCount := count v, recovery := k.recovery + 1 })
      ∧ (k.validity = .invalid → 4 ≤ k.recovery → k.afterGood .primary e = { k with
        validity := .valid, position := some e.position, window := win, source := some .primary, speed := v
        lossRunning := true, standstillCount := count v, recovery := 0 })
      ∧ (k.validity = .unknown ∨ k.validity = .valid ∨ k.validity = .invalid → k.afterGood .check e = { k with
        freshCheck := true, lossRunning := true })
      ∧ (k.validity = .substituted → k.afterGood .check e = { k with
        position := some e.position, window := win, source := some .check, speed := v, freshCheck := true
        lossRunning := true, standstillCount := count v })
      ∧ (k.validity = .holding → k.afterGood .check e = { k with
        validity := .substituted, position := some e.position, window := [e], source := some .check, freshCheck := true
        lossRunning := true, standstillCount := count k.speed }))
    ∧ (∀ (w : List WindowEntry) (o n e : WindowEntry) (kept : Int),
      let step := (e.sequence - n.sequence).toNat
      enterWindow [] e = [e] ∧ speedFrom [e] kept = kept
        ∧ (1 ≤ step ∧ step ≤ 4 → w.length < 9 → enterWindow (w ++ [n]) e = w ++ [n, e])
        ∧ (1 ≤ step ∧ step ≤ 4 → w.length = 8 → enterWindow (o :: w ++ [n]) e = w ++ [n, e])
        ∧ (step = 0 ∨ 5 ≤ step → enterWindow (w ++ [n]) e = [e])
        ∧ speedFrom (o :: w ++ [n]) kept
          = max (-9999) (min 9999 (((n.position - o.position) * 1000).tdiv (20 * (totalSpan (o :: w ++ [n]) : Int))))
        ∧ totalSpan (w ++ [n, e]) = totalSpan (w ++ [n]) + step ∧ totalSpan [e] = 0)

/-- R18, R28 to R33: a good reading sets its reader's record, moves its axis, is compared where a fresh check reading
waits, and, where it is an accepted reading, forms the mover's speed, standstill, body and leads anew and is handed to
ZT, ASU, MSU and BRC; a change of validity, a third failing comparison and the opening of a WARN run are handed on. -/
def Obligations.GoodReadingTaken : Prop :=
  ∀ (s : State) (bus : ReaderBus) (f : ReadingFrame) a role, s.slu.heldInReset = false → f.checkMatches = true →
    bus = (if role = .primary then .a else .b) → f.address = readerAddress a role → f.status ≠ .fault →
    0 ≤ f.position → f.position ≤ s.pathLengthOf a → (s.pos.reader a role).lastSequence ≠ some f.sequence →
    let m := moverOfAxis a
    let g := s.params m
    let k := s.pos.axes.get a
    let w := k.afterGood role ⟨f.position, f.sequence⟩
    let compared := role = .primary ∧ k.freshCheck = true
    let fails := ∃ c, (s.pos.check.get a).lastPosition = some c
      ∧ s.cs.active.general.readerTolerance + max w.speed (-w.speed) * 40 / 1000 < max (f.position - c) (c - f.position)
    let accepted := role = .primary ∨ k.validity = .substituted ∨ k.validity = .holding
    ∃ t : State, exec (.readingArrival bus f) s = .next t
      ∧ t = { s with pos := t.pos, hand := { s.hand with
          toZt := t.hand.toZt, toAsu := t.hand.toAsu, toMsu := t.hand.toMsu, validity := t.hand.validity
          causes := t.hand.causes, demandEvents := t.hand.demandEvents, postings := t.hand.postings } }
      ∧ t.pos.reader a role = ⟨some f.sequence, some f.position, some (if f.status = .warn then .warn else .ok),
          f.status == .warn, true⟩
      ∧ (∀ a' role', a' ≠ a ∨ role' ≠ role → t.pos.reader a' role' = s.pos.reader a' role')
      ∧ (∀ a', a' ≠ a → t.pos.axes.get a' = s.pos.axes.get a')
      ∧ (∀ q, q ≠ m → t.pos.movers.get q = s.pos.movers.get q)
      ∧ (¬ compared → t.pos.axes.get a = w)
      ∧ (compared → ¬ fails → t.pos.axes.get a = { w with freshCheck := false, discrepancies := 0 })
      ∧ (compared → fails → k.discrepancies < 2 →
        t.pos.axes.get a = { w with freshCheck := false, discrepancies := k.discrepancies + 1 })
      ∧ (compared → fails → 2 ≤ k.discrepancies → t.pos.axes.get a = { w with freshCheck := false, discrepancies := 0 }
        ∧ t.hand.causes = s.hand.causes ++ [⟨.readerDiscrepancy, .one m,
            { CauseData.nothing with
              axis := some a, lead := (t.pos.movers.get m).lead, primary := some f.position
              check := (s.pos.check.get a).lastPosition, speed := some w.speed }⟩])
      ∧ (¬ compared ∨ ¬ fails ∨ k.discrepancies < 2 → t.hand.causes = s.hand.causes)
      ∧ t.hand.validity = s.hand.validity ++ (if k.validity = w.validity then [] else [⟨a, k.validity, w.validity⟩])
      ∧ t.hand.postings = s.hand.postings
        ++ (if f.status = .warn ∧ (s.pos.reader a role).warnRun = false then
          [⟨.pos, [ownerOf m, .venue], ⟨.readerDegraded, 4, .mover m, f.address⟩⟩] else [])
      ∧ (¬ accepted → t.pos.movers = s.pos.movers ∧ t.hand.toZt = s.hand.toZt ∧ t.hand.toAsu = s.hand.toAsu
        ∧ t.hand.toMsu = s.hand.toMsu ∧ t.hand.demandEvents = s.hand.demandEvents)
      ∧ (accepted → ∃ u : PositionUpdate, t.hand.toZt = s.hand.toZt ++ [u] ∧ t.hand.toAsu = s.hand.toAsu ++ [u]
        ∧ t.hand.toMsu = s.hand.toMsu ++ [u] ∧ t.hand.demandEvents = s.hand.demandEvents ++ [.bodyChange u]
        ∧ u = { mover := m, axis := a
                first := (s.pos.movers.get m).body.isNone && (t.pos.movers.get m).body.isSome
                axes := (axesOf m).map fun x => ⟨x, (t.pos.axes.get x).position, (t.pos.axes.get x).speed,
                  (t.pos.axes.get x).validity, decide ((t.pos.axes.get x).standstillCount = 5)⟩
                body := (t.pos.movers.get m).body, lead := (t.pos.movers.get m).lead
                furthest := (t.pos.movers.get m).furthest, speed := (t.pos.movers.get m).speed
                standstill := (t.pos.movers.get m).standstill }
        ∧ (t.pos.movers.get m).speed
          = greatest ((axesOf m).map fun x => max (t.pos.axes.get x).speed (-(t.pos.axes.get x).speed))
        ∧ ((t.pos.movers.get m).standstill = true ↔ ∀ x ∈ axesOf m, (t.pos.axes.get x).standstillCount = 5)
        ∧ (t.pos.positions m = none → (t.pos.movers.get m).body = (s.pos.movers.get m).body
          ∧ (t.pos.movers.get m).lead = (s.pos.movers.get m).lead)
        ∧ ∀ xs, t.pos.positions m = some xs →
          (t.pos.movers.get m).body = some ⟨least xs - g.length - g.bodyMargin, greatest xs + g.bodyMargin⟩
            ∧ (s.directionOf m = .south → (t.pos.movers.get m).lead = some (greatest xs))
            ∧ (s.directionOf m = .north → (t.pos.movers.get m).lead = some (least xs - g.length))
            ∧ (∀ x l, (s.pos.movers.get m).furthest = some x → (t.pos.movers.get m).lead = some l →
              (t.pos.movers.get m).furthest = some (if (s.moverState m = .permitted ∨ s.moverState m = .stopping)
                ∧ x * (s.directionOf m).sign < l * (s.directionOf m).sign then l else x)))

/-! ## Operating states, arming and the safety lines (chapter 9) -/

/-- R137: ARM is settled by the device state, then the loop, the axes, the braces and the movers; where nothing
refuses it the device goes to Arming and the relay test begins with relay 1 in its close phase, which a readback that
already shows closed passes at once (R138). A readback timer that runs as the test begins runs on (log 37). -/
def Obligations.ArmBeginsTheRelayTest : Prop :=
  ∀ (s : State) p r, s.Served p r .arm →
    let answers := fun o => exec .arm s = .next (s.answered p r ⟨o, false, []⟩)
    let open2 := (s.slu.channels.get .a).raw = false ∨ (s.slu.channels.get .b).raw = false ∨ s.slu.loop ≠ .closed
    let reader3 := ∃ a, (s.pos.axes.get a).validity ≠ .valid
    let stalled4 := s.braceState .east = .stalled ∨ s.braceState .west = .stalled
    let tripped5 := ∃ m, s.moverState m = .tripped
    (s.dsu.state = .arming → answers .inProgress) ∧ (s.dsu.state = .armed → answers .done)
      ∧ (s.dsu.state = .unconfigured ∨ s.dsu.state = .configuring ∨ s.dsu.state = .disarming → answers .state)
      ∧ (s.dsu.state = .standby → (open2 → answers .loopOpen)
        ∧ (¬ open2 → (reader3 → answers .reader)
          ∧ (¬ reader3 → (stalled4 → answers .braceState)
            ∧ (¬ stalled4 → (tripped5 → answers .state)
              ∧ (¬ tripped5 → ∀ c, (s.msu.get .p1).readbackClosed = c →
                let t := (s.takeHead p).changeDevice .arming
                exec .arm s = .next ({ t with
                  msu := t.msu.set .p1 { s.msu.get .p1 with relayClosed := !c }
                  dsu := { t.dsu with armingStep := some (.p1, if c then .open else .close), stepTimer := true } }.reply p
                    r.tag ⟨.done, false, []⟩))))))

/-- R104, R138, R139: the relay test. A readback that shows the commanded state passes the phase, at once where it
already shows it as the phase begins; the step timer's expiry fails it; the pass of the Tray's open phase arms the
device and flips the check token; a validity change out of Valid fails Arming. At any other time the contact only sets
the readback, in a part held in reset too (log 10). The validity change taken is its axis's oldest in flight (log 1).
A readback timer that runs as a phase begins runs on (log 37); the open command of an Arming that ends otherwise than
by the test starts it where the relay was commanded closed, and not in the open phase, whose command it repeats (log
36). -/
def Obligations.RelayTestPassesAndFails : Prop :=
  (∀ (s : State) (m : Mover) (level : Bool),
    let s1 := s.setMover m { s.msu.get m with readbackClosed := level }
    (s.slu.heldInReset = true ∨ s.dsu.armingStep ≠ some (m, if level then .close else .open) →
        exec (.readbackContactChange m level) s = .next s1)
      ∧ (s.slu.heldInReset = false → s.dsu.armingStep = some (m, .close) → level = true →
        exec (.readbackContactChange m level) s = .next { s1 with
          msu := s.msu.set m { s.msu.get m with readbackClosed := true, relayClosed := false }
          dsu := { s.dsu with armingStep := some (m, .open), stepTimer := true } })
      ∧ (∀ n c, s.slu.heldInReset = false → s.dsu.armingStep = some (m, .open) → level = false →
        moverNumber n = moverNumber m + 1 → (s.msu.get n).readbackClosed = c →
        exec (.readbackContactChange m level) s = .next { s1 with
          msu := s1.msu.set n { s.msu.get n with relayClosed := !c }
          dsu := { s.dsu with armingStep := some (n, if c then .open else .close), stepTimer := true } })
      ∧ (s.slu.heldInReset = false → s.dsu.armingStep = some (.tray, .open) → m = .tray → level = false →
        exec (.readbackContactChange m level) s = .next ({ s1 with
          dsu := { s.dsu with armingStep := none, stepTimer := false, token := !s.dsu.token } }.changeDevice .armed)))
    ∧ (∀ s : State, s.slu.heldInReset = false →
      let ended : State → Mover → State := fun t m => { t with
        msu := t.msu.set m { t.msu.get m with
          relayClosed := false, readbackTimer := (t.msu.get m).readbackTimer || (t.msu.get m).relayClosed }
        dsu := { t.dsu with armingStep := none, stepTimer := false } }
      (s.dsu.stepTimer = false → exec .stepTimerExpiry s = .next s)
        ∧ (∀ m, s.dsu.stepTimer = true → s.dsu.armingStep = some (m, .close) → exec .stepTimerExpiry s
          = .next (((ended s m).changeDevice .standby).post .dsu [.venue]
            ⟨.armingFailed, 4, .absent, moverNumber m⟩))
        ∧ (∀ m, s.dsu.stepTimer = true → s.dsu.armingStep = some (m, .open) → exec .stepTimerExpiry s
          = .next (((s.handFault ⟨.relayStuck, none, some m, none, CauseData.nothing⟩).post .dsu [.venue]
            ⟨.armingFailed, 4, .absent, 10 + moverNumber m⟩).enterLocked .relayStuck))
        ∧ ∀ a v rest, Taken (fun x : ValidityChange => x.axis == a) 0 s.hand.validity v rest →
          let s0 := { s with hand := { s.hand with validity := rest } }
          (s.dsu.state ≠ .arming ∨ v.before ≠ .valid ∨ v.after = .valid → exec (.validityChange a) s = .next s0)
            ∧ ∀ m ph, s.dsu.state = .arming → s.dsu.armingStep = some (m, ph) → v.before = .valid → v.after ≠ .valid →
              exec (.validityChange a) s = .next (((ended s0 m).changeDevice .standby).post .dsu
                [.venue] ⟨.armingFailed, 4, .absent, 20 + axisNumber a⟩))

/-- R136, R140, R141, R121, R123: what a change of device state to any state but Locked hands on and posts; STANDBY by
the device state and the end of Disarming; PERMITS. The change of mover state taken is the oldest in flight (log 1); a
PERMITS whose body spells neither form is served as the first form (log 18); the open command of a STANDBY in the relay
test starts a readback check in the close phase, and repeats the phase's command in the open phase (log 36). -/
def Obligations.DeviceLeavesArmedAndPermits : Prop :=
  (∀ (s : State) (d : DeviceState), d ≠ .locked → s.changeDevice d = { s with
      dsu := { s.dsu with state := d }
      hand := { s.hand with
        deviceChanges := s.hand.deviceChanges ++ [⟨s.dsu.state, d⟩]
        demandEvents := s.hand.demandEvents ++ [.deviceChange]
        cuts := s.hand.cuts ++ (if s.dsu.state = .armed then [.leftArmed] else [])
        postings := s.hand.postings
          ++ [⟨.dsu, [.roof, .pitch, .venue], ⟨.deviceState, 4, .absent, deviceStateNumber d⟩⟩] } })
    ∧ (∀ (s : State) p r, s.Served p r .standby →
      let moving := ∃ m, s.moverState m = .permitted ∨ s.moverState m = .stopping ∨ s.moverState m = .tripped
      let t := s.takeHead p
      (s.dsu.state = .unconfigured ∨ s.dsu.state = .configuring →
          exec .standby s = .next (s.answered p r ⟨.state, false, []⟩))
        ∧ (s.dsu.state = .standby ∨ s.dsu.state = .disarming → exec .standby s = .next (s.answered p r ⟨.done, false, []⟩))
        ∧ (∀ m ph, s.dsu.state = .arming → s.dsu.armingStep = some (m, ph) → exec .standby s
          = .next (((({ t with
              msu := s.msu.set m { s.msu.get m with
                relayClosed := false, readbackTimer := (s.msu.get m).readbackTimer || (s.msu.get m).relayClosed }
              dsu := { s.dsu with armingStep := none, stepTimer := false } }).changeDevice .standby).post .dsu [.venue]
                ⟨.armingFailed, 4, .absent, 50⟩).reply p r.tag ⟨.done, false, []⟩))
        ∧ (s.dsu.state = .armed → ¬ moving →
          exec .standby s = .next ((t.changeDevice .standby).reply p r.tag ⟨.done, false, []⟩))
        ∧ (s.dsu.state = .armed → moving → exec .standby s
          = .next (((t.changeDevice .disarming).raise ⟨.disarm, .all, CauseData.nothing⟩).reply p r.tag ⟨.done, false, []⟩)))
    ∧ (∀ (s : State) c rest, s.slu.heldInReset = false → s.hand.moverChanges = c :: rest →
      let s0 := { s with hand := { s.hand with moverChanges := rest } }
      let resting := ∀ m, s.moverState m = .parked ∨ s.moverState m = .halted
      (s.dsu.state = .disarming → resting → exec .moverStateChange s = .next (s0.changeDevice .standby))
        ∧ (s.dsu.state ≠ .disarming ∨ ¬ resting → exec .moverStateChange s = .next s0))
    ∧ ∀ (s : State) p r, s.Served p r .permits →
      (r.body = [0] → exec .permitsOff s = .next (({ s.takeHead p with dsu := { s.dsu with permits := false } }.raise
          ⟨.permitsOff, .all, CauseData.nothing⟩).reply p r.tag ⟨.done, false, []⟩))
        ∧ (r.body = [1] → exec .permitsOn s
          = .next ({ s.takeHead p with dsu := { s.dsu with permits := true } }.reply p r.tag ⟨.done, false, []⟩))
        ∧ ∀ v, r.body = [v] → v ≠ 0 → v ≠ 1 → exec .permitsOff s = .next (s.answered p r ⟨.badRequest, false, []⟩)

/-- R143: a change of a channel's raw level starts its filter timer; at the expiry the filtered state takes the raw
level and the loop state follows the two filtered states; the discrepancy timer's expiry opens a Discrepant loop with
the mark. While the reset line holds the part only the level moves (log 10). -/
def Obligations.LoopStateFollowsChannels : Prop :=
  ∀ (s : State) (c : LoopChannel) (level : Bool),
    let k := s.slu.channels.get c
    let raw := fun timer => ({ s with slu := { s.slu with channels := s.slu.channels.set c ⟨level, k.filtered, timer⟩ } } : State)
    (k.raw = level → exec (.loopChannelChange c level) s = .next s)
      ∧ (k.raw ≠ level → s.slu.heldInReset = false → exec (.loopChannelChange c level) s = .next (raw true))
      ∧ (k.raw ≠ level → s.slu.heldInReset = true → exec (.loopChannelChange c level) s = .next (raw k.timer))
      ∧ (s.slu.heldInReset = false →
        (k.timer = false → exec (.loopFilterExpiry c) s = .next s)
          ∧ (k.timer = true →
            let u : State := { s with slu := { s.slu with channels := s.slu.channels.set c ⟨k.raw, k.raw, false⟩ } }
            let other := (s.slu.channels.get (if c = .a then .b else .a)).filtered
            let act := exec (.loopFilterExpiry c) s
            (k.raw = true → other = true → act = .next { u with slu := { u.slu with
                loop := .closed, discrepancyTimer := s.slu.discrepancyTimer && decide (s.slu.loop ≠ .discrepant) } })
              ∧ (s.slu.loop = .closed → k.raw ≠ other → s.dsu.state ≠ .arming →
                act = .next { u with slu := { u.slu with loop := .discrepant, discrepancyTimer := true } })
              ∧ (s.slu.loop = .closed → k.raw ≠ other → s.dsu.state = .arming → act = .next (u.openLoop false))
              ∧ (s.slu.loop ≠ .opened → k.raw = false → other = false → act = .next (u.openLoop false))
              ∧ (s.slu.loop = .discrepant → k.raw ≠ other → act = .next u)
              ∧ (s.slu.loop = .opened → k.raw = false ∨ other = false → act = .next u))
          ∧ (s.slu.discrepancyTimer = false → exec .discrepancyTimerExpiry s = .next s)
          ∧ (s.slu.discrepancyTimer = true → s.slu.loop = .discrepant →
            exec .discrepancyTimerExpiry s = .next (s.openLoop true)))

/-- R144, R139, R145: a loop opening in Arming, Armed or Disarming raises SAFETY LOOP with its mark, switches the
brace outputs off, hands BRC the opening, takes the device to Standby and posts E-STOP; elsewhere it changes the loop
state alone. A drive-trip input's filtered change to active raises DRIVE TRIP against its mover. While the reset line
holds the part only the level moves (log 10); the open command of an opening in the relay test starts a readback check
in the close phase, and repeats the phase's command in the open phase (log 36). -/
def Obligations.LoopOpeningsAndDriveTripsAct : Prop :=
  (∀ (s : State) (mark : Bool),
    let u : State := { s with slu := { s.slu with loop := .opened, discrepancyTimer := false } }
    let off : BraceRec → BraceRec := fun b => { b with engageOutput := false, withdrawOutput := false }
    let v : State := { u with
      brc := { s.brc with braces := ⟨off s.brc.braces.east, off s.brc.braces.west⟩ }
      hand := { s.hand with
        causes := s.hand.causes ++ [⟨.safetyLoop, .all, { CauseData.nothing with discrepancyMark := mark }⟩]
        cuts := s.hand.cuts ++ [.loopOpening] } }
    let stop : Notice := ⟨.eStop, 7, .absent, if mark then 2 else 1⟩
    (s.dsu.state ≠ .arming → s.dsu.state ≠ .armed → s.dsu.state ≠ .disarming → s.openLoop mark = u)
      ∧ (s.dsu.state = .armed ∨ s.dsu.state = .disarming →
        s.openLoop mark = (v.changeDevice .standby).post .slu [.roof, .pitch, .venue] stop)
      ∧ ∀ m ph, s.dsu.state = .arming → s.dsu.armingStep = some (m, ph) →
        s.openLoop mark = ((({ v with
          msu := s.msu.set m { s.msu.get m with
            relayClosed := false, readbackTimer := (s.msu.get m).readbackTimer || (s.msu.get m).relayClosed }
          dsu := { s.dsu with armingStep := none, stepTimer := false } }).changeDevice .standby).post .dsu [.venue]
            ⟨.armingFailed, 4, .absent, 40⟩).post .slu [.roof, .pitch, .venue] stop)
    ∧ ∀ (s : State) (m : Mover) (level : Bool),
      let k := s.slu.trips.get m
      let u : State := { s with slu := { s.slu with trips := s.slu.trips.set m ⟨k.raw, k.raw, false⟩ } }
      (k.raw = level → exec (.driveTripInputChange m level) s = .next s)
        ∧ (k.raw ≠ level → exec (.driveTripInputChange m level) s
          = .next { s with slu := { s.slu with trips := s.slu.trips.set m ⟨level, k.filtered, k.timer || !s.slu.heldInReset⟩ } })
        ∧ (s.slu.heldInReset = false → k.timer = false → exec (.driveTripFilterExpiry m) s = .next s)
        ∧ (s.slu.heldInReset = false → k.timer = true → k.raw = false ∨ k.filtered = true →
          exec (.driveTripFilterExpiry m) s = .next u)
        ∧ (s.slu.heldInReset = false → k.timer = true → k.raw = true → k.filtered = false →
          exec (.driveTripFilterExpiry m) s = .next (u.raise ⟨.driveTrip, .one m, CauseData.nothing⟩))

/-! ## The portal braces (chapter 7) -/

/-- R114 to R117: the settlement of BRACE in order, and the start of an operation: a brace already at the target
completes at once, each other one is driven, one output at a time, with its timer started. The holds, clearings and
bodies are those of the Zone Table, the bodies as ZT last took them (R56, log 14), and the wind is that of WM. -/
def Obligations.BraceRequestsStartOperations : Prop :=
  (∀ (s : State) p r, s.Served p r .brace →
    let answers := fun o => exec (requestRow r) s = .next (s.answered p r ⟨o, false, []⟩)
    (s.dsu.state ≠ .armed → answers .notArmed)
      ∧ (s.dsu.state = .armed → fieldAt r.body 0 ≠ 1 → fieldAt r.body 0 ≠ 2 → answers .badRequest)
      ∧ ∀ d : BraceDirection, s.dsu.state = .armed → fieldAt r.body 0 = braceDirectionNumber d →
        let act := exec (match d with | .engage => Instr.braceEngage | .withdraw => .braceWithdraw) s
        let target := targetState d
        let refused := fun o => act = .next (s.answered p r ⟨o, false, []⟩)
        let bodies := fun (t : State) => byteField (braceDirectionNumber d) ++ byteField (braceStateNumber (t.braceState .east))
          ++ byteField (braceStateNumber (t.braceState .west))
        let stalled := s.braceState .east = .stalled ∨ s.braceState .west = .stalled
        let there := s.braceState .east = target ∧ s.braceState .west = target
        let panelOver := ∃ m ∈ panels, ∃ z ∈ s.zt.runway,
          z.need = .engaged ∧ bodyOverlaps (s.zt.body.get m) z = true
        let occupied := ∃ q : Path, ∃ z ∈ s.zt.zones q, z.need = .withdrawn
          ∧ (z.holder ≠ none ∨ z.clearingFor ≠ none ∨ (q = .tray ∧ bodyOverlaps (s.zt.body.get .tray) z = true))
        let parking := ∃ q : Path, ∃ z ∈ s.zt.zones q, z.need = .engaged ∧ (z.holder ≠ none ∨ z.clearingFor ≠ none)
        let windy := panelOver ∧ (s.wm.state = .unknown ∨ s.cs.active.general.braceFreeMean ≤ s.wm.mean
          ∨ s.cs.active.general.braceFreeGust ≤ s.wm.gust)
        (s.brc.operation = some d → refused .inProgress)
          ∧ (∀ x, s.brc.operation = some x → x ≠ d →
            act = .next (s.answered p r ⟨.busy, false, byteField (braceDirectionNumber x)⟩))
          ∧ (s.brc.operation = none → (stalled → refused .state)
            ∧ (¬ stalled → (there → act = .next (s.answered p r ⟨.done, false, bodies s⟩))
              ∧ (¬ there → (d = .engage → occupied → refused .portalOccupied)
                ∧ (d = .withdraw → (parking → refused .parkingInUse)
                  ∧ (¬ parking → (windy → refused .wind) ∧ (¬ windy → s.brc.demand = true → refused .braceDemand)))
                ∧ ((d = .engage ∧ ¬ occupied) ∨ (d = .withdraw ∧ ¬ parking ∧ ¬ windy ∧ s.brc.demand = false) →
                  let t := (s.takeHead p).startOperation d s.brc.startPending
                  act = .next (t.reply p r.tag ⟨.done, false, bodies t⟩))))))
    ∧ ∀ (s : State) (d : BraceDirection) (sp : Bool),
      let t := s.startOperation d sp
      let arrived := fun x => (s.brc.braces.get x).reading = targetReading d
      let both := arrived .east ∧ arrived .west
      (∀ x, (arrived x → t.brc.braces.get x = { s.brc.braces.get x with
            state := targetState d, engageOutput := false, withdrawOutput := false, timer := .stopped })
          ∧ (¬ arrived x → t.brc.braces.get x = { s.brc.braces.get x with
            state := movingState d, engageOutput := decide (d = .engage), withdrawOutput := decide (d = .withdraw)
            timer := .running s.cs.active.general.braceTimeLimit }))
        ∧ t.brc.startPending = sp ∧ t.brc.demand = s.brc.demand
        ∧ (both → t.brc.operation = none
          ∧ t.hand = { s.hand with
              demandEvents := s.hand.demandEvents ++ [.braceChange, .braceChange]
              postings := s.hand.postings
                ++ [⟨.brc, [.roof, .pitch, .venue], ⟨.braceDone, 3, .absent, braceDirectionNumber d⟩⟩] })
        ∧ (¬ both → t.brc.operation = some d
          ∧ t.hand = { s.hand with demandEvents := s.hand.demandEvents ++ [.braceChange] })
        ∧ t = { s with brc := t.brc, hand := t.hand }

/-- R112, R113, R118, R122: a brace's end switches change. At rest a brace takes a known reading or is lost, BRACE
LOST naming the moving movers over or holding a zone of the need it met; in an operation a moving brace completes at
its target and a completed one that leaves it is driven again; a withdraw that ends with an engage owed starts it where
the device is Armed and the ENGAGE conditions hold, and else it stays owed (R118, R124). The scope and the ENGAGE
conditions go by the bodies ZT last took (log 14); while the reset line holds the part only the switches move (log
10). -/
def Obligations.BraceFollowsItsSwitches : Prop :=
  ∀ (s : State) (x : Brace) (e w : Bool),
    let k := s.brc.braces.get x
    let s1 := s.setSwitches x e w
    let r : BraceRec := { k with engagedSwitch := e, withdrawnSwitch := w }
    let act := exec (.braceSwitchChange x e w) s
    let still : BraceState → BraceRec := fun st =>
      { r with state := st, engageOutput := false, withdrawOutput := false, timer := .stopped }
    s1 = { s with brc := { s.brc with braces := s.brc.braces.set x r } }
      ∧ (s.slu.heldInReset = true → act = .next s1)
      ∧ (s.slu.heldInReset = false → s.brc.operation = none →
        (k.state = .unknown → r.reading = .engaged ∨ r.reading = .withdrawn →
            act = .next ((s1.setBrace x { r with state := if r.reading = .engaged then .engaged else .withdrawn }).handDemand
              .braceChange))
          ∧ (k.state = .unknown → r.reading = .between ∨ r.reading = .conflict → act = .next s1)
          ∧ (k.state = .stalled → act = .next s1)
          ∧ ((k.state = .engaged ∧ r.reading = .engaged) ∨ (k.state = .withdrawn ∧ r.reading = .withdrawn) → act = .next s1)
          ∧ ∀ need : BraceNeed, (k.state = .engaged ∧ r.reading ≠ .engaged ∧ need = .engaged)
              ∨ (k.state = .withdrawn ∧ r.reading ≠ .withdrawn ∧ need = .withdrawn) →
            let lost := allMovers.filter fun m =>
              (s.moverState m == .permitted || s.moverState m == .stopping || s.moverState m == .tripped)
                && (s.zt.zones (pathOf m)).any fun z =>
                  z.need == need && (bodyOverlaps (s.zt.body.get m) z || z.holder == some m)
            let s2 := (((s1.raise ⟨.braceLost, .named lost, { CauseData.nothing with
              brace := some x, lost := some k.state }⟩).handSwitchLoss x).setBrace x (still .unknown)).handDemand .braceChange
            (r.reading = .between ∨ r.reading = .conflict → act = .next s2)
              ∧ (r.reading = .engaged ∨ r.reading = .withdrawn → act = .next ((s2.setBrace x
                (still (if r.reading = .engaged then .engaged else .withdrawn))).handDemand .braceChange)))
      ∧ ∀ d, s.slu.heldInReset = false → s.brc.operation = some d →
        (k.state = movingState d → r.reading ≠ targetReading d → act = .next s1)
          ∧ (k.state = targetState d → r.reading = targetReading d → act = .next s1)
          ∧ (k.state = targetState d → r.reading ≠ targetReading d → act = .next (s1.setBrace x { r with
            state := movingState d, engageOutput := decide (d = .engage), withdrawOutput := decide (d = .withdraw)
            timer := .running s.cs.active.general.braceTimeLimit }))
          ∧ (k.state = movingState d → r.reading = targetReading d →
            (s.braceState (otherBrace x) ≠ targetState d → act = .next (s1.setBrace x (still (targetState d))))
              ∧ (s.braceState (otherBrace x) = targetState d → d = .engage ∨ s.brc.startPending = false →
                let s2 := s1.setBrace x (still (targetState d))
                act = .next (({ s2 with brc := { s2.brc with operation := none } }.post .brc [.roof, .pitch, .venue]
                  ⟨.braceDone, 3, .absent, braceDirectionNumber d⟩).handDemand .braceChange))
              ∧ (s.braceState (otherBrace x) = targetState d → d = .withdraw → s.brc.startPending = true →
                let s2 := s1.setBrace x (still (targetState d))
                let s3 := ({ s2 with brc := { s2.brc with operation := none } }.post .brc [.roof, .pitch, .venue]
                  ⟨.braceDone, 3, .absent, 2⟩).handDemand .braceChange
                let barred := s.dsu.state ≠ .armed ∨ ∃ q : Path, ∃ z ∈ s.zt.zones q, z.need = .withdrawn
                  ∧ (z.holder ≠ none ∨ z.clearingFor ≠ none ∨ (q = .tray ∧ bodyOverlaps (s.zt.body.get .tray) z = true))
                (barred → act = .next s3) ∧ (¬ barred → act = .next (s3.startOperation .engage false))))

/-- R119 to R121: the expiry of an operation timer stalls every brace that has not completed, posts BRACE STALLED and
hands the fault record the stall for each, with the brace, both brace states, the wind mean and the gust; an operation
cut short leaves such a brace where its switches show it; BRACE CLEAR releases the Stalled braces it names, one brace
change each. That a cut is one brace change with the re-readings it brings (log 39), and that East's stall is posted
and handed on before West's (log 40), are the model's choices. The cut taken is the oldest in flight (log 1); that the
record reads its own wind and brace fields at the capture, not from the hand-over, is the model's reading (log 29). -/
def Obligations.OperationsStopAndStallsClear : Prop :=
  (∀ (s : State) (x : Brace), s.slu.heldInReset = false →
    ((s.brc.braces.get x).timer.isRunning = false → exec (.operationTimerExpiry x) s = .next s)
      ∧ ∀ d, (s.brc.braces.get x).timer.isRunning = true → s.brc.operation = some d →
        let done : Brace → Prop := fun y => (s.brc.braces.get y).state = targetState d
        ∃ t, exec (.operationTimerExpiry x) s = .next t ∧ t = { s with brc := t.brc, hand := t.hand }
          ∧ t.brc.operation = none ∧ t.brc.startPending = s.brc.startPending ∧ t.brc.demand = s.brc.demand
          ∧ (∀ y, ∃ st, t.brc.braces.get y = { s.brc.braces.get y with
              state := st, engageOutput := false, withdrawOutput := false, timer := .stopped }
            ∧ (done y → st = targetState d) ∧ (¬ done y → st = .stalled))
          ∧ ∃ ys : List Brace, ys.Sublist [.east, .west] ∧ (∀ y, y ∈ ys ↔ ¬ done y)
            ∧ t.hand = { s.hand with
              demandEvents := s.hand.demandEvents ++ [.braceChange]
              postings := s.hand.postings ++ ys.map fun y => ⟨.brc, [.roof, .pitch, .venue],
                ⟨.braceStalled, 6, .brace y, braceDirectionNumber d⟩⟩
              faults := s.hand.faults ++ ys.map fun y => ⟨.braceStalled, none, none, none,
                { CauseData.nothing with
                  brace := some y, braceStates := some (t.braceState .east, t.braceState .west)
                  wind := some (s.wm.mean, s.wm.gust) }⟩ })
    ∧ (∀ (s : State) c rest, s.slu.heldInReset = false → s.hand.cuts = c :: rest →
      let s0 := { s with hand := { s.hand with cuts := rest } }
      (s.brc.operation = none → exec .cutShort s = .next s0)
        ∧ ∀ d, s.brc.operation = some d → ∃ t, exec .cutShort s = .next t ∧ t = { s0 with brc := t.brc, hand := t.hand }
          ∧ t.hand = { s0.hand with demandEvents := s.hand.demandEvents ++ [.braceChange] }
          ∧ t.brc.operation = none ∧ t.brc.startPending = s.brc.startPending ∧ t.brc.demand = s.brc.demand
          ∧ ∀ y, ∃ st, t.brc.braces.get y = { s.brc.braces.get y with
              state := st, engageOutput := false, withdrawOutput := false, timer := .stopped }
            ∧ ((s.brc.braces.get y).state = targetState d → st = targetState d)
            ∧ ((s.brc.braces.get y).state ≠ targetState d →
              ((s.brc.braces.get y).reading = .engaged → st = .engaged)
                ∧ ((s.brc.braces.get y).reading = .withdrawn → st = .withdrawn)
                ∧ ((s.brc.braces.get y).reading = .between ∨ (s.brc.braces.get y).reading = .conflict → st = .unknown)))
    ∧ ∀ (s : State) p r v, s.Served p r .braceClear → r.body = [v] →
      (2 < v.toNat → exec .braceClear s = .next (s.answered p r ⟨.badRequest, false, []⟩))
        ∧ (v.toNat ≤ 2 → ∃ t : State, exec .braceClear s = .next (t.reply p r.tag
            ⟨.done, false, byteField (braceStateNumber (t.braceState .east)) ++ byteField (braceStateNumber (t.braceState .west))⟩)
          ∧ t = { s.takeHead p with
              brc := { s.brc with braces := t.brc.braces }
              hand := { s.hand with demandEvents := s.hand.demandEvents ++ (([.east, .west] : List Brace).filter fun y =>
                s.braceState y == .stalled && (v.toNat == 0 || v.toNat == braceNumber y)).map fun _ => .braceChange } }
          ∧ ∀ y, ((s.braceState y ≠ .stalled ∨ (v.toNat ≠ 0 ∧ v.toNat ≠ braceNumber y)) →
              t.brc.braces.get y = s.brc.braces.get y)
            ∧ (s.braceState y = .stalled → v.toNat = 0 ∨ v.toNat = braceNumber y →
              t.brc.braces.get y = { s.brc.braces.get y with
                state := match (s.brc.braces.get y).reading with
                  | .engaged => .engaged
                  | .withdrawn => .withdrawn
                  | .between | .conflict => .unknown }))

/-- R123, R124: the test of the brace demand. A clear flag is set where the condition holds, with BRACE DEMAND to all
stations; a set flag clears when both braces are Engaged or no panel stands over a zone needing Engaged; while it
stands an engage starts as soon as nothing bars it, and is owed until then. The event taken is the oldest in flight of
the source the command names (log 1); a position update waits while a report of ZT is in flight (R125, log 38). For
the panels a position update's test goes by the body it hands over, and a closure's goes by the mean, gust and state
it hands over; all else is as the Zone Table and WM hold it (R56, log 14). -/
def Obligations.DemandIsTestedAndServed : Prop :=
  ∀ (s : State) (src : DemandSource) (ev : DemandEvent) rest, s.slu.heldInReset = false →
    Taken (fun x : DemandEvent => x.source == src) 0 s.hand.demandEvents ev rest →
    let s0 := { s with hand := { s.hand with demandEvents := rest } }
    let body : Mover → Option Extent := fun m =>
      match ev with
      | .bodyChange u => if m = u.mover then u.body else s.zt.body.get m
      | .closure _ _ _ | .braceChange | .holdReport | .deviceChange | .commit => s.zt.body.get m
    let wind : Int × Int × WindState :=
      match ev with
      | .closure mean gust st => (mean, gust, st)
      | .bodyChange _ | .braceChange | .holdReport | .deviceChange | .commit => (s.wm.mean, s.wm.gust, s.wm.state)
    let panelOver := ∃ m ∈ panels, ∃ z ∈ s.zt.runway, z.need = .engaged ∧ bodyOverlaps (body m) z = true
    let engaged := s.braceState .east = .engaged ∧ s.braceState .west = .engaged
    let windy := wind.2.2 = .unknown ∨ s.cs.active.general.braceFreeMean ≤ wind.1
      ∨ s.cs.active.general.braceFreeGust ≤ wind.2.1
    let barred := s.dsu.state ≠ .armed ∨ s.braceState .east = .stalled ∨ s.braceState .west = .stalled
      ∨ ∃ q : Path, ∃ z ∈ s.zt.zones q, z.need = .withdrawn
        ∧ (z.holder ≠ none ∨ z.clearingFor ≠ none ∨ (q = .tray ∧ bodyOverlaps (s.zt.body.get .tray) z = true))
    let act := exec (.demandConditionTest src) s
    let waits := (∃ m, src = .bodyChange m) ∧ DemandEvent.holdReport ∈ s.hand.demandEvents
    let u : State :=
      if s.brc.demand then s0
      else { s0 with brc := { s.brc with demand := true } }.post .brc [.roof, .pitch, .venue]
        ⟨.braceDemand, 6, .absent, wind.1⟩
    let stands := panelOver ∧ ¬ engaged ∧ (s.brc.demand = true ∨ windy)
    (waits → act = .next s)
      ∧ (¬ waits → (s.brc.demand = false → ¬ (panelOver ∧ ¬ engaged ∧ windy) → act = .next s0)
        ∧ (s.brc.demand = true → engaged ∨ ¬ panelOver →
          act = .next { s0 with brc := { s.brc with demand := false, startPending := false } })
        ∧ (stands → s.brc.operation = some .engage → act = .next u)
        ∧ (stands → s.brc.operation = some .withdraw →
          act = .next { u with brc := { s.brc with demand := true, startPending := true } })
        ∧ (stands → s.brc.operation = none → ¬ barred → act = .next (u.startOperation .engage false))
        ∧ (stands → s.brc.operation = none → barred →
          act = .next { u with brc := { s.brc with demand := true, startPending := true } }))

/-! ## Wind monitoring (chapter 8) -/

/-- R127 to R132: a pulse, and an interval closure: values, stuck counts and failed marks, the combined value and the
history, the mean and the gust, the wind state, and what is handed on. -/
def Obligations.WindClosureSettlesTheWind : Prop :=
  (∀ (s : State) x, s.slu.heldInReset = false → exec (.anemometerPulse x) s
    = .next (s.withWm { s.wm with anemometers := (s.wm.anemometers.set x
        { s.wm.anemometers.get x with count := min 65535 ((s.wm.anemometers.get x).count + 1) }) }))
    ∧ ∀ s : State, s.slu.heldInReset = false → ∃ t, exec .intervalClosure s = .next t
      ∧ t = { s with wm := t.wm, hand := t.hand }
      ∧ (∀ x, let k := s.wm.anemometers.get x
          let o := s.wm.anemometers.get (otherAnemometer x)
          let value := fun (n : Nat) => min 600 ((n : Int) * 10 / s.cs.active.general.calibration)
          (k.count ≠ 0 → t.wm.anemometers.get x = ⟨0, value k.count, 0, false⟩)
            ∧ (k.count = 0 → 30 ≤ value o.count ∨ o.failed = true → t.wm.anemometers.get x
              = ⟨0, value 0, min 30 (k.stuck + 1), k.failed || decide (30 ≤ k.stuck + 1)⟩)
            ∧ (k.count = 0 → value o.count < 30 → o.failed = false → t.wm.anemometers.get x = ⟨0, value 0, 0, k.failed⟩))
      ∧ (let f := t.wm.anemometers.get .first
          let g := t.wm.anemometers.get .second
          (f.failed = true → g.failed = true → t.wm.history = [])
            ∧ ∀ w, (f.failed = false ∧ g.failed = false ∧ w = max f.value g.value)
                ∨ (f.failed = true ∧ g.failed = false ∧ w = g.value) ∨ (f.failed = false ∧ g.failed = true ∧ w = f.value) →
              (s.wm.history.length < 60 → t.wm.history = s.wm.history ++ [w])
                ∧ (60 ≤ s.wm.history.length → t.wm.history = (s.wm.history ++ [w]).drop 1))
      ∧ (t.wm.history = [] → t.wm.mean = 0 ∧ t.wm.gust = 0)
      ∧ (t.wm.history ≠ [] → t.wm.mean = t.wm.history.sum / (t.wm.history.length : Int)
        ∧ t.wm.gust ∈ t.wm.history.drop (t.wm.history.length - 3)
        ∧ ∀ w ∈ t.wm.history.drop (t.wm.history.length - 3), w ≤ t.wm.gust)
      ∧ (let g := s.cs.active.general
          let short := t.wm.history.length < 10
            ∨ ((t.wm.anemometers.get .first).failed = true ∧ (t.wm.anemometers.get .second).failed = true)
          let limit := g.limitMean ≤ t.wm.mean ∨ g.limitGust ≤ t.wm.gust
          let release := t.wm.mean < g.releaseMean ∧ t.wm.gust < g.releaseGust
          let becomes := fun (st : WindState) (n : Nat) => t.wm.state = st ∧ t.wm.calmCount = n
          (short → becomes .unknown 0)
            ∧ (¬ short → (s.wm.state ≠ .limit → limit → becomes .limit 0)
              ∧ (s.wm.state = .unknown ∨ s.wm.state = .calm → ¬ limit →
                (g.reducedThreshold ≤ t.wm.mean → becomes .reduced 0) ∧ (t.wm.mean < g.reducedThreshold → becomes .calm 0))
              ∧ (s.wm.state = .reduced → ¬ limit →
                (t.wm.mean < g.calmThreshold → becomes .calm 0) ∧ (g.calmThreshold ≤ t.wm.mean → becomes .reduced 0))
              ∧ (s.wm.state = .limit → ¬ release → becomes .limit 0)
              ∧ (s.wm.state = .limit → release →
                ((s.wm.calmCount : Int) + 1 < g.releaseCount → becomes .limit (s.wm.calmCount + 1))
                  ∧ (g.releaseCount ≤ (s.wm.calmCount : Int) + 1 →
                    (g.calmThreshold ≤ t.wm.mean → becomes .reduced 0) ∧ (t.wm.mean < g.calmThreshold → becomes .calm 0)))))
      ∧ t.hand = { s.hand with
          postings := s.hand.postings ++ (if s.wm.state = t.wm.state then [] else
            [⟨.wm, [.roof, .pitch, .venue], ⟨.windState, 4, .absent, windStateNumber t.wm.state⟩⟩])
          causes := s.hand.causes ++ (if (s.wm.state = .calm ∨ s.wm.state = .reduced)
              ∧ (t.wm.state = .limit ∨ t.wm.state = .unknown) then [⟨.windLimit, .panels, CauseData.nothing⟩] else [])
          demandEvents := s.hand.demandEvents ++ [.closure t.wm.mean t.wm.gust t.wm.state] }

/-! ## The site table (chapter 1) -/

/-- R7 to R9: CONFIG WRITE stores a value of a key into the working copy, made from the stored or the default image
where there is none, and takes the device to Configuring; key (1, 0, 0) loads the defaults. CONFIG READ returns
consecutive entries in serial order; that BAD_REQUEST goes before STATE is the model's choice (log 31). -/
def Obligations.ConfigWriteAndRead : Prop :=
  (∀ (s : State) p r, s.Served p r .configWrite →
    let k := keyAt r.body 0
    let v := int32At r.body 3
    let moving := ∃ m, s.moverState m = .permitted ∨ s.moverState m = .stopping ∨ s.moverState m = .tripped
    let untaken := s.dsu.state = .arming ∨ s.dsu.state = .armed ∨ s.dsu.state = .disarming
      ∨ (s.dsu.state = .standby ∧ moving)
    let copy := s.cs.working.getD (if s.cs.valid then s.cs.stored.image else defaultImage)
    let named := k ∈ serialKeys ∨ k = ⟨1, 0, 0⟩
    let written := if k = ⟨1, 0, 0⟩ then defaultImage else copy.setEntry k v
    let t : State := { s.takeHead p with cs := { s.cs with working := some written } }
    let answer : Answer := ⟨.done, false, keyField k ++ bytesOf 4 (if k = ⟨1, 0, 0⟩ then 0 else v)⟩
    (untaken → exec .configWrite s = .next (s.answered p r ⟨.state, false, []⟩))
      ∧ (¬ untaken → ¬ named → exec .configWrite s = .next (s.answered p r ⟨.badRequest, false, []⟩))
      ∧ (s.dsu.state = .configuring → named → exec .configWrite s = .next (t.reply p r.tag answer))
      ∧ (s.dsu.state = .unconfigured ∨ (s.dsu.state = .standby ∧ ¬ moving) → named →
        exec .configWrite s = .next ((t.changeDevice .configuring).reply p r.tag answer)))
    ∧ (∀ (img : Image) (k j : Key) (v : Int), k ∈ serialKeys → j ∈ serialKeys →
      (img.setEntry k v).value j = if j = k then v else img.value j)
    ∧ ∀ (s : State) p r, s.Served p r .configRead →
      let source := fieldAt r.body 0
      let k := keyAt r.body 1
      let n := fieldAt r.body 4
      let answers := fun o => exec .configRead s = .next (s.answered p r ⟨o, false, []⟩)
      let malformed := 1 < source ∨ n < 1 ∨ 10 < n ∨ k ∉ serialKeys
      (malformed → answers .badRequest) ∧ (¬ malformed → source = 1 → s.cs.working = none → answers .state)
        ∧ ∀ img before after, serialKeys = before ++ k :: after → ¬ malformed →
          (source = 0 ∧ img = s.cs.active) ∨ (source = 1 ∧ s.cs.working = some img) →
          let keys := (k :: after).take n
          exec .configRead s = .next (s.answered p r ⟨.done, false,
            keyField k ++ byteField keys.length ++ keys.flatMap fun j => bytesOf 4 (img.value j)⟩)

/-- R2, R4 to R6, R10, R11, R14: the keys of the image and their serial order; COMMIT's test of each entry, its range
and the constraints against earlier entries; normalisation; and the check value, a CRC over the entries' values in
serial order, four bytes each. -/
def Obligations.EntriesRangedNormalisedAndChecked : Prop :=
  (serialKeys.Pairwise (fun j k => j.sect < k.sect ∨ (j.sect = k.sect ∧ (j.index < k.index
      ∨ (j.index = k.index ∧ j.item < k.item))))
    ∧ ∀ k : Key, k ∈ serialKeys ↔ (k.sect = 1 ∧ k.index = 0 ∧ 1 ≤ k.item ∧ k.item ≤ 13)
      ∨ ((k.sect = 2 ∨ k.sect = 3) ∧ k.index = 0 ∧ 1 ≤ k.item ∧ k.item ≤ 2)
      ∨ ((k.sect = 4 ∨ k.sect = 5) ∧ k.index ≤ 63 ∧ 1 ≤ k.item ∧ k.item ≤ 3)
      ∨ (k.sect = 6 ∧ 1 ≤ k.index ∧ k.index ≤ 5 ∧ 1 ≤ k.item ∧ k.item ≤ 11))
    ∧ (∀ img : Image,
      let v : Nat → Nat → Nat → Int := fun a b c => img.value ⟨a, b, c⟩
      let ok : Nat → Nat → Nat → Prop := fun a b c => entryOk img ⟨a, b, c⟩ = true
      let ranged : Nat → Nat → Nat → Int → Int → Prop := fun a b c lo hi => ok a b c ↔ lo ≤ v a b c ∧ v a b c ≤ hi
      let wind : Nat → Prop → Prop := fun n also => ok 1 0 n ↔ (10 ≤ v 1 0 n ∧ v 1 0 n ≤ 600) ∧ also
      (ranged 1 0 1 5 200 ∧ ranged 1 0 2 1 50 ∧ wind 3 True ∧ wind 4 (v 1 0 4 < v 1 0 3) ∧ wind 5 (v 1 0 3 < v 1 0 5)
          ∧ wind 6 True ∧ wind 7 (v 1 0 7 < v 1 0 5) ∧ wind 8 (v 1 0 8 < v 1 0 6) ∧ wind 9 True
          ∧ wind 10 (v 1 0 10 < v 1 0 5) ∧ wind 11 (v 1 0 11 < v 1 0 6) ∧ ranged 1 0 12 500 5000 ∧ ranged 1 0 13 30 300)
        ∧ (ranged 2 0 1 2000 400000 ∧ ranged 2 0 2 1 63 ∧ ranged 3 0 1 2000 400000
          ∧ (ok 3 0 2 ↔ (1 ≤ v 3 0 2 ∧ v 3 0 2 ≤ 63) ∧ v 2 0 2 + v 3 0 2 ≤ 64))
        ∧ (∀ (q : Path) (k : Nat), k < 64 →
          let path := if q = .runway then 2 else 3
          let slot := if q = .runway then 4 else 5
          let start := if k = 0 then 0 else v slot (k - 1) 1
          (v path 0 2 ≤ k → ok slot k 1 ∧ ok slot k 2 ∧ ok slot k 3)
            ∧ (k < v path 0 2 →
              (ok slot k 1 ↔ (2000 ≤ v slot k 1 - start ∧ v slot k 1 - start ≤ 50000)
                ∧ ((k : Int) + 1 = v path 0 2 → v slot k 1 = v path 0 1))
              ∧ ranged slot k 2 5 400 ∧ ranged slot k 3 0 2))
        ∧ ∀ m : Mover,
          let i := moverNumber m
          (ok 6 i 1 ↔ (10000 ≤ v 6 i 1 ∧ v 6 i 1 ≤ 150000) ∧ v 6 i 1 < v (if m = .tray then 3 else 2) 0 1)
            ∧ ranged 6 i 2 5 200 ∧ ranged 6 i 3 10 400 ∧ ranged 6 i 4 100 2000 ∧ ranged 6 i 5 100 2000
            ∧ (ok 6 i 6 ↔ m = .tray ∨ (500 ≤ v 6 i 6 ∧ v 6 i 6 ≤ 10000))
            ∧ ranged 6 i 7 2 30 ∧ ranged 6 i 8 10 200 ∧ ranged 6 i 9 50 500 ∧ (ok 6 i 10 ↔ v 6 i 8 < v 6 i 10)
            ∧ (ok 6 i 11 ↔ v 6 i 10 < v 6 i 11 ∧ v 6 i 8 + v 6 i 9 ≤ v 6 i 11))
    ∧ (∀ (img : Image) (k : Key), k ∈ serialKeys → img.normalise.value k
      = if (k.sect = 4 ∧ img.value ⟨2, 0, 2⟩ ≤ k.index) ∨ (k.sect = 5 ∧ img.value ⟨3, 0, 2⟩ ≤ k.index) ∨ k = ⟨6, 5, 6⟩ then 0
        else img.value k)
    ∧ ∀ (img : Image) (w : List Byte) (b : Byte),
      let shift : BitVec 32 → BitVec 32 := fun r => (r >>> 1) ^^^ (if r.getLsbD 0 then 0xEDB88320#32 else 0)
      img.checkValue = crc32 (serialKeys.flatMap fun k => bytesOf 4 (img.value k))
        ∧ img.bytes = serialKeys.flatMap (fun k => bytesOf 4 (img.value k)) ∧ img.bytes.length = 1824
        ∧ ~~~ crc32 [] = 0xFFFFFFFF#32
        ∧ ~~~ crc32 (w ++ [b])
          = shift (shift (shift (shift (shift (shift (shift (shift (~~~ crc32 w ^^^ b.setWidth 32))))))))

/-- R10 to R14: COMMIT names the first entry in serial order that fails its test, or starts the storage write of the
normalised copy, its reply owed. A readback that matches makes that image stored and active and the device Standby,
and every block takes it up: bodies and leads are formed anew, in the position updates in flight too (log 16), the zone
records built anew with no ZONE FREED posted (log 33) and no report of dropped holds to BRC, which tests the demand on
the commit (log 23); one that does not leaves a store whose check fails and the device
Unconfigured (its contents are free values, log 6). -/
def Obligations.CommitValidatesAndWrites : Prop :=
  (∀ (s : State) p r, s.Served p r .commit →
    (s.dsu.state ≠ .configuring ∨ s.cs.working = none → exec .commit s = .next (s.answered p r ⟨.state, false, []⟩))
      ∧ ∀ img, s.dsu.state = .configuring → s.cs.working = some img →
        (∀ before k after, serialKeys = before ++ k :: after → (∀ j ∈ before, entryOk img j = true) → entryOk img k = false →
            exec .commit s = .next (s.answered p r ⟨.range, false, keyField k⟩))
          ∧ ((∀ k ∈ serialKeys, entryOk img k = true) → exec .commit s = .next { s.takeHead p with
            cs := { s.cs with working := some img.normalise, commit := some ⟨r.tag, crc32 img.normalise.bytes⟩ } }))
    ∧ ∀ (s : State) c img, s.slu.heldInReset = false → s.cs.commit = some c → s.cs.working = some img →
      let anew : PositionUpdate → PositionUpdate := fun u =>
        match allPresent (u.axes.map (·.position)) with
        | none => u
        | some xs => { u with
            body := some (bodyOf (img.movers.get u.mover) xs)
            lead := some (leadOf (img.movers.get u.mover) xs (s.directionOf u.mover)) }
      (∃ t : State, exec (.storageWriteComplete true) s
          = .next ((t.changeDevice .standby).reply .venue c.tag ⟨.done, false, bytesOf 4 c.check.toNat⟩)
        ∧ t = { s with cs := ⟨⟨img, c.check⟩, true, img, none, none⟩, pos := t.pos, zt := t.zt, msu := t.msu, hand := t.hand }
        ∧ (t.pos.axes = s.pos.axes ∧ t.pos.primary = s.pos.primary ∧ t.pos.check = s.pos.check)
        ∧ (∀ m, (s.pos.positions m = none → t.pos.movers.get m = s.pos.movers.get m)
          ∧ ∀ xs, s.pos.positions m = some xs →
            let lead := leadOf (img.movers.get m) xs (s.directionOf m)
            t.pos.movers.get m = { s.pos.movers.get m with
              body := some (bodyOf (img.movers.get m) xs), lead := some lead
              furthest := (s.pos.movers.get m).furthest.map fun x =>
                if (s.moverState m = .permitted ∨ s.moverState m = .stopping)
                    ∧ x * (s.directionOf m).sign < lead * (s.directionOf m).sign then lead else x })
        ∧ (∀ m, t.zt.body.get m = (t.pos.movers.get m).body)
        ∧ (∀ m, s.moverState m = .permitted ∨ s.moverState m = .stopping ∨ s.moverState m = .tripped →
          t.msu.get m = s.msu.get m)
        ∧ (∀ m, s.moverState m = .parked ∨ s.moverState m = .halted →
          t.msu.get m = { s.msu.get m with parkedPosition := (t.pos.movers.get m).lead })
        ∧ (∀ q k z, (t.zt.zones q)[k]? = some z → z = { freshZone (img.path q) k with
            resting := (moversOn q).filter fun m => bodyOverlaps (t.pos.movers.get m).body z })
        ∧ (∀ q, (t.zt.zones q).length = (img.path q).zoneCount.toNat)
        ∧ t.hand = { s.hand with
            toZt := s.hand.toZt.map anew, toAsu := s.hand.toAsu.map anew, toMsu := s.hand.toMsu.map anew
            demandEvents := (s.hand.demandEvents.map fun ev =>
              match ev with
              | .bodyChange u => .bodyChange (anew u)
              | .closure mean gust st => .closure mean gust st
              | .braceChange => .braceChange
              | .holdReport => .holdReport
              | .deviceChange => .deviceChange
              | .commit => .commit) ++ [.commit] })
      ∧ (∃ st : StoredImage, st.passes = false ∧ exec (.storageWriteComplete false) s
        = .next (({ s with
          cs := { s.cs with stored := st, valid := false, commit := none }
          freeCount := s.freeCount + 1 }.changeDevice .unconfigured).reply .venue c.tag ⟨.checkFailed, false, []⟩))

/-! ## Laws every step keeps -/

/-- R35, R36, R37, R55: no zone ever has both a holder and a clearing-for mover, a Closed barrier stands with neither,
a Pending one with one of them, no mover rests in a zone it holds, and only movers of the path appear in its records. -/
def Obligations.EveryStepKeepsZonesSound : Prop :=
  ∀ s t : State, s.ZonesSound → step s = .next t → t.ZonesSound

/-- R60, R93, R97, R101, R103, R107, R136, R153: authority and mover records agree with the mover's state, a relay is
commanded closed only under authority or for the close phase of its own test, an arming step stands exactly in Arming.
-/
def Obligations.EveryStepKeepsMoversSound : Prop :=
  ∀ s t : State, s.MoversSound → step s = .next t → t.MoversSound

/-- R112, R117: an output is on, or a timer runs, only on a brace moving that way under the operation in flight; so
engage and withdraw outputs are never on together on one brace. -/
def Obligations.EveryStepKeepsBracesSound : Prop :=
  ∀ s t : State, s.BracesSound → step s = .next t → t.BracesSound

/-- R20, R25 to R28, R127 to R131, R151 to R153, R157, R158, R164, R165, R167: the bounds of windows and counts, of
the wind history, of request queues, reply outputs, masks and notice queues, and the order in the fault record. -/
def Obligations.EveryStepKeepsRecordsWithinBounds : Prop :=
  ∀ s t : State, s.AxesSound → s.wm.Sound → s.PortsSound → s.NoticesSound → s.fr.Sound → step s = .next t →
    t.AxesSound ∧ t.wm.Sound ∧ t.PortsSound ∧ t.NoticesSound ∧ t.fr.Sound

/-- The state after the first power-on reset meets every law above (R34, R58, R60, R93, R110, R126, R134, R161, R166,
R168). -/
def Obligations.ResetIsSound : Prop :=
  State.reset.ZonesSound ∧ State.reset.MoversSound ∧ State.reset.BracesSound ∧ State.reset.AxesSound ∧ State.reset.wm.Sound
    ∧ State.reset.PortsSound ∧ State.reset.NoticesSound ∧ State.reset.fr.Sound
end

