-- ==== Sys2Proof/Laws/State.lean ====
section
/-! SUPPORT. One lemma for each field and each replacement of a block's state, and the laws of the fixed tables: a read
after a write gives the value written, and a write leaves the other members alone. -/

namespace Sys2Proof.Machine

/-! ## Fields after a block's state is replaced -/

@[simp] theorem State.withCs_cs (s : State) (x : Cs) : (s.withCs x).cs = x := rfl
@[simp] theorem State.withCs_pos (s : State) (x : Cs) : (s.withCs x).pos = s.pos := rfl
@[simp] theorem State.withCs_zt (s : State) (x : Cs) : (s.withCs x).zt = s.zt := rfl
@[simp] theorem State.withCs_asu (s : State) (x : Cs) : (s.withCs x).asu = s.asu := rfl
@[simp] theorem State.withCs_msu (s : State) (x : Cs) : (s.withCs x).msu = s.msu := rfl
@[simp] theorem State.withCs_brc (s : State) (x : Cs) : (s.withCs x).brc = s.brc := rfl
@[simp] theorem State.withCs_wm (s : State) (x : Cs) : (s.withCs x).wm = s.wm := rfl
@[simp] theorem State.withCs_slu (s : State) (x : Cs) : (s.withCs x).slu = s.slu := rfl
@[simp] theorem State.withCs_dsu (s : State) (x : Cs) : (s.withCs x).dsu = s.dsu := rfl
@[simp] theorem State.withCs_spu (s : State) (x : Cs) : (s.withCs x).spu = s.spu := rfl
@[simp] theorem State.withCs_nu (s : State) (x : Cs) : (s.withCs x).nu = s.nu := rfl
@[simp] theorem State.withCs_fr (s : State) (x : Cs) : (s.withCs x).fr = s.fr := rfl
@[simp] theorem State.withCs_hand (s : State) (x : Cs) : (s.withCs x).hand = s.hand := rfl
@[simp] theorem State.withCs_freeCount (s : State) (x : Cs) : (s.withCs x).freeCount = s.freeCount := rfl
@[simp] theorem State.withCs_pending (s : State) (x : Cs) : (s.withCs x).pending = s.pending := rfl

@[simp] theorem State.withPos_cs (s : State) (x : Pos) : (s.withPos x).cs = s.cs := rfl
@[simp] theorem State.withPos_pos (s : State) (x : Pos) : (s.withPos x).pos = x := rfl
@[simp] theorem State.withPos_zt (s : State) (x : Pos) : (s.withPos x).zt = s.zt := rfl
@[simp] theorem State.withPos_asu (s : State) (x : Pos) : (s.withPos x).asu = s.asu := rfl
@[simp] theorem State.withPos_msu (s : State) (x : Pos) : (s.withPos x).msu = s.msu := rfl
@[simp] theorem State.withPos_brc (s : State) (x : Pos) : (s.withPos x).brc = s.brc := rfl
@[simp] theorem State.withPos_wm (s : State) (x : Pos) : (s.withPos x).wm = s.wm := rfl
@[simp] theorem State.withPos_slu (s : State) (x : Pos) : (s.withPos x).slu = s.slu := rfl
@[simp] theorem State.withPos_dsu (s : State) (x : Pos) : (s.withPos x).dsu = s.dsu := rfl
@[simp] theorem State.withPos_spu (s : State) (x : Pos) : (s.withPos x).spu = s.spu := rfl
@[simp] theorem State.withPos_nu (s : State) (x : Pos) : (s.withPos x).nu = s.nu := rfl
@[simp] theorem State.withPos_fr (s : State) (x : Pos) : (s.withPos x).fr = s.fr := rfl
@[simp] theorem State.withPos_hand (s : State) (x : Pos) : (s.withPos x).hand = s.hand := rfl
@[simp] theorem State.withPos_freeCount (s : State) (x : Pos) : (s.withPos x).freeCount = s.freeCount := rfl
@[simp] theorem State.withPos_pending (s : State) (x : Pos) : (s.withPos x).pending = s.pending := rfl

@[simp] theorem State.withZt_cs (s : State) (x : ZoneTable) : (s.withZt x).cs = s.cs := rfl
@[simp] theorem State.withZt_pos (s : State) (x : ZoneTable) : (s.withZt x).pos = s.pos := rfl
@[simp] theorem State.withZt_zt (s : State) (x : ZoneTable) : (s.withZt x).zt = x := rfl
@[simp] theorem State.withZt_asu (s : State) (x : ZoneTable) : (s.withZt x).asu = s.asu := rfl
@[simp] theorem State.withZt_msu (s : State) (x : ZoneTable) : (s.withZt x).msu = s.msu := rfl
@[simp] theorem State.withZt_brc (s : State) (x : ZoneTable) : (s.withZt x).brc = s.brc := rfl
@[simp] theorem State.withZt_wm (s : State) (x : ZoneTable) : (s.withZt x).wm = s.wm := rfl
@[simp] theorem State.withZt_slu (s : State) (x : ZoneTable) : (s.withZt x).slu = s.slu := rfl
@[simp] theorem State.withZt_dsu (s : State) (x : ZoneTable) : (s.withZt x).dsu = s.dsu := rfl
@[simp] theorem State.withZt_spu (s : State) (x : ZoneTable) : (s.withZt x).spu = s.spu := rfl
@[simp] theorem State.withZt_nu (s : State) (x : ZoneTable) : (s.withZt x).nu = s.nu := rfl
@[simp] theorem State.withZt_fr (s : State) (x : ZoneTable) : (s.withZt x).fr = s.fr := rfl
@[simp] theorem State.withZt_hand (s : State) (x : ZoneTable) : (s.withZt x).hand = s.hand := rfl
@[simp] theorem State.withZt_freeCount (s : State) (x : ZoneTable) : (s.withZt x).freeCount = s.freeCount := rfl
@[simp] theorem State.withZt_pending (s : State) (x : ZoneTable) : (s.withZt x).pending = s.pending := rfl

@[simp] theorem State.withAsu_cs (s : State) (x : Asu) : (s.withAsu x).cs = s.cs := rfl
@[simp] theorem State.withAsu_pos (s : State) (x : Asu) : (s.withAsu x).pos = s.pos := rfl
@[simp] theorem State.withAsu_zt (s : State) (x : Asu) : (s.withAsu x).zt = s.zt := rfl
@[simp] theorem State.withAsu_asu (s : State) (x : Asu) : (s.withAsu x).asu = x := rfl
@[simp] theorem State.withAsu_msu (s : State) (x : Asu) : (s.withAsu x).msu = s.msu := rfl
@[simp] theorem State.withAsu_brc (s : State) (x : Asu) : (s.withAsu x).brc = s.brc := rfl
@[simp] theorem State.withAsu_wm (s : State) (x : Asu) : (s.withAsu x).wm = s.wm := rfl
@[simp] theorem State.withAsu_slu (s : State) (x : Asu) : (s.withAsu x).slu = s.slu := rfl
@[simp] theorem State.withAsu_dsu (s : State) (x : Asu) : (s.withAsu x).dsu = s.dsu := rfl
@[simp] theorem State.withAsu_spu (s : State) (x : Asu) : (s.withAsu x).spu = s.spu := rfl
@[simp] theorem State.withAsu_nu (s : State) (x : Asu) : (s.withAsu x).nu = s.nu := rfl
@[simp] theorem State.withAsu_fr (s : State) (x : Asu) : (s.withAsu x).fr = s.fr := rfl
@[simp] theorem State.withAsu_hand (s : State) (x : Asu) : (s.withAsu x).hand = s.hand := rfl
@[simp] theorem State.withAsu_freeCount (s : State) (x : Asu) : (s.withAsu x).freeCount = s.freeCount := rfl
@[simp] theorem State.withAsu_pending (s : State) (x : Asu) : (s.withAsu x).pending = s.pending := rfl

@[simp] theorem State.withMsu_cs (s : State) (x : PerMover MoverRec) : (s.withMsu x).cs = s.cs := rfl
@[simp] theorem State.withMsu_pos (s : State) (x : PerMover MoverRec) : (s.withMsu x).pos = s.pos := rfl
@[simp] theorem State.withMsu_zt (s : State) (x : PerMover MoverRec) : (s.withMsu x).zt = s.zt := rfl
@[simp] theorem State.withMsu_asu (s : State) (x : PerMover MoverRec) : (s.withMsu x).asu = s.asu := rfl
@[simp] theorem State.withMsu_msu (s : State) (x : PerMover MoverRec) : (s.withMsu x).msu = x := rfl
@[simp] theorem State.withMsu_brc (s : State) (x : PerMover MoverRec) : (s.withMsu x).brc = s.brc := rfl
@[simp] theorem State.withMsu_wm (s : State) (x : PerMover MoverRec) : (s.withMsu x).wm = s.wm := rfl
@[simp] theorem State.withMsu_slu (s : State) (x : PerMover MoverRec) : (s.withMsu x).slu = s.slu := rfl
@[simp] theorem State.withMsu_dsu (s : State) (x : PerMover MoverRec) : (s.withMsu x).dsu = s.dsu := rfl
@[simp] theorem State.withMsu_spu (s : State) (x : PerMover MoverRec) : (s.withMsu x).spu = s.spu := rfl
@[simp] theorem State.withMsu_nu (s : State) (x : PerMover MoverRec) : (s.withMsu x).nu = s.nu := rfl
@[simp] theorem State.withMsu_fr (s : State) (x : PerMover MoverRec) : (s.withMsu x).fr = s.fr := rfl
@[simp] theorem State.withMsu_hand (s : State) (x : PerMover MoverRec) : (s.withMsu x).hand = s.hand := rfl
@[simp] theorem State.withMsu_freeCount (s : State) (x : PerMover MoverRec) : (s.withMsu x).freeCount = s.freeCount := rfl
@[simp] theorem State.withMsu_pending (s : State) (x : PerMover MoverRec) : (s.withMsu x).pending = s.pending := rfl

@[simp] theorem State.withBrc_cs (s : State) (x : Brc) : (s.withBrc x).cs = s.cs := rfl
@[simp] theorem State.withBrc_pos (s : State) (x : Brc) : (s.withBrc x).pos = s.pos := rfl
@[simp] theorem State.withBrc_zt (s : State) (x : Brc) : (s.withBrc x).zt = s.zt := rfl
@[simp] theorem State.withBrc_asu (s : State) (x : Brc) : (s.withBrc x).asu = s.asu := rfl
@[simp] theorem State.withBrc_msu (s : State) (x : Brc) : (s.withBrc x).msu = s.msu := rfl
@[simp] theorem State.withBrc_brc (s : State) (x : Brc) : (s.withBrc x).brc = x := rfl
@[simp] theorem State.withBrc_wm (s : State) (x : Brc) : (s.withBrc x).wm = s.wm := rfl
@[simp] theorem State.withBrc_slu (s : State) (x : Brc) : (s.withBrc x).slu = s.slu := rfl
@[simp] theorem State.withBrc_dsu (s : State) (x : Brc) : (s.withBrc x).dsu = s.dsu := rfl
@[simp] theorem State.withBrc_spu (s : State) (x : Brc) : (s.withBrc x).spu = s.spu := rfl
@[simp] theorem State.withBrc_nu (s : State) (x : Brc) : (s.withBrc x).nu = s.nu := rfl
@[simp] theorem State.withBrc_fr (s : State) (x : Brc) : (s.withBrc x).fr = s.fr := rfl
@[simp] theorem State.withBrc_hand (s : State) (x : Brc) : (s.withBrc x).hand = s.hand := rfl
@[simp] theorem State.withBrc_freeCount (s : State) (x : Brc) : (s.withBrc x).freeCount = s.freeCount := rfl
@[simp] theorem State.withBrc_pending (s : State) (x : Brc) : (s.withBrc x).pending = s.pending := rfl

@[simp] theorem State.withWm_cs (s : State) (x : Wm) : (s.withWm x).cs = s.cs := rfl
@[simp] theorem State.withWm_pos (s : State) (x : Wm) : (s.withWm x).pos = s.pos := rfl
@[simp] theorem State.withWm_zt (s : State) (x : Wm) : (s.withWm x).zt = s.zt := rfl
@[simp] theorem State.withWm_asu (s : State) (x : Wm) : (s.withWm x).asu = s.asu := rfl
@[simp] theorem State.withWm_msu (s : State) (x : Wm) : (s.withWm x).msu = s.msu := rfl
@[simp] theorem State.withWm_brc (s : State) (x : Wm) : (s.withWm x).brc = s.brc := rfl
@[simp] theorem State.withWm_wm (s : State) (x : Wm) : (s.withWm x).wm = x := rfl
@[simp] theorem State.withWm_slu (s : State) (x : Wm) : (s.withWm x).slu = s.slu := rfl
@[simp] theorem State.withWm_dsu (s : State) (x : Wm) : (s.withWm x).dsu = s.dsu := rfl
@[simp] theorem State.withWm_spu (s : State) (x : Wm) : (s.withWm x).spu = s.spu := rfl
@[simp] theorem State.withWm_nu (s : State) (x : Wm) : (s.withWm x).nu = s.nu := rfl
@[simp] theorem State.withWm_fr (s : State) (x : Wm) : (s.withWm x).fr = s.fr := rfl
@[simp] theorem State.withWm_hand (s : State) (x : Wm) : (s.withWm x).hand = s.hand := rfl
@[simp] theorem State.withWm_freeCount (s : State) (x : Wm) : (s.withWm x).freeCount = s.freeCount := rfl
@[simp] theorem State.withWm_pending (s : State) (x : Wm) : (s.withWm x).pending = s.pending := rfl

@[simp] theorem State.withSlu_cs (s : State) (x : Slu) : (s.withSlu x).cs = s.cs := rfl
@[simp] theorem State.withSlu_pos (s : State) (x : Slu) : (s.withSlu x).pos = s.pos := rfl
@[simp] theorem State.withSlu_zt (s : State) (x : Slu) : (s.withSlu x).zt = s.zt := rfl
@[simp] theorem State.withSlu_asu (s : State) (x : Slu) : (s.withSlu x).asu = s.asu := rfl
@[simp] theorem State.withSlu_msu (s : State) (x : Slu) : (s.withSlu x).msu = s.msu := rfl
@[simp] theorem State.withSlu_brc (s : State) (x : Slu) : (s.withSlu x).brc = s.brc := rfl
@[simp] theorem State.withSlu_wm (s : State) (x : Slu) : (s.withSlu x).wm = s.wm := rfl
@[simp] theorem State.withSlu_slu (s : State) (x : Slu) : (s.withSlu x).slu = x := rfl
@[simp] theorem State.withSlu_dsu (s : State) (x : Slu) : (s.withSlu x).dsu = s.dsu := rfl
@[simp] theorem State.withSlu_spu (s : State) (x : Slu) : (s.withSlu x).spu = s.spu := rfl
@[simp] theorem State.withSlu_nu (s : State) (x : Slu) : (s.withSlu x).nu = s.nu := rfl
@[simp] theorem State.withSlu_fr (s : State) (x : Slu) : (s.withSlu x).fr = s.fr := rfl
@[simp] theorem State.withSlu_hand (s : State) (x : Slu) : (s.withSlu x).hand = s.hand := rfl
@[simp] theorem State.withSlu_freeCount (s : State) (x : Slu) : (s.withSlu x).freeCount = s.freeCount := rfl
@[simp] theorem State.withSlu_pending (s : State) (x : Slu) : (s.withSlu x).pending = s.pending := rfl

@[simp] theorem State.withDsu_cs (s : State) (x : Dsu) : (s.withDsu x).cs = s.cs := rfl
@[simp] theorem State.withDsu_pos (s : State) (x : Dsu) : (s.withDsu x).pos = s.pos := rfl
@[simp] theorem State.withDsu_zt (s : State) (x : Dsu) : (s.withDsu x).zt = s.zt := rfl
@[simp] theorem State.withDsu_asu (s : State) (x : Dsu) : (s.withDsu x).asu = s.asu := rfl
@[simp] theorem State.withDsu_msu (s : State) (x : Dsu) : (s.withDsu x).msu = s.msu := rfl
@[simp] theorem State.withDsu_brc (s : State) (x : Dsu) : (s.withDsu x).brc = s.brc := rfl
@[simp] theorem State.withDsu_wm (s : State) (x : Dsu) : (s.withDsu x).wm = s.wm := rfl
@[simp] theorem State.withDsu_slu (s : State) (x : Dsu) : (s.withDsu x).slu = s.slu := rfl
@[simp] theorem State.withDsu_dsu (s : State) (x : Dsu) : (s.withDsu x).dsu = x := rfl
@[simp] theorem State.withDsu_spu (s : State) (x : Dsu) : (s.withDsu x).spu = s.spu := rfl
@[simp] theorem State.withDsu_nu (s : State) (x : Dsu) : (s.withDsu x).nu = s.nu := rfl
@[simp] theorem State.withDsu_fr (s : State) (x : Dsu) : (s.withDsu x).fr = s.fr := rfl
@[simp] theorem State.withDsu_hand (s : State) (x : Dsu) : (s.withDsu x).hand = s.hand := rfl
@[simp] theorem State.withDsu_freeCount (s : State) (x : Dsu) : (s.withDsu x).freeCount = s.freeCount := rfl
@[simp] theorem State.withDsu_pending (s : State) (x : Dsu) : (s.withDsu x).pending = s.pending := rfl

@[simp] theorem State.withSpu_cs (s : State) (x : Spu) : (s.withSpu x).cs = s.cs := rfl
@[simp] theorem State.withSpu_pos (s : State) (x : Spu) : (s.withSpu x).pos = s.pos := rfl
@[simp] theorem State.withSpu_zt (s : State) (x : Spu) : (s.withSpu x).zt = s.zt := rfl
@[simp] theorem State.withSpu_asu (s : State) (x : Spu) : (s.withSpu x).asu = s.asu := rfl
@[simp] theorem State.withSpu_msu (s : State) (x : Spu) : (s.withSpu x).msu = s.msu := rfl
@[simp] theorem State.withSpu_brc (s : State) (x : Spu) : (s.withSpu x).brc = s.brc := rfl
@[simp] theorem State.withSpu_wm (s : State) (x : Spu) : (s.withSpu x).wm = s.wm := rfl
@[simp] theorem State.withSpu_slu (s : State) (x : Spu) : (s.withSpu x).slu = s.slu := rfl
@[simp] theorem State.withSpu_dsu (s : State) (x : Spu) : (s.withSpu x).dsu = s.dsu := rfl
@[simp] theorem State.withSpu_spu (s : State) (x : Spu) : (s.withSpu x).spu = x := rfl
@[simp] theorem State.withSpu_nu (s : State) (x : Spu) : (s.withSpu x).nu = s.nu := rfl
@[simp] theorem State.withSpu_fr (s : State) (x : Spu) : (s.withSpu x).fr = s.fr := rfl
@[simp] theorem State.withSpu_hand (s : State) (x : Spu) : (s.withSpu x).hand = s.hand := rfl
@[simp] theorem State.withSpu_freeCount (s : State) (x : Spu) : (s.withSpu x).freeCount = s.freeCount := rfl
@[simp] theorem State.withSpu_pending (s : State) (x : Spu) : (s.withSpu x).pending = s.pending := rfl

@[simp] theorem State.withNu_cs (s : State) (x : PerPort NoticeQueue) : (s.withNu x).cs = s.cs := rfl
@[simp] theorem State.withNu_pos (s : State) (x : PerPort NoticeQueue) : (s.withNu x).pos = s.pos := rfl
@[simp] theorem State.withNu_zt (s : State) (x : PerPort NoticeQueue) : (s.withNu x).zt = s.zt := rfl
@[simp] theorem State.withNu_asu (s : State) (x : PerPort NoticeQueue) : (s.withNu x).asu = s.asu := rfl
@[simp] theorem State.withNu_msu (s : State) (x : PerPort NoticeQueue) : (s.withNu x).msu = s.msu := rfl
@[simp] theorem State.withNu_brc (s : State) (x : PerPort NoticeQueue) : (s.withNu x).brc = s.brc := rfl
@[simp] theorem State.withNu_wm (s : State) (x : PerPort NoticeQueue) : (s.withNu x).wm = s.wm := rfl
@[simp] theorem State.withNu_slu (s : State) (x : PerPort NoticeQueue) : (s.withNu x).slu = s.slu := rfl
@[simp] theorem State.withNu_dsu (s : State) (x : PerPort NoticeQueue) : (s.withNu x).dsu = s.dsu := rfl
@[simp] theorem State.withNu_spu (s : State) (x : PerPort NoticeQueue) : (s.withNu x).spu = s.spu := rfl
@[simp] theorem State.withNu_nu (s : State) (x : PerPort NoticeQueue) : (s.withNu x).nu = x := rfl
@[simp] theorem State.withNu_fr (s : State) (x : PerPort NoticeQueue) : (s.withNu x).fr = s.fr := rfl
@[simp] theorem State.withNu_hand (s : State) (x : PerPort NoticeQueue) : (s.withNu x).hand = s.hand := rfl
@[simp] theorem State.withNu_freeCount (s : State) (x : PerPort NoticeQueue) : (s.withNu x).freeCount = s.freeCount := rfl
@[simp] theorem State.withNu_pending (s : State) (x : PerPort NoticeQueue) : (s.withNu x).pending = s.pending := rfl

@[simp] theorem State.withFr_cs (s : State) (x : Fr) : (s.withFr x).cs = s.cs := rfl
@[simp] theorem State.withFr_pos (s : State) (x : Fr) : (s.withFr x).pos = s.pos := rfl
@[simp] theorem State.withFr_zt (s : State) (x : Fr) : (s.withFr x).zt = s.zt := rfl
@[simp] theorem State.withFr_asu (s : State) (x : Fr) : (s.withFr x).asu = s.asu := rfl
@[simp] theorem State.withFr_msu (s : State) (x : Fr) : (s.withFr x).msu = s.msu := rfl
@[simp] theorem State.withFr_brc (s : State) (x : Fr) : (s.withFr x).brc = s.brc := rfl
@[simp] theorem State.withFr_wm (s : State) (x : Fr) : (s.withFr x).wm = s.wm := rfl
@[simp] theorem State.withFr_slu (s : State) (x : Fr) : (s.withFr x).slu = s.slu := rfl
@[simp] theorem State.withFr_dsu (s : State) (x : Fr) : (s.withFr x).dsu = s.dsu := rfl
@[simp] theorem State.withFr_spu (s : State) (x : Fr) : (s.withFr x).spu = s.spu := rfl
@[simp] theorem State.withFr_nu (s : State) (x : Fr) : (s.withFr x).nu = s.nu := rfl
@[simp] theorem State.withFr_fr (s : State) (x : Fr) : (s.withFr x).fr = x := rfl
@[simp] theorem State.withFr_hand (s : State) (x : Fr) : (s.withFr x).hand = s.hand := rfl
@[simp] theorem State.withFr_freeCount (s : State) (x : Fr) : (s.withFr x).freeCount = s.freeCount := rfl
@[simp] theorem State.withFr_pending (s : State) (x : Fr) : (s.withFr x).pending = s.pending := rfl

@[simp] theorem State.withHand_cs (s : State) (x : Handovers) : (s.withHand x).cs = s.cs := rfl
@[simp] theorem State.withHand_pos (s : State) (x : Handovers) : (s.withHand x).pos = s.pos := rfl
@[simp] theorem State.withHand_zt (s : State) (x : Handovers) : (s.withHand x).zt = s.zt := rfl
@[simp] theorem State.withHand_asu (s : State) (x : Handovers) : (s.withHand x).asu = s.asu := rfl
@[simp] theorem State.withHand_msu (s : State) (x : Handovers) : (s.withHand x).msu = s.msu := rfl
@[simp] theorem State.withHand_brc (s : State) (x : Handovers) : (s.withHand x).brc = s.brc := rfl
@[simp] theorem State.withHand_wm (s : State) (x : Handovers) : (s.withHand x).wm = s.wm := rfl
@[simp] theorem State.withHand_slu (s : State) (x : Handovers) : (s.withHand x).slu = s.slu := rfl
@[simp] theorem State.withHand_dsu (s : State) (x : Handovers) : (s.withHand x).dsu = s.dsu := rfl
@[simp] theorem State.withHand_spu (s : State) (x : Handovers) : (s.withHand x).spu = s.spu := rfl
@[simp] theorem State.withHand_nu (s : State) (x : Handovers) : (s.withHand x).nu = s.nu := rfl
@[simp] theorem State.withHand_fr (s : State) (x : Handovers) : (s.withHand x).fr = s.fr := rfl
@[simp] theorem State.withHand_hand (s : State) (x : Handovers) : (s.withHand x).hand = x := rfl
@[simp] theorem State.withHand_freeCount (s : State) (x : Handovers) : (s.withHand x).freeCount = s.freeCount := rfl
@[simp] theorem State.withHand_pending (s : State) (x : Handovers) : (s.withHand x).pending = s.pending := rfl

@[simp] theorem State.withFreeCount_cs (s : State) (x : Nat) : (s.withFreeCount x).cs = s.cs := rfl
@[simp] theorem State.withFreeCount_pos (s : State) (x : Nat) : (s.withFreeCount x).pos = s.pos := rfl
@[simp] theorem State.withFreeCount_zt (s : State) (x : Nat) : (s.withFreeCount x).zt = s.zt := rfl
@[simp] theorem State.withFreeCount_asu (s : State) (x : Nat) : (s.withFreeCount x).asu = s.asu := rfl
@[simp] theorem State.withFreeCount_msu (s : State) (x : Nat) : (s.withFreeCount x).msu = s.msu := rfl
@[simp] theorem State.withFreeCount_brc (s : State) (x : Nat) : (s.withFreeCount x).brc = s.brc := rfl
@[simp] theorem State.withFreeCount_wm (s : State) (x : Nat) : (s.withFreeCount x).wm = s.wm := rfl
@[simp] theorem State.withFreeCount_slu (s : State) (x : Nat) : (s.withFreeCount x).slu = s.slu := rfl
@[simp] theorem State.withFreeCount_dsu (s : State) (x : Nat) : (s.withFreeCount x).dsu = s.dsu := rfl
@[simp] theorem State.withFreeCount_spu (s : State) (x : Nat) : (s.withFreeCount x).spu = s.spu := rfl
@[simp] theorem State.withFreeCount_nu (s : State) (x : Nat) : (s.withFreeCount x).nu = s.nu := rfl
@[simp] theorem State.withFreeCount_fr (s : State) (x : Nat) : (s.withFreeCount x).fr = s.fr := rfl
@[simp] theorem State.withFreeCount_hand (s : State) (x : Nat) : (s.withFreeCount x).hand = s.hand := rfl
@[simp] theorem State.withFreeCount_freeCount (s : State) (x : Nat) : (s.withFreeCount x).freeCount = x := rfl
@[simp] theorem State.withFreeCount_pending (s : State) (x : Nat) : (s.withFreeCount x).pending = s.pending := rfl

@[simp] theorem State.withPending_cs (s : State) (x : List Instr) : (s.withPending x).cs = s.cs := rfl
@[simp] theorem State.withPending_pos (s : State) (x : List Instr) : (s.withPending x).pos = s.pos := rfl
@[simp] theorem State.withPending_zt (s : State) (x : List Instr) : (s.withPending x).zt = s.zt := rfl
@[simp] theorem State.withPending_asu (s : State) (x : List Instr) : (s.withPending x).asu = s.asu := rfl
@[simp] theorem State.withPending_msu (s : State) (x : List Instr) : (s.withPending x).msu = s.msu := rfl
@[simp] theorem State.withPending_brc (s : State) (x : List Instr) : (s.withPending x).brc = s.brc := rfl
@[simp] theorem State.withPending_wm (s : State) (x : List Instr) : (s.withPending x).wm = s.wm := rfl
@[simp] theorem State.withPending_slu (s : State) (x : List Instr) : (s.withPending x).slu = s.slu := rfl
@[simp] theorem State.withPending_dsu (s : State) (x : List Instr) : (s.withPending x).dsu = s.dsu := rfl
@[simp] theorem State.withPending_spu (s : State) (x : List Instr) : (s.withPending x).spu = s.spu := rfl
@[simp] theorem State.withPending_nu (s : State) (x : List Instr) : (s.withPending x).nu = s.nu := rfl
@[simp] theorem State.withPending_fr (s : State) (x : List Instr) : (s.withPending x).fr = s.fr := rfl
@[simp] theorem State.withPending_hand (s : State) (x : List Instr) : (s.withPending x).hand = s.hand := rfl
@[simp] theorem State.withPending_freeCount (s : State) (x : List Instr) : (s.withPending x).freeCount = s.freeCount := rfl
@[simp] theorem State.withPending_pending (s : State) (x : List Instr) : (s.withPending x).pending = x := rfl

/-! ## Fields after one record of a block is replaced -/

@[simp] theorem State.setMover_cs (s : State) (m : Mover) (r : MoverRec) : (s.setMover m r).cs = s.cs := rfl
@[simp] theorem State.setMover_pos (s : State) (m : Mover) (r : MoverRec) : (s.setMover m r).pos = s.pos := rfl
@[simp] theorem State.setMover_zt (s : State) (m : Mover) (r : MoverRec) : (s.setMover m r).zt = s.zt := rfl
@[simp] theorem State.setMover_asu (s : State) (m : Mover) (r : MoverRec) : (s.setMover m r).asu = s.asu := rfl
@[simp] theorem State.setMover_msu (s : State) (m : Mover) (r : MoverRec) : (s.setMover m r).msu = s.msu.set m r := rfl
@[simp] theorem State.setMover_brc (s : State) (m : Mover) (r : MoverRec) : (s.setMover m r).brc = s.brc := rfl
@[simp] theorem State.setMover_wm (s : State) (m : Mover) (r : MoverRec) : (s.setMover m r).wm = s.wm := rfl
@[simp] theorem State.setMover_slu (s : State) (m : Mover) (r : MoverRec) : (s.setMover m r).slu = s.slu := rfl
@[simp] theorem State.setMover_dsu (s : State) (m : Mover) (r : MoverRec) : (s.setMover m r).dsu = s.dsu := rfl
@[simp] theorem State.setMover_spu (s : State) (m : Mover) (r : MoverRec) : (s.setMover m r).spu = s.spu := rfl
@[simp] theorem State.setMover_nu (s : State) (m : Mover) (r : MoverRec) : (s.setMover m r).nu = s.nu := rfl
@[simp] theorem State.setMover_fr (s : State) (m : Mover) (r : MoverRec) : (s.setMover m r).fr = s.fr := rfl
@[simp] theorem State.setMover_hand (s : State) (m : Mover) (r : MoverRec) : (s.setMover m r).hand = s.hand := rfl
@[simp] theorem State.setMover_freeCount (s : State) (m : Mover) (r : MoverRec) : (s.setMover m r).freeCount = s.freeCount := rfl
@[simp] theorem State.setMover_pending (s : State) (m : Mover) (r : MoverRec) : (s.setMover m r).pending = s.pending := rfl

@[simp] theorem State.setAuthority_cs (s : State) (m : Mover) (a : Authority) : (s.setAuthority m a).cs = s.cs := rfl
@[simp] theorem State.setAuthority_pos (s : State) (m : Mover) (a : Authority) : (s.setAuthority m a).pos = s.pos := rfl
@[simp] theorem State.setAuthority_zt (s : State) (m : Mover) (a : Authority) : (s.setAuthority m a).zt = s.zt := rfl
@[simp] theorem State.setAuthority_asu (s : State) (m : Mover) (a : Authority) : (s.setAuthority m a).asu = { s.asu with authority := s.asu.authority.set m a } := rfl
@[simp] theorem State.setAuthority_msu (s : State) (m : Mover) (a : Authority) : (s.setAuthority m a).msu = s.msu := rfl
@[simp] theorem State.setAuthority_brc (s : State) (m : Mover) (a : Authority) : (s.setAuthority m a).brc = s.brc := rfl
@[simp] theorem State.setAuthority_wm (s : State) (m : Mover) (a : Authority) : (s.setAuthority m a).wm = s.wm := rfl
@[simp] theorem State.setAuthority_slu (s : State) (m : Mover) (a : Authority) : (s.setAuthority m a).slu = s.slu := rfl
@[simp] theorem State.setAuthority_dsu (s : State) (m : Mover) (a : Authority) : (s.setAuthority m a).dsu = s.dsu := rfl
@[simp] theorem State.setAuthority_spu (s : State) (m : Mover) (a : Authority) : (s.setAuthority m a).spu = s.spu := rfl
@[simp] theorem State.setAuthority_nu (s : State) (m : Mover) (a : Authority) : (s.setAuthority m a).nu = s.nu := rfl
@[simp] theorem State.setAuthority_fr (s : State) (m : Mover) (a : Authority) : (s.setAuthority m a).fr = s.fr := rfl
@[simp] theorem State.setAuthority_hand (s : State) (m : Mover) (a : Authority) : (s.setAuthority m a).hand = s.hand := rfl
@[simp] theorem State.setAuthority_freeCount (s : State) (m : Mover) (a : Authority) : (s.setAuthority m a).freeCount = s.freeCount := rfl
@[simp] theorem State.setAuthority_pending (s : State) (m : Mover) (a : Authority) : (s.setAuthority m a).pending = s.pending := rfl

@[simp] theorem State.setPort_cs (s : State) (p : Port) (r : PortRec) : (s.setPort p r).cs = s.cs := rfl
@[simp] theorem State.setPort_pos (s : State) (p : Port) (r : PortRec) : (s.setPort p r).pos = s.pos := rfl
@[simp] theorem State.setPort_zt (s : State) (p : Port) (r : PortRec) : (s.setPort p r).zt = s.zt := rfl
@[simp] theorem State.setPort_asu (s : State) (p : Port) (r : PortRec) : (s.setPort p r).asu = s.asu := rfl
@[simp] theorem State.setPort_msu (s : State) (p : Port) (r : PortRec) : (s.setPort p r).msu = s.msu := rfl
@[simp] theorem State.setPort_brc (s : State) (p : Port) (r : PortRec) : (s.setPort p r).brc = s.brc := rfl
@[simp] theorem State.setPort_wm (s : State) (p : Port) (r : PortRec) : (s.setPort p r).wm = s.wm := rfl
@[simp] theorem State.setPort_slu (s : State) (p : Port) (r : PortRec) : (s.setPort p r).slu = s.slu := rfl
@[simp] theorem State.setPort_dsu (s : State) (p : Port) (r : PortRec) : (s.setPort p r).dsu = s.dsu := rfl
@[simp] theorem State.setPort_spu (s : State) (p : Port) (r : PortRec) : (s.setPort p r).spu = { s.spu with ports := s.spu.ports.set p r } := rfl
@[simp] theorem State.setPort_nu (s : State) (p : Port) (r : PortRec) : (s.setPort p r).nu = s.nu := rfl
@[simp] theorem State.setPort_fr (s : State) (p : Port) (r : PortRec) : (s.setPort p r).fr = s.fr := rfl
@[simp] theorem State.setPort_hand (s : State) (p : Port) (r : PortRec) : (s.setPort p r).hand = s.hand := rfl
@[simp] theorem State.setPort_freeCount (s : State) (p : Port) (r : PortRec) : (s.setPort p r).freeCount = s.freeCount := rfl
@[simp] theorem State.setPort_pending (s : State) (p : Port) (r : PortRec) : (s.setPort p r).pending = s.pending := rfl

@[simp] theorem State.setBrace_cs (s : State) (b : Brace) (r : BraceRec) : (s.setBrace b r).cs = s.cs := rfl
@[simp] theorem State.setBrace_pos (s : State) (b : Brace) (r : BraceRec) : (s.setBrace b r).pos = s.pos := rfl
@[simp] theorem State.setBrace_zt (s : State) (b : Brace) (r : BraceRec) : (s.setBrace b r).zt = s.zt := rfl
@[simp] theorem State.setBrace_asu (s : State) (b : Brace) (r : BraceRec) : (s.setBrace b r).asu = s.asu := rfl
@[simp] theorem State.setBrace_msu (s : State) (b : Brace) (r : BraceRec) : (s.setBrace b r).msu = s.msu := rfl
@[simp] theorem State.setBrace_brc (s : State) (b : Brace) (r : BraceRec) : (s.setBrace b r).brc = { s.brc with braces := s.brc.braces.set b r } := rfl
@[simp] theorem State.setBrace_wm (s : State) (b : Brace) (r : BraceRec) : (s.setBrace b r).wm = s.wm := rfl
@[simp] theorem State.setBrace_slu (s : State) (b : Brace) (r : BraceRec) : (s.setBrace b r).slu = s.slu := rfl
@[simp] theorem State.setBrace_dsu (s : State) (b : Brace) (r : BraceRec) : (s.setBrace b r).dsu = s.dsu := rfl
@[simp] theorem State.setBrace_spu (s : State) (b : Brace) (r : BraceRec) : (s.setBrace b r).spu = s.spu := rfl
@[simp] theorem State.setBrace_nu (s : State) (b : Brace) (r : BraceRec) : (s.setBrace b r).nu = s.nu := rfl
@[simp] theorem State.setBrace_fr (s : State) (b : Brace) (r : BraceRec) : (s.setBrace b r).fr = s.fr := rfl
@[simp] theorem State.setBrace_hand (s : State) (b : Brace) (r : BraceRec) : (s.setBrace b r).hand = s.hand := rfl
@[simp] theorem State.setBrace_freeCount (s : State) (b : Brace) (r : BraceRec) : (s.setBrace b r).freeCount = s.freeCount := rfl
@[simp] theorem State.setBrace_pending (s : State) (b : Brace) (r : BraceRec) : (s.setBrace b r).pending = s.pending := rfl

/-! ## Fields after a hand-over -/

@[simp] theorem State.raise_cs (s : State) (x : CauseMessage) : (s.raise x).cs = s.cs := rfl
@[simp] theorem State.raise_pos (s : State) (x : CauseMessage) : (s.raise x).pos = s.pos := rfl
@[simp] theorem State.raise_zt (s : State) (x : CauseMessage) : (s.raise x).zt = s.zt := rfl
@[simp] theorem State.raise_asu (s : State) (x : CauseMessage) : (s.raise x).asu = s.asu := rfl
@[simp] theorem State.raise_msu (s : State) (x : CauseMessage) : (s.raise x).msu = s.msu := rfl
@[simp] theorem State.raise_brc (s : State) (x : CauseMessage) : (s.raise x).brc = s.brc := rfl
@[simp] theorem State.raise_wm (s : State) (x : CauseMessage) : (s.raise x).wm = s.wm := rfl
@[simp] theorem State.raise_slu (s : State) (x : CauseMessage) : (s.raise x).slu = s.slu := rfl
@[simp] theorem State.raise_dsu (s : State) (x : CauseMessage) : (s.raise x).dsu = s.dsu := rfl
@[simp] theorem State.raise_spu (s : State) (x : CauseMessage) : (s.raise x).spu = s.spu := rfl
@[simp] theorem State.raise_nu (s : State) (x : CauseMessage) : (s.raise x).nu = s.nu := rfl
@[simp] theorem State.raise_fr (s : State) (x : CauseMessage) : (s.raise x).fr = s.fr := rfl
@[simp] theorem State.raise_hand (s : State) (x : CauseMessage) : (s.raise x).hand = { s.hand with causes := s.hand.causes ++ [x] } := rfl
@[simp] theorem State.raise_freeCount (s : State) (x : CauseMessage) : (s.raise x).freeCount = s.freeCount := rfl
@[simp] theorem State.raise_pending (s : State) (x : CauseMessage) : (s.raise x).pending = s.pending := rfl

@[simp] theorem State.handFault_cs (s : State) (x : FaultMessage) : (s.handFault x).cs = s.cs := rfl
@[simp] theorem State.handFault_pos (s : State) (x : FaultMessage) : (s.handFault x).pos = s.pos := rfl
@[simp] theorem State.handFault_zt (s : State) (x : FaultMessage) : (s.handFault x).zt = s.zt := rfl
@[simp] theorem State.handFault_asu (s : State) (x : FaultMessage) : (s.handFault x).asu = s.asu := rfl
@[simp] theorem State.handFault_msu (s : State) (x : FaultMessage) : (s.handFault x).msu = s.msu := rfl
@[simp] theorem State.handFault_brc (s : State) (x : FaultMessage) : (s.handFault x).brc = s.brc := rfl
@[simp] theorem State.handFault_wm (s : State) (x : FaultMessage) : (s.handFault x).wm = s.wm := rfl
@[simp] theorem State.handFault_slu (s : State) (x : FaultMessage) : (s.handFault x).slu = s.slu := rfl
@[simp] theorem State.handFault_dsu (s : State) (x : FaultMessage) : (s.handFault x).dsu = s.dsu := rfl
@[simp] theorem State.handFault_spu (s : State) (x : FaultMessage) : (s.handFault x).spu = s.spu := rfl
@[simp] theorem State.handFault_nu (s : State) (x : FaultMessage) : (s.handFault x).nu = s.nu := rfl
@[simp] theorem State.handFault_fr (s : State) (x : FaultMessage) : (s.handFault x).fr = s.fr := rfl
@[simp] theorem State.handFault_hand (s : State) (x : FaultMessage) : (s.handFault x).hand = { s.hand with faults := s.hand.faults ++ [x] } := rfl
@[simp] theorem State.handFault_freeCount (s : State) (x : FaultMessage) : (s.handFault x).freeCount = s.freeCount := rfl
@[simp] theorem State.handFault_pending (s : State) (x : FaultMessage) : (s.handFault x).pending = s.pending := rfl

@[simp] theorem State.handDemand_cs (s : State) (x : DemandEvent) : (s.handDemand x).cs = s.cs := rfl
@[simp] theorem State.handDemand_pos (s : State) (x : DemandEvent) : (s.handDemand x).pos = s.pos := rfl
@[simp] theorem State.handDemand_zt (s : State) (x : DemandEvent) : (s.handDemand x).zt = s.zt := rfl
@[simp] theorem State.handDemand_asu (s : State) (x : DemandEvent) : (s.handDemand x).asu = s.asu := rfl
@[simp] theorem State.handDemand_msu (s : State) (x : DemandEvent) : (s.handDemand x).msu = s.msu := rfl
@[simp] theorem State.handDemand_brc (s : State) (x : DemandEvent) : (s.handDemand x).brc = s.brc := rfl
@[simp] theorem State.handDemand_wm (s : State) (x : DemandEvent) : (s.handDemand x).wm = s.wm := rfl
@[simp] theorem State.handDemand_slu (s : State) (x : DemandEvent) : (s.handDemand x).slu = s.slu := rfl
@[simp] theorem State.handDemand_dsu (s : State) (x : DemandEvent) : (s.handDemand x).dsu = s.dsu := rfl
@[simp] theorem State.handDemand_spu (s : State) (x : DemandEvent) : (s.handDemand x).spu = s.spu := rfl
@[simp] theorem State.handDemand_nu (s : State) (x : DemandEvent) : (s.handDemand x).nu = s.nu := rfl
@[simp] theorem State.handDemand_fr (s : State) (x : DemandEvent) : (s.handDemand x).fr = s.fr := rfl
@[simp] theorem State.handDemand_hand (s : State) (x : DemandEvent) : (s.handDemand x).hand = { s.hand with demandEvents := s.hand.demandEvents ++ [x] } := rfl
@[simp] theorem State.handDemand_freeCount (s : State) (x : DemandEvent) : (s.handDemand x).freeCount = s.freeCount := rfl
@[simp] theorem State.handDemand_pending (s : State) (x : DemandEvent) : (s.handDemand x).pending = s.pending := rfl

@[simp] theorem State.handDemands_cs (s : State) (x : List DemandEvent) : (s.handDemands x).cs = s.cs := rfl
@[simp] theorem State.handDemands_pos (s : State) (x : List DemandEvent) : (s.handDemands x).pos = s.pos := rfl
@[simp] theorem State.handDemands_zt (s : State) (x : List DemandEvent) : (s.handDemands x).zt = s.zt := rfl
@[simp] theorem State.handDemands_asu (s : State) (x : List DemandEvent) : (s.handDemands x).asu = s.asu := rfl
@[simp] theorem State.handDemands_msu (s : State) (x : List DemandEvent) : (s.handDemands x).msu = s.msu := rfl
@[simp] theorem State.handDemands_brc (s : State) (x : List DemandEvent) : (s.handDemands x).brc = s.brc := rfl
@[simp] theorem State.handDemands_wm (s : State) (x : List DemandEvent) : (s.handDemands x).wm = s.wm := rfl
@[simp] theorem State.handDemands_slu (s : State) (x : List DemandEvent) : (s.handDemands x).slu = s.slu := rfl
@[simp] theorem State.handDemands_dsu (s : State) (x : List DemandEvent) : (s.handDemands x).dsu = s.dsu := rfl
@[simp] theorem State.handDemands_spu (s : State) (x : List DemandEvent) : (s.handDemands x).spu = s.spu := rfl
@[simp] theorem State.handDemands_nu (s : State) (x : List DemandEvent) : (s.handDemands x).nu = s.nu := rfl
@[simp] theorem State.handDemands_fr (s : State) (x : List DemandEvent) : (s.handDemands x).fr = s.fr := rfl
@[simp] theorem State.handDemands_hand (s : State) (x : List DemandEvent) : (s.handDemands x).hand = { s.hand with demandEvents := s.hand.demandEvents ++ x } := rfl
@[simp] theorem State.handDemands_freeCount (s : State) (x : List DemandEvent) : (s.handDemands x).freeCount = s.freeCount := rfl
@[simp] theorem State.handDemands_pending (s : State) (x : List DemandEvent) : (s.handDemands x).pending = s.pending := rfl

@[simp] theorem State.handCut_cs (s : State) (x : CutEvent) : (s.handCut x).cs = s.cs := rfl
@[simp] theorem State.handCut_pos (s : State) (x : CutEvent) : (s.handCut x).pos = s.pos := rfl
@[simp] theorem State.handCut_zt (s : State) (x : CutEvent) : (s.handCut x).zt = s.zt := rfl
@[simp] theorem State.handCut_asu (s : State) (x : CutEvent) : (s.handCut x).asu = s.asu := rfl
@[simp] theorem State.handCut_msu (s : State) (x : CutEvent) : (s.handCut x).msu = s.msu := rfl
@[simp] theorem State.handCut_brc (s : State) (x : CutEvent) : (s.handCut x).brc = s.brc := rfl
@[simp] theorem State.handCut_wm (s : State) (x : CutEvent) : (s.handCut x).wm = s.wm := rfl
@[simp] theorem State.handCut_slu (s : State) (x : CutEvent) : (s.handCut x).slu = s.slu := rfl
@[simp] theorem State.handCut_dsu (s : State) (x : CutEvent) : (s.handCut x).dsu = s.dsu := rfl
@[simp] theorem State.handCut_spu (s : State) (x : CutEvent) : (s.handCut x).spu = s.spu := rfl
@[simp] theorem State.handCut_nu (s : State) (x : CutEvent) : (s.handCut x).nu = s.nu := rfl
@[simp] theorem State.handCut_fr (s : State) (x : CutEvent) : (s.handCut x).fr = s.fr := rfl
@[simp] theorem State.handCut_hand (s : State) (x : CutEvent) : (s.handCut x).hand = { s.hand with cuts := s.hand.cuts ++ [x] } := rfl
@[simp] theorem State.handCut_freeCount (s : State) (x : CutEvent) : (s.handCut x).freeCount = s.freeCount := rfl
@[simp] theorem State.handCut_pending (s : State) (x : CutEvent) : (s.handCut x).pending = s.pending := rfl

@[simp] theorem State.handMoverChange_cs (s : State) (m : Mover) (st : MoverState) : (s.handMoverChange m st).cs = s.cs := rfl
@[simp] theorem State.handMoverChange_pos (s : State) (m : Mover) (st : MoverState) : (s.handMoverChange m st).pos = s.pos := rfl
@[simp] theorem State.handMoverChange_zt (s : State) (m : Mover) (st : MoverState) : (s.handMoverChange m st).zt = s.zt := rfl
@[simp] theorem State.handMoverChange_asu (s : State) (m : Mover) (st : MoverState) : (s.handMoverChange m st).asu = s.asu := rfl
@[simp] theorem State.handMoverChange_msu (s : State) (m : Mover) (st : MoverState) : (s.handMoverChange m st).msu = s.msu := rfl
@[simp] theorem State.handMoverChange_brc (s : State) (m : Mover) (st : MoverState) : (s.handMoverChange m st).brc = s.brc := rfl
@[simp] theorem State.handMoverChange_wm (s : State) (m : Mover) (st : MoverState) : (s.handMoverChange m st).wm = s.wm := rfl
@[simp] theorem State.handMoverChange_slu (s : State) (m : Mover) (st : MoverState) : (s.handMoverChange m st).slu = s.slu := rfl
@[simp] theorem State.handMoverChange_dsu (s : State) (m : Mover) (st : MoverState) : (s.handMoverChange m st).dsu = s.dsu := rfl
@[simp] theorem State.handMoverChange_spu (s : State) (m : Mover) (st : MoverState) : (s.handMoverChange m st).spu = s.spu := rfl
@[simp] theorem State.handMoverChange_nu (s : State) (m : Mover) (st : MoverState) : (s.handMoverChange m st).nu = s.nu := rfl
@[simp] theorem State.handMoverChange_fr (s : State) (m : Mover) (st : MoverState) : (s.handMoverChange m st).fr = s.fr := rfl
@[simp] theorem State.handMoverChange_hand (s : State) (m : Mover) (st : MoverState) : (s.handMoverChange m st).hand = { s.hand with moverChanges := s.hand.moverChanges ++ [⟨m, st⟩] } := rfl
@[simp] theorem State.handMoverChange_freeCount (s : State) (m : Mover) (st : MoverState) : (s.handMoverChange m st).freeCount = s.freeCount := rfl
@[simp] theorem State.handMoverChange_pending (s : State) (m : Mover) (st : MoverState) : (s.handMoverChange m st).pending = s.pending := rfl

@[simp] theorem State.handSwitchLoss_cs (s : State) (b : Brace) : (s.handSwitchLoss b).cs = s.cs := rfl
@[simp] theorem State.handSwitchLoss_pos (s : State) (b : Brace) : (s.handSwitchLoss b).pos = s.pos := rfl
@[simp] theorem State.handSwitchLoss_zt (s : State) (b : Brace) : (s.handSwitchLoss b).zt = s.zt := rfl
@[simp] theorem State.handSwitchLoss_asu (s : State) (b : Brace) : (s.handSwitchLoss b).asu = s.asu := rfl
@[simp] theorem State.handSwitchLoss_msu (s : State) (b : Brace) : (s.handSwitchLoss b).msu = s.msu := rfl
@[simp] theorem State.handSwitchLoss_brc (s : State) (b : Brace) : (s.handSwitchLoss b).brc = s.brc := rfl
@[simp] theorem State.handSwitchLoss_wm (s : State) (b : Brace) : (s.handSwitchLoss b).wm = s.wm := rfl
@[simp] theorem State.handSwitchLoss_slu (s : State) (b : Brace) : (s.handSwitchLoss b).slu = s.slu := rfl
@[simp] theorem State.handSwitchLoss_dsu (s : State) (b : Brace) : (s.handSwitchLoss b).dsu = s.dsu := rfl
@[simp] theorem State.handSwitchLoss_spu (s : State) (b : Brace) : (s.handSwitchLoss b).spu = s.spu := rfl
@[simp] theorem State.handSwitchLoss_nu (s : State) (b : Brace) : (s.handSwitchLoss b).nu = s.nu := rfl
@[simp] theorem State.handSwitchLoss_fr (s : State) (b : Brace) : (s.handSwitchLoss b).fr = s.fr := rfl
@[simp] theorem State.handSwitchLoss_hand (s : State) (b : Brace) : (s.handSwitchLoss b).hand = { s.hand with switchLosses := s.hand.switchLosses ++ [b] } := rfl
@[simp] theorem State.handSwitchLoss_freeCount (s : State) (b : Brace) : (s.handSwitchLoss b).freeCount = s.freeCount := rfl
@[simp] theorem State.handSwitchLoss_pending (s : State) (b : Brace) : (s.handSwitchLoss b).pending = s.pending := rfl

@[simp] theorem State.handConsumed_cs (s : State) (m : Mover) : (s.handConsumed m).cs = s.cs := rfl
@[simp] theorem State.handConsumed_pos (s : State) (m : Mover) : (s.handConsumed m).pos = s.pos := rfl
@[simp] theorem State.handConsumed_zt (s : State) (m : Mover) : (s.handConsumed m).zt = s.zt := rfl
@[simp] theorem State.handConsumed_asu (s : State) (m : Mover) : (s.handConsumed m).asu = s.asu := rfl
@[simp] theorem State.handConsumed_msu (s : State) (m : Mover) : (s.handConsumed m).msu = s.msu := rfl
@[simp] theorem State.handConsumed_brc (s : State) (m : Mover) : (s.handConsumed m).brc = s.brc := rfl
@[simp] theorem State.handConsumed_wm (s : State) (m : Mover) : (s.handConsumed m).wm = s.wm := rfl
@[simp] theorem State.handConsumed_slu (s : State) (m : Mover) : (s.handConsumed m).slu = s.slu := rfl
@[simp] theorem State.handConsumed_dsu (s : State) (m : Mover) : (s.handConsumed m).dsu = s.dsu := rfl
@[simp] theorem State.handConsumed_spu (s : State) (m : Mover) : (s.handConsumed m).spu = s.spu := rfl
@[simp] theorem State.handConsumed_nu (s : State) (m : Mover) : (s.handConsumed m).nu = s.nu := rfl
@[simp] theorem State.handConsumed_fr (s : State) (m : Mover) : (s.handConsumed m).fr = s.fr := rfl
@[simp] theorem State.handConsumed_hand (s : State) (m : Mover) : (s.handConsumed m).hand = { s.hand with consumed := s.hand.consumed ++ [m] } := rfl
@[simp] theorem State.handConsumed_freeCount (s : State) (m : Mover) : (s.handConsumed m).freeCount = s.freeCount := rfl
@[simp] theorem State.handConsumed_pending (s : State) (m : Mover) : (s.handConsumed m).pending = s.pending := rfl

@[simp] theorem State.handValidity_cs (s : State) (v : ValidityChange) : (s.handValidity v).cs = s.cs := rfl
@[simp] theorem State.handValidity_pos (s : State) (v : ValidityChange) : (s.handValidity v).pos = s.pos := rfl
@[simp] theorem State.handValidity_zt (s : State) (v : ValidityChange) : (s.handValidity v).zt = s.zt := rfl
@[simp] theorem State.handValidity_asu (s : State) (v : ValidityChange) : (s.handValidity v).asu = s.asu := rfl
@[simp] theorem State.handValidity_msu (s : State) (v : ValidityChange) : (s.handValidity v).msu = s.msu := rfl
@[simp] theorem State.handValidity_brc (s : State) (v : ValidityChange) : (s.handValidity v).brc = s.brc := rfl
@[simp] theorem State.handValidity_wm (s : State) (v : ValidityChange) : (s.handValidity v).wm = s.wm := rfl
@[simp] theorem State.handValidity_slu (s : State) (v : ValidityChange) : (s.handValidity v).slu = s.slu := rfl
@[simp] theorem State.handValidity_dsu (s : State) (v : ValidityChange) : (s.handValidity v).dsu = s.dsu := rfl
@[simp] theorem State.handValidity_spu (s : State) (v : ValidityChange) : (s.handValidity v).spu = s.spu := rfl
@[simp] theorem State.handValidity_nu (s : State) (v : ValidityChange) : (s.handValidity v).nu = s.nu := rfl
@[simp] theorem State.handValidity_fr (s : State) (v : ValidityChange) : (s.handValidity v).fr = s.fr := rfl
@[simp] theorem State.handValidity_hand (s : State) (v : ValidityChange) : (s.handValidity v).hand = { s.hand with validity := s.hand.validity ++ [v] } := rfl
@[simp] theorem State.handValidity_freeCount (s : State) (v : ValidityChange) : (s.handValidity v).freeCount = s.freeCount := rfl
@[simp] theorem State.handValidity_pending (s : State) (v : ValidityChange) : (s.handValidity v).pending = s.pending := rfl

@[simp] theorem State.handDeviceChange_cs (s : State) (c : DeviceChange) : (s.handDeviceChange c).cs = s.cs := rfl
@[simp] theorem State.handDeviceChange_pos (s : State) (c : DeviceChange) : (s.handDeviceChange c).pos = s.pos := rfl
@[simp] theorem State.handDeviceChange_zt (s : State) (c : DeviceChange) : (s.handDeviceChange c).zt = s.zt := rfl
@[simp] theorem State.handDeviceChange_asu (s : State) (c : DeviceChange) : (s.handDeviceChange c).asu = s.asu := rfl
@[simp] theorem State.handDeviceChange_msu (s : State) (c : DeviceChange) : (s.handDeviceChange c).msu = s.msu := rfl
@[simp] theorem State.handDeviceChange_brc (s : State) (c : DeviceChange) : (s.handDeviceChange c).brc = s.brc := rfl
@[simp] theorem State.handDeviceChange_wm (s : State) (c : DeviceChange) : (s.handDeviceChange c).wm = s.wm := rfl
@[simp] theorem State.handDeviceChange_slu (s : State) (c : DeviceChange) : (s.handDeviceChange c).slu = s.slu := rfl
@[simp] theorem State.handDeviceChange_dsu (s : State) (c : DeviceChange) : (s.handDeviceChange c).dsu = s.dsu := rfl
@[simp] theorem State.handDeviceChange_spu (s : State) (c : DeviceChange) : (s.handDeviceChange c).spu = s.spu := rfl
@[simp] theorem State.handDeviceChange_nu (s : State) (c : DeviceChange) : (s.handDeviceChange c).nu = s.nu := rfl
@[simp] theorem State.handDeviceChange_fr (s : State) (c : DeviceChange) : (s.handDeviceChange c).fr = s.fr := rfl
@[simp] theorem State.handDeviceChange_hand (s : State) (c : DeviceChange) : (s.handDeviceChange c).hand = { s.hand with deviceChanges := s.hand.deviceChanges ++ [c] } := rfl
@[simp] theorem State.handDeviceChange_freeCount (s : State) (c : DeviceChange) : (s.handDeviceChange c).freeCount = s.freeCount := rfl
@[simp] theorem State.handDeviceChange_pending (s : State) (c : DeviceChange) : (s.handDeviceChange c).pending = s.pending := rfl

@[simp] theorem State.post_cs (s : State) (b : Block) (r : List Port) (n : Notice) : (s.post b r n).cs = s.cs := rfl
@[simp] theorem State.post_pos (s : State) (b : Block) (r : List Port) (n : Notice) : (s.post b r n).pos = s.pos := rfl
@[simp] theorem State.post_zt (s : State) (b : Block) (r : List Port) (n : Notice) : (s.post b r n).zt = s.zt := rfl
@[simp] theorem State.post_asu (s : State) (b : Block) (r : List Port) (n : Notice) : (s.post b r n).asu = s.asu := rfl
@[simp] theorem State.post_msu (s : State) (b : Block) (r : List Port) (n : Notice) : (s.post b r n).msu = s.msu := rfl
@[simp] theorem State.post_brc (s : State) (b : Block) (r : List Port) (n : Notice) : (s.post b r n).brc = s.brc := rfl
@[simp] theorem State.post_wm (s : State) (b : Block) (r : List Port) (n : Notice) : (s.post b r n).wm = s.wm := rfl
@[simp] theorem State.post_slu (s : State) (b : Block) (r : List Port) (n : Notice) : (s.post b r n).slu = s.slu := rfl
@[simp] theorem State.post_dsu (s : State) (b : Block) (r : List Port) (n : Notice) : (s.post b r n).dsu = s.dsu := rfl
@[simp] theorem State.post_spu (s : State) (b : Block) (r : List Port) (n : Notice) : (s.post b r n).spu = s.spu := rfl
@[simp] theorem State.post_nu (s : State) (b : Block) (r : List Port) (n : Notice) : (s.post b r n).nu = s.nu := rfl
@[simp] theorem State.post_fr (s : State) (b : Block) (r : List Port) (n : Notice) : (s.post b r n).fr = s.fr := rfl
@[simp] theorem State.post_hand (s : State) (b : Block) (r : List Port) (n : Notice) : (s.post b r n).hand = { s.hand with postings := s.hand.postings ++ [⟨b, r, n⟩] } := rfl
@[simp] theorem State.post_freeCount (s : State) (b : Block) (r : List Port) (n : Notice) : (s.post b r n).freeCount = s.freeCount := rfl
@[simp] theorem State.post_pending (s : State) (b : Block) (r : List Port) (n : Notice) : (s.post b r n).pending = s.pending := rfl

@[simp] theorem State.postAll_cs (s : State) (ps : List Posting) : (s.postAll ps).cs = s.cs := rfl
@[simp] theorem State.postAll_pos (s : State) (ps : List Posting) : (s.postAll ps).pos = s.pos := rfl
@[simp] theorem State.postAll_zt (s : State) (ps : List Posting) : (s.postAll ps).zt = s.zt := rfl
@[simp] theorem State.postAll_asu (s : State) (ps : List Posting) : (s.postAll ps).asu = s.asu := rfl
@[simp] theorem State.postAll_msu (s : State) (ps : List Posting) : (s.postAll ps).msu = s.msu := rfl
@[simp] theorem State.postAll_brc (s : State) (ps : List Posting) : (s.postAll ps).brc = s.brc := rfl
@[simp] theorem State.postAll_wm (s : State) (ps : List Posting) : (s.postAll ps).wm = s.wm := rfl
@[simp] theorem State.postAll_slu (s : State) (ps : List Posting) : (s.postAll ps).slu = s.slu := rfl
@[simp] theorem State.postAll_dsu (s : State) (ps : List Posting) : (s.postAll ps).dsu = s.dsu := rfl
@[simp] theorem State.postAll_spu (s : State) (ps : List Posting) : (s.postAll ps).spu = s.spu := rfl
@[simp] theorem State.postAll_nu (s : State) (ps : List Posting) : (s.postAll ps).nu = s.nu := rfl
@[simp] theorem State.postAll_fr (s : State) (ps : List Posting) : (s.postAll ps).fr = s.fr := rfl
@[simp] theorem State.postAll_hand (s : State) (ps : List Posting) : (s.postAll ps).hand = { s.hand with postings := s.hand.postings ++ ps } := rfl
@[simp] theorem State.postAll_freeCount (s : State) (ps : List Posting) : (s.postAll ps).freeCount = s.freeCount := rfl
@[simp] theorem State.postAll_pending (s : State) (ps : List Posting) : (s.postAll ps).pending = s.pending := rfl

/-! ## The fixed tables -/

@[simp] theorem PerMover.get_set_self {α : Type} (t : PerMover α) (k : Mover) (x : α) : (t.set k x).get k = x := by cases k <;> rfl
theorem PerMover.get_set_of_ne {α : Type} (t : PerMover α) (k j : Mover) (x : α) (h : j ≠ k) : (t.set k x).get j = t.get j := by
  cases k <;> cases j <;> first | rfl | exact absurd rfl h
theorem PerMover.get_set {α : Type} (t : PerMover α) (k j : Mover) (x : α) : (t.set k x).get j = if j = k then x else t.get j := by
  by_cases h : j = k
  · subst h; simp
  · simp [h, PerMover.get_set_of_ne]
@[simp] theorem PerMover.get_ofFn {α : Type} (f : Mover → α) (k : Mover) : (PerMover.ofFn f).get k = f k := by cases k <;> rfl
theorem PerMover.get_modify {α : Type} (t : PerMover α) (k j : Mover) (f : α → α) :
    (t.modify k f).get j = if j = k then f (t.get k) else t.get j := by
  simp [PerMover.modify, PerMover.get_set]
@[ext] theorem PerMover.ext_get {α : Type} {t u : PerMover α} (h : ∀ k, t.get k = u.get k) : t = u := by
  cases t; cases u; simp only [PerMover.mk.injEq]
  exact ⟨h .p1, h .p2, h .p3, h .p4, h .tray⟩
@[simp] theorem PerMover.set_get_self {α : Type} (t : PerMover α) (k : Mover) : t.set k (t.get k) = t := by cases k <;> rfl
@[simp] theorem PerMover.set_set {α : Type} (t : PerMover α) (k : Mover) (x y : α) : (t.set k x).set k y = t.set k y := by cases k <;> rfl

@[simp] theorem PerAxis.get_set_self {α : Type} (t : PerAxis α) (k : Axis) (x : α) : (t.set k x).get k = x := by cases k <;> rfl
theorem PerAxis.get_set_of_ne {α : Type} (t : PerAxis α) (k j : Axis) (x : α) (h : j ≠ k) : (t.set k x).get j = t.get j := by
  cases k <;> cases j <;> first | rfl | exact absurd rfl h
theorem PerAxis.get_set {α : Type} (t : PerAxis α) (k j : Axis) (x : α) : (t.set k x).get j = if j = k then x else t.get j := by
  by_cases h : j = k
  · subst h; simp
  · simp [h, PerAxis.get_set_of_ne]
@[simp] theorem PerAxis.get_ofFn {α : Type} (f : Axis → α) (k : Axis) : (PerAxis.ofFn f).get k = f k := by cases k <;> rfl
theorem PerAxis.get_modify {α : Type} (t : PerAxis α) (k j : Axis) (f : α → α) :
    (t.modify k f).get j = if j = k then f (t.get k) else t.get j := by
  simp [PerAxis.modify, PerAxis.get_set]
@[ext] theorem PerAxis.ext_get {α : Type} {t u : PerAxis α} (h : ∀ k, t.get k = u.get k) : t = u := by
  cases t; cases u; simp only [PerAxis.mk.injEq]
  exact ⟨h .a1, h .a2, h .a3, h .a4, h .a5, h .a6, h .a7, h .a8, h .a9, h .a10, h .a11, h .a12⟩
@[simp] theorem PerAxis.set_get_self {α : Type} (t : PerAxis α) (k : Axis) : t.set k (t.get k) = t := by cases k <;> rfl
@[simp] theorem PerAxis.set_set {α : Type} (t : PerAxis α) (k : Axis) (x y : α) : (t.set k x).set k y = t.set k y := by cases k <;> rfl

@[simp] theorem PerPort.get_set_self {α : Type} (t : PerPort α) (k : Port) (x : α) : (t.set k x).get k = x := by cases k <;> rfl
theorem PerPort.get_set_of_ne {α : Type} (t : PerPort α) (k j : Port) (x : α) (h : j ≠ k) : (t.set k x).get j = t.get j := by
  cases k <;> cases j <;> first | rfl | exact absurd rfl h
theorem PerPort.get_set {α : Type} (t : PerPort α) (k j : Port) (x : α) : (t.set k x).get j = if j = k then x else t.get j := by
  by_cases h : j = k
  · subst h; simp
  · simp [h, PerPort.get_set_of_ne]
@[simp] theorem PerPort.get_ofFn {α : Type} (f : Port → α) (k : Port) : (PerPort.ofFn f).get k = f k := by cases k <;> rfl
theorem PerPort.get_modify {α : Type} (t : PerPort α) (k j : Port) (f : α → α) :
    (t.modify k f).get j = if j = k then f (t.get k) else t.get j := by
  simp [PerPort.modify, PerPort.get_set]
@[ext] theorem PerPort.ext_get {α : Type} {t u : PerPort α} (h : ∀ k, t.get k = u.get k) : t = u := by
  cases t; cases u; simp only [PerPort.mk.injEq]
  exact ⟨h .roof, h .pitch, h .venue⟩
@[simp] theorem PerPort.set_get_self {α : Type} (t : PerPort α) (k : Port) : t.set k (t.get k) = t := by cases k <;> rfl
@[simp] theorem PerPort.set_set {α : Type} (t : PerPort α) (k : Port) (x y : α) : (t.set k x).set k y = t.set k y := by cases k <;> rfl

@[simp] theorem PerBrace.get_set_self {α : Type} (t : PerBrace α) (k : Brace) (x : α) : (t.set k x).get k = x := by cases k <;> rfl
theorem PerBrace.get_set_of_ne {α : Type} (t : PerBrace α) (k j : Brace) (x : α) (h : j ≠ k) : (t.set k x).get j = t.get j := by
  cases k <;> cases j <;> first | rfl | exact absurd rfl h
theorem PerBrace.get_set {α : Type} (t : PerBrace α) (k j : Brace) (x : α) : (t.set k x).get j = if j = k then x else t.get j := by
  by_cases h : j = k
  · subst h; simp
  · simp [h, PerBrace.get_set_of_ne]
@[simp] theorem PerBrace.get_ofFn {α : Type} (f : Brace → α) (k : Brace) : (PerBrace.ofFn f).get k = f k := by cases k <;> rfl
theorem PerBrace.get_modify {α : Type} (t : PerBrace α) (k j : Brace) (f : α → α) :
    (t.modify k f).get j = if j = k then f (t.get k) else t.get j := by
  simp [PerBrace.modify, PerBrace.get_set]
@[ext] theorem PerBrace.ext_get {α : Type} {t u : PerBrace α} (h : ∀ k, t.get k = u.get k) : t = u := by
  cases t; cases u; simp only [PerBrace.mk.injEq]
  exact ⟨h .east, h .west⟩
@[simp] theorem PerBrace.set_get_self {α : Type} (t : PerBrace α) (k : Brace) : t.set k (t.get k) = t := by cases k <;> rfl
@[simp] theorem PerBrace.set_set {α : Type} (t : PerBrace α) (k : Brace) (x y : α) : (t.set k x).set k y = t.set k y := by cases k <;> rfl

@[simp] theorem PerChannel.get_set_self {α : Type} (t : PerChannel α) (k : LoopChannel) (x : α) : (t.set k x).get k = x := by cases k <;> rfl
theorem PerChannel.get_set_of_ne {α : Type} (t : PerChannel α) (k j : LoopChannel) (x : α) (h : j ≠ k) : (t.set k x).get j = t.get j := by
  cases k <;> cases j <;> first | rfl | exact absurd rfl h
theorem PerChannel.get_set {α : Type} (t : PerChannel α) (k j : LoopChannel) (x : α) : (t.set k x).get j = if j = k then x else t.get j := by
  by_cases h : j = k
  · subst h; simp
  · simp [h, PerChannel.get_set_of_ne]
@[simp] theorem PerChannel.get_ofFn {α : Type} (f : LoopChannel → α) (k : LoopChannel) : (PerChannel.ofFn f).get k = f k := by cases k <;> rfl
theorem PerChannel.get_modify {α : Type} (t : PerChannel α) (k j : LoopChannel) (f : α → α) :
    (t.modify k f).get j = if j = k then f (t.get k) else t.get j := by
  simp [PerChannel.modify, PerChannel.get_set]
@[ext] theorem PerChannel.ext_get {α : Type} {t u : PerChannel α} (h : ∀ k, t.get k = u.get k) : t = u := by
  cases t; cases u; simp only [PerChannel.mk.injEq]
  exact ⟨h .a, h .b⟩
@[simp] theorem PerChannel.set_get_self {α : Type} (t : PerChannel α) (k : LoopChannel) : t.set k (t.get k) = t := by cases k <;> rfl
@[simp] theorem PerChannel.set_set {α : Type} (t : PerChannel α) (k : LoopChannel) (x y : α) : (t.set k x).set k y = t.set k y := by cases k <;> rfl

@[simp] theorem PerAnemometer.get_set_self {α : Type} (t : PerAnemometer α) (k : Anemometer) (x : α) : (t.set k x).get k = x := by cases k <;> rfl
theorem PerAnemometer.get_set_of_ne {α : Type} (t : PerAnemometer α) (k j : Anemometer) (x : α) (h : j ≠ k) : (t.set k x).get j = t.get j := by
  cases k <;> cases j <;> first | rfl | exact absurd rfl h
theorem PerAnemometer.get_set {α : Type} (t : PerAnemometer α) (k j : Anemometer) (x : α) : (t.set k x).get j = if j = k then x else t.get j := by
  by_cases h : j = k
  · subst h; simp
  · simp [h, PerAnemometer.get_set_of_ne]
@[simp] theorem PerAnemometer.get_ofFn {α : Type} (f : Anemometer → α) (k : Anemometer) : (PerAnemometer.ofFn f).get k = f k := by cases k <;> rfl
theorem PerAnemometer.get_modify {α : Type} (t : PerAnemometer α) (k j : Anemometer) (f : α → α) :
    (t.modify k f).get j = if j = k then f (t.get k) else t.get j := by
  simp [PerAnemometer.modify, PerAnemometer.get_set]
@[ext] theorem PerAnemometer.ext_get {α : Type} {t u : PerAnemometer α} (h : ∀ k, t.get k = u.get k) : t = u := by
  cases t; cases u; simp only [PerAnemometer.mk.injEq]
  exact ⟨h .first, h .second⟩
@[simp] theorem PerAnemometer.set_get_self {α : Type} (t : PerAnemometer α) (k : Anemometer) : t.set k (t.get k) = t := by cases k <;> rfl
@[simp] theorem PerAnemometer.set_set {α : Type} (t : PerAnemometer α) (k : Anemometer) (x y : α) : (t.set k x).set k y = t.set k y := by cases k <;> rfl

/-! ## The bodies and the wind a demand test goes by -/

@[simp] theorem State.bodies_get (s : State) (m : Mover) : s.bodies.get m = (s.pos.movers.get m).body := PerMover.get_ofFn _ m
@[simp] theorem State.viewNow_body (s : State) : s.viewNow.body = s.zt.body := rfl
@[simp] theorem State.viewNow_mean (s : State) : s.viewNow.mean = s.wm.mean := rfl
@[simp] theorem State.viewNow_gust (s : State) : s.viewNow.gust = s.wm.gust := rfl
@[simp] theorem State.viewNow_wind (s : State) : s.viewNow.wind = s.wm.state := rfl

/-- A closure's test takes the closure's wind and the bodies as they stand (R132). -/
@[simp] theorem State.viewOn_closure (s : State) (mean gust : Int) (st : WindState) :
    s.viewOn (.closure mean gust st) = ⟨s.zt.body, mean, gust, st⟩ := rfl

/-- A position update's test takes its mover's body from the update, and no other (R123). -/
@[simp] theorem State.viewOn_bodyChange_get (s : State) (u : PositionUpdate) (m : Mover) :
    (s.viewOn (.bodyChange u)).body.get m = if m = u.mover then u.body else s.zt.body.get m := by
  simp only [State.viewOn, PerMover.get_set]

/-- Any other event's test takes everything as it stands. -/
theorem State.viewOn_other (s : State) (e : DemandEvent) (hc : ∀ x y z, e ≠ .closure x y z) (hb : ∀ u, e ≠ .bodyChange u) :
    s.viewOn e = s.viewNow := by
  cases e with
  | closure x y z => exact absurd rfl (hc x y z)
  | bodyChange u => exact absurd rfl (hb u)
  | braceChange | holdReport | deviceChange | commit => rfl

/-- Only a body change waits, and only while a hold report is in flight (R125, log 38). -/
theorem State.demandWaits_eq_true (s : State) (src : DemandSource) :
    s.demandWaits src = true ↔ (∃ m, src = .bodyChange m) ∧ .holdReport ∈ s.hand.demandEvents := by
  cases src <;> simp [State.demandWaits]

/-- A fold of an operation that keeps something keeps it. -/
theorem foldl_keeps {α β : Type} (g : State → β) (f : State → α → State) (h : ∀ s x, g (f s x) = g s) (l : List α)
    (s : State) : g (l.foldl f s) = g s := by
  induction l generalizing s with
  | nil => rfl
  | cons x xs ih => rw [List.foldl_cons, ih, h]

/-- A fold of an operation that keeps a property keeps it. -/
theorem foldl_preserves {α : Type} (P : State → Prop) (f : State → α → State) (h : ∀ s x, P s → P (f s x)) (l : List α)
    (s : State) (hs : P s) : P (l.foldl f s) := by
  induction l generalizing s with
  | nil => exact hs
  | cons x xs ih => exact ih _ (h _ _ hs)

end Sys2Proof.Machine
end

