-- ==== Sys2Proof/Laws/Frames.lean ====
section
/-! SUPPORT. For each operation of the machine, every block it leaves as it was. -/

set_option linter.all false

namespace Sys2Proof.Machine

@[simp] theorem State.commandRelay_frame (s : State) (m : Mover) (closed : Bool) :
    (s.commandRelay m closed).cs = s.cs ∧ (s.commandRelay m closed).pos = s.pos
      ∧ (s.commandRelay m closed).zt = s.zt ∧ (s.commandRelay m closed).asu = s.asu
      ∧ (s.commandRelay m closed).brc = s.brc ∧ (s.commandRelay m closed).wm = s.wm
      ∧ (s.commandRelay m closed).slu = s.slu ∧ (s.commandRelay m closed).dsu = s.dsu
      ∧ (s.commandRelay m closed).spu = s.spu ∧ (s.commandRelay m closed).nu = s.nu
      ∧ (s.commandRelay m closed).fr = s.fr ∧ (s.commandRelay m closed).hand = s.hand
      ∧ (s.commandRelay m closed).freeCount = s.freeCount ∧ (s.commandRelay m closed).pending = s.pending := by
  simp only [State.commandRelay]; (repeat' split) <;> simp

@[simp] theorem State.openAllRelays_frame (s : State) :
    (s.openAllRelays).cs = s.cs ∧ (s.openAllRelays).pos = s.pos ∧ (s.openAllRelays).zt = s.zt
      ∧ (s.openAllRelays).asu = s.asu ∧ (s.openAllRelays).brc = s.brc ∧ (s.openAllRelays).wm = s.wm
      ∧ (s.openAllRelays).slu = s.slu ∧ (s.openAllRelays).dsu = s.dsu ∧ (s.openAllRelays).spu = s.spu
      ∧ (s.openAllRelays).nu = s.nu ∧ (s.openAllRelays).fr = s.fr ∧ (s.openAllRelays).hand = s.hand
      ∧ (s.openAllRelays).freeCount = s.freeCount ∧ (s.openAllRelays).pending = s.pending := by
  simp [State.openAllRelays, allMovers, panels]

@[simp] theorem State.enterDevice_frame (s : State) (d : DeviceState) :
    (s.enterDevice d).cs = s.cs ∧ (s.enterDevice d).pos = s.pos ∧ (s.enterDevice d).zt = s.zt
      ∧ (s.enterDevice d).asu = s.asu ∧ (s.enterDevice d).msu = s.msu ∧ (s.enterDevice d).brc = s.brc
      ∧ (s.enterDevice d).wm = s.wm ∧ (s.enterDevice d).slu = s.slu ∧ (s.enterDevice d).spu = s.spu
      ∧ (s.enterDevice d).nu = s.nu ∧ (s.enterDevice d).fr = s.fr ∧ (s.enterDevice d).freeCount = s.freeCount
      ∧ (s.enterDevice d).pending = s.pending := by
  simp only [State.enterDevice]; (repeat' split) <;> simp

@[simp] theorem State.changeDevice_frame (s : State) (d : DeviceState) :
    (s.changeDevice d).cs = s.cs ∧ (s.changeDevice d).pos = s.pos ∧ (s.changeDevice d).zt = s.zt
      ∧ (s.changeDevice d).asu = s.asu ∧ (s.changeDevice d).msu = s.msu ∧ (s.changeDevice d).brc = s.brc
      ∧ (s.changeDevice d).wm = s.wm ∧ (s.changeDevice d).slu = s.slu ∧ (s.changeDevice d).spu = s.spu
      ∧ (s.changeDevice d).nu = s.nu ∧ (s.changeDevice d).fr = s.fr ∧ (s.changeDevice d).freeCount = s.freeCount
      ∧ (s.changeDevice d).pending = s.pending := by
  simp [State.changeDevice]

@[simp] theorem State.endArmingStep_frame (s : State) :
    (s.endArmingStep).cs = s.cs ∧ (s.endArmingStep).pos = s.pos ∧ (s.endArmingStep).zt = s.zt
      ∧ (s.endArmingStep).asu = s.asu ∧ (s.endArmingStep).msu = s.msu ∧ (s.endArmingStep).brc = s.brc
      ∧ (s.endArmingStep).wm = s.wm ∧ (s.endArmingStep).slu = s.slu ∧ (s.endArmingStep).spu = s.spu
      ∧ (s.endArmingStep).nu = s.nu ∧ (s.endArmingStep).fr = s.fr ∧ (s.endArmingStep).hand = s.hand
      ∧ (s.endArmingStep).freeCount = s.freeCount ∧ (s.endArmingStep).pending = s.pending := by
  simp [State.endArmingStep]

@[simp] theorem State.postArmingFailed_frame (s : State) (item : Nat) :
    (s.postArmingFailed item).cs = s.cs ∧ (s.postArmingFailed item).pos = s.pos
      ∧ (s.postArmingFailed item).zt = s.zt ∧ (s.postArmingFailed item).asu = s.asu
      ∧ (s.postArmingFailed item).msu = s.msu ∧ (s.postArmingFailed item).brc = s.brc
      ∧ (s.postArmingFailed item).wm = s.wm ∧ (s.postArmingFailed item).slu = s.slu
      ∧ (s.postArmingFailed item).dsu = s.dsu ∧ (s.postArmingFailed item).spu = s.spu
      ∧ (s.postArmingFailed item).nu = s.nu ∧ (s.postArmingFailed item).fr = s.fr
      ∧ (s.postArmingFailed item).freeCount = s.freeCount ∧ (s.postArmingFailed item).pending = s.pending := by
  simp [State.postArmingFailed]

@[simp] theorem State.openRelayUnderTest_frame (s : State) :
    (s.openRelayUnderTest).cs = s.cs ∧ (s.openRelayUnderTest).pos = s.pos ∧ (s.openRelayUnderTest).zt = s.zt
      ∧ (s.openRelayUnderTest).asu = s.asu ∧ (s.openRelayUnderTest).brc = s.brc ∧ (s.openRelayUnderTest).wm = s.wm
      ∧ (s.openRelayUnderTest).slu = s.slu ∧ (s.openRelayUnderTest).dsu = s.dsu ∧ (s.openRelayUnderTest).spu = s.spu
      ∧ (s.openRelayUnderTest).nu = s.nu ∧ (s.openRelayUnderTest).fr = s.fr ∧ (s.openRelayUnderTest).hand = s.hand
      ∧ (s.openRelayUnderTest).freeCount = s.freeCount ∧ (s.openRelayUnderTest).pending = s.pending := by
  unfold State.openRelayUnderTest; (repeat' split) <;> simp

@[simp] theorem State.failArming_frame (s : State) (item : Nat) :
    (s.failArming item).cs = s.cs ∧ (s.failArming item).pos = s.pos ∧ (s.failArming item).zt = s.zt
      ∧ (s.failArming item).asu = s.asu ∧ (s.failArming item).brc = s.brc ∧ (s.failArming item).wm = s.wm
      ∧ (s.failArming item).slu = s.slu ∧ (s.failArming item).spu = s.spu ∧ (s.failArming item).nu = s.nu
      ∧ (s.failArming item).fr = s.fr ∧ (s.failArming item).freeCount = s.freeCount
      ∧ (s.failArming item).pending = s.pending := by
  simp [State.failArming]

@[simp] theorem State.enterLocked_frame (s : State) (fault : Cause) :
    (s.enterLocked fault).cs = s.cs ∧ (s.enterLocked fault).pos = s.pos ∧ (s.enterLocked fault).zt = s.zt
      ∧ (s.enterLocked fault).asu = s.asu ∧ (s.enterLocked fault).brc = s.brc ∧ (s.enterLocked fault).wm = s.wm
      ∧ (s.enterLocked fault).slu = s.slu ∧ (s.enterLocked fault).spu = s.spu ∧ (s.enterLocked fault).nu = s.nu
      ∧ (s.enterLocked fault).fr = s.fr ∧ (s.enterLocked fault).freeCount = s.freeCount
      ∧ (s.enterLocked fault).pending = s.pending := by
  simp [State.enterLocked]

@[simp] theorem State.takeDeviceFault_frame (s : State) (fault : Cause) :
    (s.takeDeviceFault fault).cs = s.cs ∧ (s.takeDeviceFault fault).pos = s.pos
      ∧ (s.takeDeviceFault fault).zt = s.zt ∧ (s.takeDeviceFault fault).asu = s.asu
      ∧ (s.takeDeviceFault fault).brc = s.brc ∧ (s.takeDeviceFault fault).wm = s.wm
      ∧ (s.takeDeviceFault fault).slu = s.slu ∧ (s.takeDeviceFault fault).spu = s.spu
      ∧ (s.takeDeviceFault fault).nu = s.nu ∧ (s.takeDeviceFault fault).fr = s.fr
      ∧ (s.takeDeviceFault fault).freeCount = s.freeCount ∧ (s.takeDeviceFault fault).pending = s.pending := by
  unfold State.takeDeviceFault; (repeat' split) <;> simp

@[simp] theorem State.formGeometry_frame (s : State) (m : Mover) :
    (s.formGeometry m).cs = s.cs ∧ (s.formGeometry m).zt = s.zt ∧ (s.formGeometry m).asu = s.asu
      ∧ (s.formGeometry m).msu = s.msu ∧ (s.formGeometry m).brc = s.brc ∧ (s.formGeometry m).wm = s.wm
      ∧ (s.formGeometry m).slu = s.slu ∧ (s.formGeometry m).dsu = s.dsu ∧ (s.formGeometry m).spu = s.spu
      ∧ (s.formGeometry m).nu = s.nu ∧ (s.formGeometry m).fr = s.fr ∧ (s.formGeometry m).hand = s.hand
      ∧ (s.formGeometry m).freeCount = s.freeCount ∧ (s.formGeometry m).pending = s.pending := by
  unfold State.formGeometry; (repeat' split) <;> simp

@[simp] theorem State.commitZones_frame (s : State) (t : ZoneTable) :
    (s.commitZones t).cs = s.cs ∧ (s.commitZones t).pos = s.pos ∧ (s.commitZones t).asu = s.asu
      ∧ (s.commitZones t).msu = s.msu ∧ (s.commitZones t).brc = s.brc ∧ (s.commitZones t).wm = s.wm
      ∧ (s.commitZones t).slu = s.slu ∧ (s.commitZones t).dsu = s.dsu ∧ (s.commitZones t).spu = s.spu
      ∧ (s.commitZones t).nu = s.nu ∧ (s.commitZones t).fr = s.fr ∧ (s.commitZones t).freeCount = s.freeCount
      ∧ (s.commitZones t).pending = s.pending := by
  unfold State.commitZones; (repeat' split) <;> simp

@[simp] theorem State.mapZones_frame (s : State) (p : Path) (f : ZoneRec → ZoneRec) :
    (s.mapZones p f).cs = s.cs ∧ (s.mapZones p f).pos = s.pos ∧ (s.mapZones p f).asu = s.asu
      ∧ (s.mapZones p f).msu = s.msu ∧ (s.mapZones p f).brc = s.brc ∧ (s.mapZones p f).wm = s.wm
      ∧ (s.mapZones p f).slu = s.slu ∧ (s.mapZones p f).dsu = s.dsu ∧ (s.mapZones p f).spu = s.spu
      ∧ (s.mapZones p f).nu = s.nu ∧ (s.mapZones p f).fr = s.fr ∧ (s.mapZones p f).freeCount = s.freeCount
      ∧ (s.mapZones p f).pending = s.pending := by
  simp [State.mapZones]

@[simp] theorem State.parkingConversion_frame (s : State) (m : Mover) :
    (s.parkingConversion m).cs = s.cs ∧ (s.parkingConversion m).pos = s.pos ∧ (s.parkingConversion m).asu = s.asu
      ∧ (s.parkingConversion m).msu = s.msu ∧ (s.parkingConversion m).brc = s.brc
      ∧ (s.parkingConversion m).wm = s.wm ∧ (s.parkingConversion m).slu = s.slu
      ∧ (s.parkingConversion m).dsu = s.dsu ∧ (s.parkingConversion m).spu = s.spu
      ∧ (s.parkingConversion m).nu = s.nu ∧ (s.parkingConversion m).fr = s.fr
      ∧ (s.parkingConversion m).freeCount = s.freeCount ∧ (s.parkingConversion m).pending = s.pending := by
  simp [State.parkingConversion]

/-! Stage 4 by what the computation does with the cap (R65, R68, R71, R72). -/

@[simp] theorem stageCap_afresh (p : MoverParams) (d : Direction) (lead target : Int) (a : Authority) :
    stageCap p d lead target .afresh a = { a with targetCap := target, capInUse := target, descent := none } := rfl
@[simp] theorem stageCap_compared (p : MoverParams) (d : Direction) (lead target : Int) (a : Authority) :
    stageCap p d lead target .compared a = compareCap p d lead target (workDescent p d lead a) := rfl
@[simp] theorem stageCap_asItStands (p : MoverParams) (d : Direction) (lead target : Int) (a : Authority) :
    stageCap p d lead target .asItStands a = a := rfl

@[simp] theorem State.computeCeilings_frame (s : State) (m : Mover) (mo : Motion) (work : CapWork) :
    (s.computeCeilings m mo work).cs = s.cs ∧ (s.computeCeilings m mo work).pos = s.pos
      ∧ (s.computeCeilings m mo work).zt = s.zt ∧ (s.computeCeilings m mo work).msu = s.msu
      ∧ (s.computeCeilings m mo work).brc = s.brc ∧ (s.computeCeilings m mo work).wm = s.wm
      ∧ (s.computeCeilings m mo work).slu = s.slu ∧ (s.computeCeilings m mo work).dsu = s.dsu
      ∧ (s.computeCeilings m mo work).spu = s.spu ∧ (s.computeCeilings m mo work).nu = s.nu
      ∧ (s.computeCeilings m mo work).fr = s.fr ∧ (s.computeCeilings m mo work).hand = s.hand
      ∧ (s.computeCeilings m mo work).freeCount = s.freeCount
      ∧ (s.computeCeilings m mo work).pending = s.pending := by
  simp only [State.computeCeilings]; (repeat' split) <;> simp

@[simp] theorem State.computeCeilingsNow_frame (s : State) (m : Mover) (fresh : Bool) :
    (s.computeCeilingsNow m fresh).cs = s.cs ∧ (s.computeCeilingsNow m fresh).pos = s.pos
      ∧ (s.computeCeilingsNow m fresh).zt = s.zt ∧ (s.computeCeilingsNow m fresh).msu = s.msu
      ∧ (s.computeCeilingsNow m fresh).brc = s.brc ∧ (s.computeCeilingsNow m fresh).wm = s.wm
      ∧ (s.computeCeilingsNow m fresh).slu = s.slu ∧ (s.computeCeilingsNow m fresh).dsu = s.dsu
      ∧ (s.computeCeilingsNow m fresh).spu = s.spu ∧ (s.computeCeilingsNow m fresh).nu = s.nu
      ∧ (s.computeCeilingsNow m fresh).fr = s.fr ∧ (s.computeCeilingsNow m fresh).hand = s.hand
      ∧ (s.computeCeilingsNow m fresh).freeCount = s.freeCount
      ∧ (s.computeCeilingsNow m fresh).pending = s.pending := by
  unfold State.computeCeilingsNow; (repeat' split) <;> simp

@[simp] theorem State.clipOne_frame (s : State) (view : Mover → Option Motion) (m : Mover) :
    (s.clipOne view m).cs = s.cs ∧ (s.clipOne view m).pos = s.pos ∧ (s.clipOne view m).zt = s.zt
      ∧ (s.clipOne view m).msu = s.msu ∧ (s.clipOne view m).brc = s.brc ∧ (s.clipOne view m).wm = s.wm
      ∧ (s.clipOne view m).slu = s.slu ∧ (s.clipOne view m).dsu = s.dsu ∧ (s.clipOne view m).spu = s.spu
      ∧ (s.clipOne view m).nu = s.nu ∧ (s.clipOne view m).fr = s.fr ∧ (s.clipOne view m).hand = s.hand
      ∧ (s.clipOne view m).freeCount = s.freeCount ∧ (s.clipOne view m).pending = s.pending := by
  simp only [State.clipOne]; (repeat' split) <;> simp

@[simp] theorem State.tripAuthority_frame (s : State) (m : Mover) :
    (s.tripAuthority m).cs = s.cs ∧ (s.tripAuthority m).pos = s.pos ∧ (s.tripAuthority m).zt = s.zt
      ∧ (s.tripAuthority m).msu = s.msu ∧ (s.tripAuthority m).brc = s.brc ∧ (s.tripAuthority m).wm = s.wm
      ∧ (s.tripAuthority m).slu = s.slu ∧ (s.tripAuthority m).dsu = s.dsu ∧ (s.tripAuthority m).spu = s.spu
      ∧ (s.tripAuthority m).nu = s.nu ∧ (s.tripAuthority m).fr = s.fr ∧ (s.tripAuthority m).hand = s.hand
      ∧ (s.tripAuthority m).freeCount = s.freeCount ∧ (s.tripAuthority m).pending = s.pending := by
  simp [State.tripAuthority]

@[simp] theorem State.endAuthority_frame (s : State) (m : Mover) :
    (s.endAuthority m).cs = s.cs ∧ (s.endAuthority m).pos = s.pos ∧ (s.endAuthority m).zt = s.zt
      ∧ (s.endAuthority m).msu = s.msu ∧ (s.endAuthority m).brc = s.brc ∧ (s.endAuthority m).wm = s.wm
      ∧ (s.endAuthority m).slu = s.slu ∧ (s.endAuthority m).dsu = s.dsu ∧ (s.endAuthority m).spu = s.spu
      ∧ (s.endAuthority m).nu = s.nu ∧ (s.endAuthority m).fr = s.fr ∧ (s.endAuthority m).hand = s.hand
      ∧ (s.endAuthority m).freeCount = s.freeCount ∧ (s.endAuthority m).pending = s.pending := by
  simp [State.endAuthority]

@[simp] theorem State.postStopped_frame (s : State) (m : Mover) (severity : Nat) (c : Cause) :
    (s.postStopped m severity c).cs = s.cs ∧ (s.postStopped m severity c).pos = s.pos
      ∧ (s.postStopped m severity c).zt = s.zt ∧ (s.postStopped m severity c).asu = s.asu
      ∧ (s.postStopped m severity c).msu = s.msu ∧ (s.postStopped m severity c).brc = s.brc
      ∧ (s.postStopped m severity c).wm = s.wm ∧ (s.postStopped m severity c).slu = s.slu
      ∧ (s.postStopped m severity c).dsu = s.dsu ∧ (s.postStopped m severity c).spu = s.spu
      ∧ (s.postStopped m severity c).nu = s.nu ∧ (s.postStopped m severity c).fr = s.fr
      ∧ (s.postStopped m severity c).freeCount = s.freeCount
      ∧ (s.postStopped m severity c).pending = s.pending := by
  simp [State.postStopped]

@[simp] theorem State.postParked_frame (s : State) (m : Mover) (lead : Int) :
    (s.postParked m lead).cs = s.cs ∧ (s.postParked m lead).pos = s.pos ∧ (s.postParked m lead).zt = s.zt
      ∧ (s.postParked m lead).asu = s.asu ∧ (s.postParked m lead).msu = s.msu ∧ (s.postParked m lead).brc = s.brc
      ∧ (s.postParked m lead).wm = s.wm ∧ (s.postParked m lead).slu = s.slu ∧ (s.postParked m lead).dsu = s.dsu
      ∧ (s.postParked m lead).spu = s.spu ∧ (s.postParked m lead).nu = s.nu ∧ (s.postParked m lead).fr = s.fr
      ∧ (s.postParked m lead).freeCount = s.freeCount ∧ (s.postParked m lead).pending = s.pending := by
  simp [State.postParked]

@[simp] theorem State.tripMover_frame (s : State) (m : Mover) (c : Cause) (haltCauses : List Cause) :
    (s.tripMover m c haltCauses).cs = s.cs ∧ (s.tripMover m c haltCauses).pos = s.pos
      ∧ (s.tripMover m c haltCauses).zt = s.zt ∧ (s.tripMover m c haltCauses).brc = s.brc
      ∧ (s.tripMover m c haltCauses).wm = s.wm ∧ (s.tripMover m c haltCauses).slu = s.slu
      ∧ (s.tripMover m c haltCauses).dsu = s.dsu ∧ (s.tripMover m c haltCauses).spu = s.spu
      ∧ (s.tripMover m c haltCauses).nu = s.nu ∧ (s.tripMover m c haltCauses).fr = s.fr
      ∧ (s.tripMover m c haltCauses).freeCount = s.freeCount
      ∧ (s.tripMover m c haltCauses).pending = s.pending := by
  simp [State.tripMover]

@[simp] theorem State.haltParked_frame (s : State) (m : Mover) (c : Cause) :
    (s.haltParked m c).cs = s.cs ∧ (s.haltParked m c).pos = s.pos ∧ (s.haltParked m c).brc = s.brc
      ∧ (s.haltParked m c).wm = s.wm ∧ (s.haltParked m c).slu = s.slu ∧ (s.haltParked m c).dsu = s.dsu
      ∧ (s.haltParked m c).spu = s.spu ∧ (s.haltParked m c).nu = s.nu ∧ (s.haltParked m c).fr = s.fr
      ∧ (s.haltParked m c).freeCount = s.freeCount ∧ (s.haltParked m c).pending = s.pending := by
  simp [State.haltParked]

@[simp] theorem State.joinHaltCauses_frame (s : State) (m : Mover) (c : Cause) :
    (s.joinHaltCauses m c).cs = s.cs ∧ (s.joinHaltCauses m c).pos = s.pos ∧ (s.joinHaltCauses m c).zt = s.zt
      ∧ (s.joinHaltCauses m c).asu = s.asu ∧ (s.joinHaltCauses m c).brc = s.brc ∧ (s.joinHaltCauses m c).wm = s.wm
      ∧ (s.joinHaltCauses m c).slu = s.slu ∧ (s.joinHaltCauses m c).dsu = s.dsu ∧ (s.joinHaltCauses m c).spu = s.spu
      ∧ (s.joinHaltCauses m c).nu = s.nu ∧ (s.joinHaltCauses m c).fr = s.fr ∧ (s.joinHaltCauses m c).hand = s.hand
      ∧ (s.joinHaltCauses m c).freeCount = s.freeCount ∧ (s.joinHaltCauses m c).pending = s.pending := by
  simp [State.joinHaltCauses]

@[simp] theorem State.applyImmediate_frame (s : State) (c : Cause) (m : Mover) :
    (s.applyImmediate c m).cs = s.cs ∧ (s.applyImmediate c m).pos = s.pos ∧ (s.applyImmediate c m).brc = s.brc
      ∧ (s.applyImmediate c m).wm = s.wm ∧ (s.applyImmediate c m).slu = s.slu ∧ (s.applyImmediate c m).dsu = s.dsu
      ∧ (s.applyImmediate c m).spu = s.spu ∧ (s.applyImmediate c m).nu = s.nu ∧ (s.applyImmediate c m).fr = s.fr
      ∧ (s.applyImmediate c m).freeCount = s.freeCount ∧ (s.applyImmediate c m).pending = s.pending := by
  unfold State.applyImmediate; (repeat' split) <;> simp

@[simp] theorem State.drawBack_frame (s : State) (m : Mover) :
    (s.drawBack m).cs = s.cs ∧ (s.drawBack m).pos = s.pos ∧ (s.drawBack m).zt = s.zt ∧ (s.drawBack m).msu = s.msu
      ∧ (s.drawBack m).brc = s.brc ∧ (s.drawBack m).wm = s.wm ∧ (s.drawBack m).slu = s.slu
      ∧ (s.drawBack m).dsu = s.dsu ∧ (s.drawBack m).spu = s.spu ∧ (s.drawBack m).nu = s.nu
      ∧ (s.drawBack m).fr = s.fr ∧ (s.drawBack m).hand = s.hand ∧ (s.drawBack m).freeCount = s.freeCount
      ∧ (s.drawBack m).pending = s.pending := by
  simp only [State.drawBack]; (repeat' split) <;> simp

@[simp] theorem State.startStop_frame (s : State) (c : Cause) (m : Mover) :
    (s.startStop c m).cs = s.cs ∧ (s.startStop c m).pos = s.pos ∧ (s.startStop c m).zt = s.zt
      ∧ (s.startStop c m).brc = s.brc ∧ (s.startStop c m).wm = s.wm ∧ (s.startStop c m).slu = s.slu
      ∧ (s.startStop c m).dsu = s.dsu ∧ (s.startStop c m).spu = s.spu ∧ (s.startStop c m).nu = s.nu
      ∧ (s.startStop c m).fr = s.fr ∧ (s.startStop c m).freeCount = s.freeCount
      ∧ (s.startStop c m).pending = s.pending := by
  simp [State.startStop]

@[simp] theorem State.hardenStop_frame (s : State) (c : Cause) (m : Mover) :
    (s.hardenStop c m).cs = s.cs ∧ (s.hardenStop c m).pos = s.pos ∧ (s.hardenStop c m).zt = s.zt
      ∧ (s.hardenStop c m).asu = s.asu ∧ (s.hardenStop c m).brc = s.brc ∧ (s.hardenStop c m).wm = s.wm
      ∧ (s.hardenStop c m).slu = s.slu ∧ (s.hardenStop c m).dsu = s.dsu ∧ (s.hardenStop c m).spu = s.spu
      ∧ (s.hardenStop c m).nu = s.nu ∧ (s.hardenStop c m).fr = s.fr ∧ (s.hardenStop c m).freeCount = s.freeCount
      ∧ (s.hardenStop c m).pending = s.pending := by
  simp only [State.hardenStop]; (repeat' split) <;> simp

@[simp] theorem State.applyControlled_frame (s : State) (c : Cause) (m : Mover) :
    (s.applyControlled c m).cs = s.cs ∧ (s.applyControlled c m).pos = s.pos ∧ (s.applyControlled c m).zt = s.zt
      ∧ (s.applyControlled c m).brc = s.brc ∧ (s.applyControlled c m).wm = s.wm
      ∧ (s.applyControlled c m).slu = s.slu ∧ (s.applyControlled c m).dsu = s.dsu
      ∧ (s.applyControlled c m).spu = s.spu ∧ (s.applyControlled c m).nu = s.nu ∧ (s.applyControlled c m).fr = s.fr
      ∧ (s.applyControlled c m).freeCount = s.freeCount ∧ (s.applyControlled c m).pending = s.pending := by
  unfold State.applyControlled; (repeat' split) <;> simp

@[simp] theorem State.applyCause_frame (s : State) (c : Cause) (m : Mover) :
    (s.applyCause c m).cs = s.cs ∧ (s.applyCause c m).pos = s.pos ∧ (s.applyCause c m).brc = s.brc
      ∧ (s.applyCause c m).wm = s.wm ∧ (s.applyCause c m).slu = s.slu ∧ (s.applyCause c m).dsu = s.dsu
      ∧ (s.applyCause c m).spu = s.spu ∧ (s.applyCause c m).nu = s.nu ∧ (s.applyCause c m).fr = s.fr
      ∧ (s.applyCause c m).freeCount = s.freeCount ∧ (s.applyCause c m).pending = s.pending := by
  unfold State.applyCause; (repeat' split) <;> simp

@[simp] theorem State.takeCause_frame (s : State) (c : CauseMessage) :
    (s.takeCause c).cs = s.cs ∧ (s.takeCause c).pos = s.pos ∧ (s.takeCause c).brc = s.brc
      ∧ (s.takeCause c).wm = s.wm ∧ (s.takeCause c).slu = s.slu ∧ (s.takeCause c).dsu = s.dsu
      ∧ (s.takeCause c).spu = s.spu ∧ (s.takeCause c).nu = s.nu ∧ (s.takeCause c).fr = s.fr
      ∧ (s.takeCause c).freeCount = s.freeCount ∧ (s.takeCause c).pending = s.pending := by
  unfold State.takeCause; refine ⟨foldl_keeps (fun t : State => t.cs) _ (by intros; simp) _ _,
      foldl_keeps (fun t : State => t.pos) _ (by intros; simp) _ _,
      foldl_keeps (fun t : State => t.brc) _ (by intros; simp) _ _,
      foldl_keeps (fun t : State => t.wm) _ (by intros; simp) _ _,
      foldl_keeps (fun t : State => t.slu) _ (by intros; simp) _ _,
      foldl_keeps (fun t : State => t.dsu) _ (by intros; simp) _ _,
      foldl_keeps (fun t : State => t.spu) _ (by intros; simp) _ _,
      foldl_keeps (fun t : State => t.nu) _ (by intros; simp) _ _,
      foldl_keeps (fun t : State => t.fr) _ (by intros; simp) _ _,
      foldl_keeps (fun t : State => t.freeCount) _ (by intros; simp) _ _,
      foldl_keeps (fun t : State => t.pending) _ (by intros; simp) _ _⟩

@[simp] theorem State.comeToRest_frame (s : State) (m : Mover) (stopEnd : StopEnd) (lead : Int) :
    (s.comeToRest m stopEnd lead).cs = s.cs ∧ (s.comeToRest m stopEnd lead).pos = s.pos
      ∧ (s.comeToRest m stopEnd lead).brc = s.brc ∧ (s.comeToRest m stopEnd lead).wm = s.wm
      ∧ (s.comeToRest m stopEnd lead).slu = s.slu ∧ (s.comeToRest m stopEnd lead).dsu = s.dsu
      ∧ (s.comeToRest m stopEnd lead).spu = s.spu ∧ (s.comeToRest m stopEnd lead).nu = s.nu
      ∧ (s.comeToRest m stopEnd lead).fr = s.fr ∧ (s.comeToRest m stopEnd lead).freeCount = s.freeCount
      ∧ (s.comeToRest m stopEnd lead).pending = s.pending := by
  unfold State.comeToRest; (repeat' split) <;> simp

@[simp] theorem State.endTrip_frame (s : State) (m : Mover) (lead : Int) :
    (s.endTrip m lead).cs = s.cs ∧ (s.endTrip m lead).pos = s.pos ∧ (s.endTrip m lead).brc = s.brc
      ∧ (s.endTrip m lead).wm = s.wm ∧ (s.endTrip m lead).slu = s.slu ∧ (s.endTrip m lead).dsu = s.dsu
      ∧ (s.endTrip m lead).spu = s.spu ∧ (s.endTrip m lead).nu = s.nu ∧ (s.endTrip m lead).fr = s.fr
      ∧ (s.endTrip m lead).freeCount = s.freeCount ∧ (s.endTrip m lead).pending = s.pending := by
  simp [State.endTrip]

@[simp] theorem State.takeHead_frame (s : State) (p : Port) :
    (s.takeHead p).cs = s.cs ∧ (s.takeHead p).pos = s.pos ∧ (s.takeHead p).zt = s.zt ∧ (s.takeHead p).asu = s.asu
      ∧ (s.takeHead p).msu = s.msu ∧ (s.takeHead p).brc = s.brc ∧ (s.takeHead p).wm = s.wm
      ∧ (s.takeHead p).slu = s.slu ∧ (s.takeHead p).dsu = s.dsu ∧ (s.takeHead p).nu = s.nu
      ∧ (s.takeHead p).fr = s.fr ∧ (s.takeHead p).hand = s.hand ∧ (s.takeHead p).freeCount = s.freeCount
      ∧ (s.takeHead p).pending = s.pending := by
  simp [State.takeHead]

@[simp] theorem State.putFrame_frame (s : State) (p : Port) (f : ReplyFrame) :
    (s.putFrame p f).cs = s.cs ∧ (s.putFrame p f).pos = s.pos ∧ (s.putFrame p f).zt = s.zt
      ∧ (s.putFrame p f).asu = s.asu ∧ (s.putFrame p f).msu = s.msu ∧ (s.putFrame p f).brc = s.brc
      ∧ (s.putFrame p f).wm = s.wm ∧ (s.putFrame p f).slu = s.slu ∧ (s.putFrame p f).dsu = s.dsu
      ∧ (s.putFrame p f).nu = s.nu ∧ (s.putFrame p f).fr = s.fr ∧ (s.putFrame p f).hand = s.hand
      ∧ (s.putFrame p f).freeCount = s.freeCount ∧ (s.putFrame p f).pending = s.pending := by
  simp [State.putFrame]

@[simp] theorem State.reply_frame (s : State) (p : Port) (tag : Byte) (a : Answer) :
    (s.reply p tag a).cs = s.cs ∧ (s.reply p tag a).pos = s.pos ∧ (s.reply p tag a).zt = s.zt
      ∧ (s.reply p tag a).asu = s.asu ∧ (s.reply p tag a).msu = s.msu ∧ (s.reply p tag a).brc = s.brc
      ∧ (s.reply p tag a).wm = s.wm ∧ (s.reply p tag a).slu = s.slu ∧ (s.reply p tag a).dsu = s.dsu
      ∧ (s.reply p tag a).nu = s.nu ∧ (s.reply p tag a).fr = s.fr ∧ (s.reply p tag a).hand = s.hand
      ∧ (s.reply p tag a).freeCount = s.freeCount ∧ (s.reply p tag a).pending = s.pending := by
  simp [State.reply]

@[simp] theorem State.formMotion_frame (s : State) (m : Mover) :
    (s.formMotion m).cs = s.cs ∧ (s.formMotion m).zt = s.zt ∧ (s.formMotion m).asu = s.asu
      ∧ (s.formMotion m).msu = s.msu ∧ (s.formMotion m).brc = s.brc ∧ (s.formMotion m).wm = s.wm
      ∧ (s.formMotion m).slu = s.slu ∧ (s.formMotion m).dsu = s.dsu ∧ (s.formMotion m).spu = s.spu
      ∧ (s.formMotion m).nu = s.nu ∧ (s.formMotion m).fr = s.fr ∧ (s.formMotion m).hand = s.hand
      ∧ (s.formMotion m).freeCount = s.freeCount ∧ (s.formMotion m).pending = s.pending := by
  simp [State.formMotion]

@[simp] theorem State.handUpdate_frame (s : State) (u : PositionUpdate) :
    (s.handUpdate u).cs = s.cs ∧ (s.handUpdate u).pos = s.pos ∧ (s.handUpdate u).zt = s.zt
      ∧ (s.handUpdate u).asu = s.asu ∧ (s.handUpdate u).msu = s.msu ∧ (s.handUpdate u).brc = s.brc
      ∧ (s.handUpdate u).wm = s.wm ∧ (s.handUpdate u).slu = s.slu ∧ (s.handUpdate u).dsu = s.dsu
      ∧ (s.handUpdate u).spu = s.spu ∧ (s.handUpdate u).nu = s.nu ∧ (s.handUpdate u).fr = s.fr
      ∧ (s.handUpdate u).freeCount = s.freeCount ∧ (s.handUpdate u).pending = s.pending := by
  simp [State.handUpdate]

@[simp] theorem State.raiseAgainstAxis_frame (s : State) (c : Cause) (a : Axis) :
    (s.raiseAgainstAxis c a).cs = s.cs ∧ (s.raiseAgainstAxis c a).pos = s.pos ∧ (s.raiseAgainstAxis c a).zt = s.zt
      ∧ (s.raiseAgainstAxis c a).asu = s.asu ∧ (s.raiseAgainstAxis c a).msu = s.msu
      ∧ (s.raiseAgainstAxis c a).brc = s.brc ∧ (s.raiseAgainstAxis c a).wm = s.wm
      ∧ (s.raiseAgainstAxis c a).slu = s.slu ∧ (s.raiseAgainstAxis c a).dsu = s.dsu
      ∧ (s.raiseAgainstAxis c a).spu = s.spu ∧ (s.raiseAgainstAxis c a).nu = s.nu
      ∧ (s.raiseAgainstAxis c a).fr = s.fr ∧ (s.raiseAgainstAxis c a).freeCount = s.freeCount
      ∧ (s.raiseAgainstAxis c a).pending = s.pending := by
  simp [State.raiseAgainstAxis]

@[simp] theorem State.handValidityChange_frame (s : State) (a : Axis) (before : Validity) :
    (s.handValidityChange a before).cs = s.cs ∧ (s.handValidityChange a before).pos = s.pos
      ∧ (s.handValidityChange a before).zt = s.zt ∧ (s.handValidityChange a before).asu = s.asu
      ∧ (s.handValidityChange a before).msu = s.msu ∧ (s.handValidityChange a before).brc = s.brc
      ∧ (s.handValidityChange a before).wm = s.wm ∧ (s.handValidityChange a before).slu = s.slu
      ∧ (s.handValidityChange a before).dsu = s.dsu ∧ (s.handValidityChange a before).spu = s.spu
      ∧ (s.handValidityChange a before).nu = s.nu ∧ (s.handValidityChange a before).fr = s.fr
      ∧ (s.handValidityChange a before).freeCount = s.freeCount
      ∧ (s.handValidityChange a before).pending = s.pending := by
  simp only [State.handValidityChange]; (repeat' split) <;> simp

@[simp] theorem State.setAxis_frame (s : State) (a : Axis) (r : AxisRec) :
    (s.setAxis a r).cs = s.cs ∧ (s.setAxis a r).zt = s.zt ∧ (s.setAxis a r).asu = s.asu
      ∧ (s.setAxis a r).msu = s.msu ∧ (s.setAxis a r).brc = s.brc ∧ (s.setAxis a r).wm = s.wm
      ∧ (s.setAxis a r).slu = s.slu ∧ (s.setAxis a r).dsu = s.dsu ∧ (s.setAxis a r).spu = s.spu
      ∧ (s.setAxis a r).nu = s.nu ∧ (s.setAxis a r).fr = s.fr ∧ (s.setAxis a r).hand = s.hand
      ∧ (s.setAxis a r).freeCount = s.freeCount ∧ (s.setAxis a r).pending = s.pending := by
  simp [State.setAxis]

@[simp] theorem State.recordReading_frame (s : State) (a : Axis) (role : ReaderRole) (f : ReadingFrame) (st : GoodStatus) :
    (s.recordReading a role f st).cs = s.cs ∧ (s.recordReading a role f st).zt = s.zt
      ∧ (s.recordReading a role f st).asu = s.asu ∧ (s.recordReading a role f st).msu = s.msu
      ∧ (s.recordReading a role f st).brc = s.brc ∧ (s.recordReading a role f st).wm = s.wm
      ∧ (s.recordReading a role f st).slu = s.slu ∧ (s.recordReading a role f st).dsu = s.dsu
      ∧ (s.recordReading a role f st).spu = s.spu ∧ (s.recordReading a role f st).nu = s.nu
      ∧ (s.recordReading a role f st).fr = s.fr ∧ (s.recordReading a role f st).freeCount = s.freeCount
      ∧ (s.recordReading a role f st).pending = s.pending := by
  simp only [State.recordReading]; (repeat' split) <;> simp

@[simp] theorem State.crossCheckAxis_frame (s : State) (a : Axis) (role : ReaderRole) (position : Int) :
    (s.crossCheckAxis a role position).1.cs = s.cs ∧ (s.crossCheckAxis a role position).1.zt = s.zt
      ∧ (s.crossCheckAxis a role position).1.asu = s.asu ∧ (s.crossCheckAxis a role position).1.msu = s.msu
      ∧ (s.crossCheckAxis a role position).1.brc = s.brc ∧ (s.crossCheckAxis a role position).1.wm = s.wm
      ∧ (s.crossCheckAxis a role position).1.slu = s.slu ∧ (s.crossCheckAxis a role position).1.dsu = s.dsu
      ∧ (s.crossCheckAxis a role position).1.spu = s.spu ∧ (s.crossCheckAxis a role position).1.nu = s.nu
      ∧ (s.crossCheckAxis a role position).1.fr = s.fr ∧ (s.crossCheckAxis a role position).1.hand = s.hand
      ∧ (s.crossCheckAxis a role position).1.freeCount = s.freeCount
      ∧ (s.crossCheckAxis a role position).1.pending = s.pending := by
  simp only [State.crossCheckAxis]; (repeat' split) <;> simp

@[simp] theorem State.goodReading_frame (s : State) (a : Axis) (role : ReaderRole) (f : ReadingFrame) (st : GoodStatus) :
    (s.goodReading a role f st).cs = s.cs ∧ (s.goodReading a role f st).zt = s.zt
      ∧ (s.goodReading a role f st).asu = s.asu ∧ (s.goodReading a role f st).msu = s.msu
      ∧ (s.goodReading a role f st).brc = s.brc ∧ (s.goodReading a role f st).wm = s.wm
      ∧ (s.goodReading a role f st).slu = s.slu ∧ (s.goodReading a role f st).dsu = s.dsu
      ∧ (s.goodReading a role f st).spu = s.spu ∧ (s.goodReading a role f st).nu = s.nu
      ∧ (s.goodReading a role f st).fr = s.fr ∧ (s.goodReading a role f st).freeCount = s.freeCount
      ∧ (s.goodReading a role f st).pending = s.pending := by
  simp only [State.goodReading]; (repeat' split) <;> simp

@[simp] theorem State.takeReading_frame (s : State) (bus : ReaderBus) (f : ReadingFrame) :
    (s.takeReading bus f).cs = s.cs ∧ (s.takeReading bus f).zt = s.zt ∧ (s.takeReading bus f).asu = s.asu
      ∧ (s.takeReading bus f).msu = s.msu ∧ (s.takeReading bus f).brc = s.brc ∧ (s.takeReading bus f).wm = s.wm
      ∧ (s.takeReading bus f).slu = s.slu ∧ (s.takeReading bus f).dsu = s.dsu ∧ (s.takeReading bus f).spu = s.spu
      ∧ (s.takeReading bus f).nu = s.nu ∧ (s.takeReading bus f).fr = s.fr
      ∧ (s.takeReading bus f).freeCount = s.freeCount ∧ (s.takeReading bus f).pending = s.pending := by
  unfold State.takeReading; (repeat' split) <;> simp

@[simp] theorem State.takeGapExpiry_frame (s : State) (a : Axis) (role : ReaderRole) :
    (s.takeGapExpiry a role).cs = s.cs ∧ (s.takeGapExpiry a role).zt = s.zt ∧ (s.takeGapExpiry a role).asu = s.asu
      ∧ (s.takeGapExpiry a role).msu = s.msu ∧ (s.takeGapExpiry a role).brc = s.brc
      ∧ (s.takeGapExpiry a role).wm = s.wm ∧ (s.takeGapExpiry a role).slu = s.slu
      ∧ (s.takeGapExpiry a role).dsu = s.dsu ∧ (s.takeGapExpiry a role).spu = s.spu
      ∧ (s.takeGapExpiry a role).nu = s.nu ∧ (s.takeGapExpiry a role).fr = s.fr
      ∧ (s.takeGapExpiry a role).freeCount = s.freeCount ∧ (s.takeGapExpiry a role).pending = s.pending := by
  simp only [State.takeGapExpiry]; (repeat' split) <;> simp

@[simp] theorem State.takeLossExpiry_frame (s : State) (a : Axis) :
    (s.takeLossExpiry a).cs = s.cs ∧ (s.takeLossExpiry a).zt = s.zt ∧ (s.takeLossExpiry a).asu = s.asu
      ∧ (s.takeLossExpiry a).msu = s.msu ∧ (s.takeLossExpiry a).brc = s.brc ∧ (s.takeLossExpiry a).wm = s.wm
      ∧ (s.takeLossExpiry a).slu = s.slu ∧ (s.takeLossExpiry a).dsu = s.dsu ∧ (s.takeLossExpiry a).spu = s.spu
      ∧ (s.takeLossExpiry a).nu = s.nu ∧ (s.takeLossExpiry a).fr = s.fr
      ∧ (s.takeLossExpiry a).freeCount = s.freeCount ∧ (s.takeLossExpiry a).pending = s.pending := by
  simp only [State.takeLossExpiry]; (repeat' split) <;> simp

@[simp] theorem State.reserveRange_frame (s : State) (m : Mover) (r : ZoneRange) :
    (s.reserveRange m r).1.cs = s.cs ∧ (s.reserveRange m r).1.pos = s.pos ∧ (s.reserveRange m r).1.asu = s.asu
      ∧ (s.reserveRange m r).1.msu = s.msu ∧ (s.reserveRange m r).1.brc = s.brc ∧ (s.reserveRange m r).1.wm = s.wm
      ∧ (s.reserveRange m r).1.slu = s.slu ∧ (s.reserveRange m r).1.dsu = s.dsu ∧ (s.reserveRange m r).1.spu = s.spu
      ∧ (s.reserveRange m r).1.nu = s.nu ∧ (s.reserveRange m r).1.fr = s.fr
      ∧ (s.reserveRange m r).1.freeCount = s.freeCount ∧ (s.reserveRange m r).1.pending = s.pending := by
  unfold State.reserveRange; (repeat' split) <;> simp

@[simp] theorem State.shortenAuthority_frame (s : State) (m : Mover) :
    (s.shortenAuthority m).cs = s.cs ∧ (s.shortenAuthority m).pos = s.pos ∧ (s.shortenAuthority m).zt = s.zt
      ∧ (s.shortenAuthority m).msu = s.msu ∧ (s.shortenAuthority m).brc = s.brc ∧ (s.shortenAuthority m).wm = s.wm
      ∧ (s.shortenAuthority m).slu = s.slu ∧ (s.shortenAuthority m).dsu = s.dsu ∧ (s.shortenAuthority m).spu = s.spu
      ∧ (s.shortenAuthority m).nu = s.nu ∧ (s.shortenAuthority m).fr = s.fr ∧ (s.shortenAuthority m).hand = s.hand
      ∧ (s.shortenAuthority m).freeCount = s.freeCount ∧ (s.shortenAuthority m).pending = s.pending := by
  simp only [State.shortenAuthority]; (repeat' split) <;> simp

@[simp] theorem State.releaseRange_frame (s : State) (m : Mover) (r : ZoneRange) :
    (s.releaseRange m r).1.cs = s.cs ∧ (s.releaseRange m r).1.pos = s.pos ∧ (s.releaseRange m r).1.msu = s.msu
      ∧ (s.releaseRange m r).1.brc = s.brc ∧ (s.releaseRange m r).1.wm = s.wm ∧ (s.releaseRange m r).1.slu = s.slu
      ∧ (s.releaseRange m r).1.dsu = s.dsu ∧ (s.releaseRange m r).1.spu = s.spu ∧ (s.releaseRange m r).1.nu = s.nu
      ∧ (s.releaseRange m r).1.fr = s.fr ∧ (s.releaseRange m r).1.freeCount = s.freeCount
      ∧ (s.releaseRange m r).1.pending = s.pending := by
  simp only [State.releaseRange]; (repeat' split) <;> simp

@[simp] theorem State.barRange_frame (s : State) (p : Path) (r : ZoneRange) (f : ZoneRec → ZoneRec) :
    (s.barRange p r f).1.cs = s.cs ∧ (s.barRange p r f).1.pos = s.pos ∧ (s.barRange p r f).1.asu = s.asu
      ∧ (s.barRange p r f).1.msu = s.msu ∧ (s.barRange p r f).1.brc = s.brc ∧ (s.barRange p r f).1.wm = s.wm
      ∧ (s.barRange p r f).1.slu = s.slu ∧ (s.barRange p r f).1.dsu = s.dsu ∧ (s.barRange p r f).1.spu = s.spu
      ∧ (s.barRange p r f).1.nu = s.nu ∧ (s.barRange p r f).1.fr = s.fr
      ∧ (s.barRange p r f).1.freeCount = s.freeCount ∧ (s.barRange p r f).1.pending = s.pending := by
  simp [State.barRange]

@[simp] theorem State.updateZones_frame (s : State) (u : PositionUpdate) :
    (s.updateZones u).cs = s.cs ∧ (s.updateZones u).pos = s.pos ∧ (s.updateZones u).asu = s.asu
      ∧ (s.updateZones u).msu = s.msu ∧ (s.updateZones u).brc = s.brc ∧ (s.updateZones u).wm = s.wm
      ∧ (s.updateZones u).slu = s.slu ∧ (s.updateZones u).dsu = s.dsu ∧ (s.updateZones u).spu = s.spu
      ∧ (s.updateZones u).nu = s.nu ∧ (s.updateZones u).fr = s.fr ∧ (s.updateZones u).freeCount = s.freeCount
      ∧ (s.updateZones u).pending = s.pending := by
  simp [State.updateZones]

@[simp] theorem State.takeUpdateZt_frame (s : State) (m : Mover) :
    (s.takeUpdateZt m).cs = s.cs ∧ (s.takeUpdateZt m).pos = s.pos ∧ (s.takeUpdateZt m).asu = s.asu
      ∧ (s.takeUpdateZt m).msu = s.msu ∧ (s.takeUpdateZt m).brc = s.brc ∧ (s.takeUpdateZt m).wm = s.wm
      ∧ (s.takeUpdateZt m).slu = s.slu ∧ (s.takeUpdateZt m).dsu = s.dsu ∧ (s.takeUpdateZt m).spu = s.spu
      ∧ (s.takeUpdateZt m).nu = s.nu ∧ (s.takeUpdateZt m).fr = s.fr ∧ (s.takeUpdateZt m).freeCount = s.freeCount
      ∧ (s.takeUpdateZt m).pending = s.pending := by
  unfold State.takeUpdateZt; (repeat' split) <;> simp

@[simp] theorem State.loseHolds_frame (s : State) :
    (s.loseHolds).cs = s.cs ∧ (s.loseHolds).pos = s.pos ∧ (s.loseHolds).asu = s.asu ∧ (s.loseHolds).msu = s.msu
      ∧ (s.loseHolds).brc = s.brc ∧ (s.loseHolds).wm = s.wm ∧ (s.loseHolds).slu = s.slu ∧ (s.loseHolds).dsu = s.dsu
      ∧ (s.loseHolds).spu = s.spu ∧ (s.loseHolds).nu = s.nu ∧ (s.loseHolds).fr = s.fr
      ∧ (s.loseHolds).freeCount = s.freeCount ∧ (s.loseHolds).pending = s.pending := by
  simp [State.loseHolds]

@[simp] theorem State.takeSwitchLoss_frame (s : State) :
    (s.takeSwitchLoss).cs = s.cs ∧ (s.takeSwitchLoss).pos = s.pos ∧ (s.takeSwitchLoss).asu = s.asu
      ∧ (s.takeSwitchLoss).msu = s.msu ∧ (s.takeSwitchLoss).brc = s.brc ∧ (s.takeSwitchLoss).wm = s.wm
      ∧ (s.takeSwitchLoss).slu = s.slu ∧ (s.takeSwitchLoss).dsu = s.dsu ∧ (s.takeSwitchLoss).spu = s.spu
      ∧ (s.takeSwitchLoss).nu = s.nu ∧ (s.takeSwitchLoss).fr = s.fr ∧ (s.takeSwitchLoss).freeCount = s.freeCount
      ∧ (s.takeSwitchLoss).pending = s.pending := by
  unfold State.takeSwitchLoss; (repeat' split) <;> simp

@[simp] theorem State.permit_frame (s : State) (m : Mover) :
    (s.permit m).cs = s.cs ∧ (s.permit m).pos = s.pos ∧ (s.permit m).zt = s.zt ∧ (s.permit m).asu = s.asu
      ∧ (s.permit m).brc = s.brc ∧ (s.permit m).wm = s.wm ∧ (s.permit m).slu = s.slu ∧ (s.permit m).dsu = s.dsu
      ∧ (s.permit m).spu = s.spu ∧ (s.permit m).nu = s.nu ∧ (s.permit m).fr = s.fr
      ∧ (s.permit m).freeCount = s.freeCount ∧ (s.permit m).pending = s.pending := by
  simp [State.permit]

@[simp] theorem State.restartFurthest_frame (s : State) (m : Mover) :
    (s.restartFurthest m).cs = s.cs ∧ (s.restartFurthest m).zt = s.zt ∧ (s.restartFurthest m).asu = s.asu
      ∧ (s.restartFurthest m).msu = s.msu ∧ (s.restartFurthest m).brc = s.brc ∧ (s.restartFurthest m).wm = s.wm
      ∧ (s.restartFurthest m).slu = s.slu ∧ (s.restartFurthest m).dsu = s.dsu ∧ (s.restartFurthest m).spu = s.spu
      ∧ (s.restartFurthest m).nu = s.nu ∧ (s.restartFurthest m).fr = s.fr ∧ (s.restartFurthest m).hand = s.hand
      ∧ (s.restartFurthest m).freeCount = s.freeCount ∧ (s.restartFurthest m).pending = s.pending := by
  simp [State.restartFurthest]

@[simp] theorem State.grantMove_frame (s : State) (port : Port) (m : Mover) (d : Direction) (position : Int) :
    (s.grantMove port m d position).cs = s.cs ∧ (s.grantMove port m d position).zt = s.zt
      ∧ (s.grantMove port m d position).brc = s.brc ∧ (s.grantMove port m d position).wm = s.wm
      ∧ (s.grantMove port m d position).slu = s.slu ∧ (s.grantMove port m d position).dsu = s.dsu
      ∧ (s.grantMove port m d position).spu = s.spu ∧ (s.grantMove port m d position).nu = s.nu
      ∧ (s.grantMove port m d position).fr = s.fr ∧ (s.grantMove port m d position).freeCount = s.freeCount
      ∧ (s.grantMove port m d position).pending = s.pending := by
  simp only [State.grantMove]; (repeat' split) <;> simp

@[simp] theorem State.askMove_frame (s : State) (port : Port) (m : Mover) (d : Direction) (target : Int) :
    (s.askMove port m d target).1.cs = s.cs ∧ (s.askMove port m d target).1.zt = s.zt
      ∧ (s.askMove port m d target).1.brc = s.brc ∧ (s.askMove port m d target).1.wm = s.wm
      ∧ (s.askMove port m d target).1.slu = s.slu ∧ (s.askMove port m d target).1.dsu = s.dsu
      ∧ (s.askMove port m d target).1.spu = s.spu ∧ (s.askMove port m d target).1.nu = s.nu
      ∧ (s.askMove port m d target).1.fr = s.fr ∧ (s.askMove port m d target).1.freeCount = s.freeCount
      ∧ (s.askMove port m d target).1.pending = s.pending := by
  simp only [State.askMove]; (repeat' split) <;> simp

@[simp] theorem State.raiseAsu_frame (s : State) (u : PositionUpdate) (c : Cause) :
    (s.raiseAsu u c).cs = s.cs ∧ (s.raiseAsu u c).pos = s.pos ∧ (s.raiseAsu u c).zt = s.zt
      ∧ (s.raiseAsu u c).asu = s.asu ∧ (s.raiseAsu u c).msu = s.msu ∧ (s.raiseAsu u c).brc = s.brc
      ∧ (s.raiseAsu u c).wm = s.wm ∧ (s.raiseAsu u c).slu = s.slu ∧ (s.raiseAsu u c).dsu = s.dsu
      ∧ (s.raiseAsu u c).spu = s.spu ∧ (s.raiseAsu u c).nu = s.nu ∧ (s.raiseAsu u c).fr = s.fr
      ∧ (s.raiseAsu u c).freeCount = s.freeCount ∧ (s.raiseAsu u c).pending = s.pending := by
  simp [State.raiseAsu]

@[simp] theorem State.spreadTest_frame (s : State) (u : PositionUpdate) :
    (s.spreadTest u).cs = s.cs ∧ (s.spreadTest u).pos = s.pos ∧ (s.spreadTest u).zt = s.zt
      ∧ (s.spreadTest u).msu = s.msu ∧ (s.spreadTest u).brc = s.brc ∧ (s.spreadTest u).wm = s.wm
      ∧ (s.spreadTest u).slu = s.slu ∧ (s.spreadTest u).dsu = s.dsu ∧ (s.spreadTest u).spu = s.spu
      ∧ (s.spreadTest u).nu = s.nu ∧ (s.spreadTest u).fr = s.fr ∧ (s.spreadTest u).freeCount = s.freeCount
      ∧ (s.spreadTest u).pending = s.pending := by
  simp only [State.spreadTest]; (repeat' split) <;> simp

@[simp] theorem State.superviseCeiling_frame (s : State) (u : PositionUpdate) (forward : Int) :
    (s.superviseCeiling u forward).cs = s.cs ∧ (s.superviseCeiling u forward).pos = s.pos
      ∧ (s.superviseCeiling u forward).zt = s.zt ∧ (s.superviseCeiling u forward).msu = s.msu
      ∧ (s.superviseCeiling u forward).brc = s.brc ∧ (s.superviseCeiling u forward).wm = s.wm
      ∧ (s.superviseCeiling u forward).slu = s.slu ∧ (s.superviseCeiling u forward).dsu = s.dsu
      ∧ (s.superviseCeiling u forward).spu = s.spu ∧ (s.superviseCeiling u forward).nu = s.nu
      ∧ (s.superviseCeiling u forward).fr = s.fr ∧ (s.superviseCeiling u forward).freeCount = s.freeCount
      ∧ (s.superviseCeiling u forward).pending = s.pending := by
  simp only [State.superviseCeiling]; (repeat' split) <;> simp

@[simp] theorem State.superviseIntervention_frame (s : State) (u : PositionUpdate) (forward : Int) :
    (s.superviseIntervention u forward).1.cs = s.cs ∧ (s.superviseIntervention u forward).1.pos = s.pos
      ∧ (s.superviseIntervention u forward).1.zt = s.zt ∧ (s.superviseIntervention u forward).1.msu = s.msu
      ∧ (s.superviseIntervention u forward).1.brc = s.brc ∧ (s.superviseIntervention u forward).1.wm = s.wm
      ∧ (s.superviseIntervention u forward).1.slu = s.slu ∧ (s.superviseIntervention u forward).1.dsu = s.dsu
      ∧ (s.superviseIntervention u forward).1.spu = s.spu ∧ (s.superviseIntervention u forward).1.nu = s.nu
      ∧ (s.superviseIntervention u forward).1.fr = s.fr ∧ (s.superviseIntervention u forward).1.hand = s.hand
      ∧ (s.superviseIntervention u forward).1.freeCount = s.freeCount
      ∧ (s.superviseIntervention u forward).1.pending = s.pending := by
  simp [State.superviseIntervention]

@[simp] theorem State.raiseEach_frame (s : State) (u : PositionUpdate) (cs : List Cause) :
    (s.raiseEach u cs).cs = s.cs ∧ (s.raiseEach u cs).pos = s.pos ∧ (s.raiseEach u cs).zt = s.zt
      ∧ (s.raiseEach u cs).asu = s.asu ∧ (s.raiseEach u cs).msu = s.msu ∧ (s.raiseEach u cs).brc = s.brc
      ∧ (s.raiseEach u cs).wm = s.wm ∧ (s.raiseEach u cs).slu = s.slu ∧ (s.raiseEach u cs).dsu = s.dsu
      ∧ (s.raiseEach u cs).spu = s.spu ∧ (s.raiseEach u cs).nu = s.nu ∧ (s.raiseEach u cs).fr = s.fr
      ∧ (s.raiseEach u cs).freeCount = s.freeCount ∧ (s.raiseEach u cs).pending = s.pending := by
  unfold State.raiseEach; refine ⟨foldl_keeps (fun t : State => t.cs) _ (by intros; simp) _ _,
      foldl_keeps (fun t : State => t.pos) _ (by intros; simp) _ _,
      foldl_keeps (fun t : State => t.zt) _ (by intros; simp) _ _,
      foldl_keeps (fun t : State => t.asu) _ (by intros; simp) _ _,
      foldl_keeps (fun t : State => t.msu) _ (by intros; simp) _ _,
      foldl_keeps (fun t : State => t.brc) _ (by intros; simp) _ _,
      foldl_keeps (fun t : State => t.wm) _ (by intros; simp) _ _,
      foldl_keeps (fun t : State => t.slu) _ (by intros; simp) _ _,
      foldl_keeps (fun t : State => t.dsu) _ (by intros; simp) _ _,
      foldl_keeps (fun t : State => t.spu) _ (by intros; simp) _ _,
      foldl_keeps (fun t : State => t.nu) _ (by intros; simp) _ _,
      foldl_keeps (fun t : State => t.fr) _ (by intros; simp) _ _,
      foldl_keeps (fun t : State => t.freeCount) _ (by intros; simp) _ _,
      foldl_keeps (fun t : State => t.pending) _ (by intros; simp) _ _⟩

@[simp] theorem State.supervise_frame (s : State) (u : PositionUpdate) :
    (s.supervise u).cs = s.cs ∧ (s.supervise u).pos = s.pos ∧ (s.supervise u).zt = s.zt
      ∧ (s.supervise u).msu = s.msu ∧ (s.supervise u).brc = s.brc ∧ (s.supervise u).wm = s.wm
      ∧ (s.supervise u).slu = s.slu ∧ (s.supervise u).dsu = s.dsu ∧ (s.supervise u).spu = s.spu
      ∧ (s.supervise u).nu = s.nu ∧ (s.supervise u).fr = s.fr ∧ (s.supervise u).freeCount = s.freeCount
      ∧ (s.supervise u).pending = s.pending := by
  simp only [State.supervise]; (repeat' split) <;> simp

@[simp] theorem State.clipAll_frame (s : State) (u : PositionUpdate) :
    (s.clipAll u).cs = s.cs ∧ (s.clipAll u).pos = s.pos ∧ (s.clipAll u).zt = s.zt ∧ (s.clipAll u).msu = s.msu
      ∧ (s.clipAll u).brc = s.brc ∧ (s.clipAll u).wm = s.wm ∧ (s.clipAll u).slu = s.slu ∧ (s.clipAll u).dsu = s.dsu
      ∧ (s.clipAll u).spu = s.spu ∧ (s.clipAll u).nu = s.nu ∧ (s.clipAll u).fr = s.fr ∧ (s.clipAll u).hand = s.hand
      ∧ (s.clipAll u).freeCount = s.freeCount ∧ (s.clipAll u).pending = s.pending := by
  unfold State.clipAll; refine ⟨(by split <;> first | rfl | (refine (foldl_keeps (fun t : State => t.cs) _ (by intros; simp) _ _).trans ?_; simp)),
      (by split <;> first | rfl | (refine (foldl_keeps (fun t : State => t.pos) _ (by intros; simp) _ _).trans ?_; simp)),
      (by split <;> first | rfl | (refine (foldl_keeps (fun t : State => t.zt) _ (by intros; simp) _ _).trans ?_; simp)),
      (by split <;> first | rfl | (refine (foldl_keeps (fun t : State => t.msu) _ (by intros; simp) _ _).trans ?_; simp)),
      (by split <;> first | rfl | (refine (foldl_keeps (fun t : State => t.brc) _ (by intros; simp) _ _).trans ?_; simp)),
      (by split <;> first | rfl | (refine (foldl_keeps (fun t : State => t.wm) _ (by intros; simp) _ _).trans ?_; simp)),
      (by split <;> first | rfl | (refine (foldl_keeps (fun t : State => t.slu) _ (by intros; simp) _ _).trans ?_; simp)),
      (by split <;> first | rfl | (refine (foldl_keeps (fun t : State => t.dsu) _ (by intros; simp) _ _).trans ?_; simp)),
      (by split <;> first | rfl | (refine (foldl_keeps (fun t : State => t.spu) _ (by intros; simp) _ _).trans ?_; simp)),
      (by split <;> first | rfl | (refine (foldl_keeps (fun t : State => t.nu) _ (by intros; simp) _ _).trans ?_; simp)),
      (by split <;> first | rfl | (refine (foldl_keeps (fun t : State => t.fr) _ (by intros; simp) _ _).trans ?_; simp)),
      (by split <;> first | rfl | (refine (foldl_keeps (fun t : State => t.hand) _ (by intros; simp) _ _).trans ?_; simp)),
      (by split <;> first | rfl | (refine (foldl_keeps (fun t : State => t.freeCount) _ (by intros; simp) _ _).trans ?_; simp)),
      (by split <;> first | rfl | (refine (foldl_keeps (fun t : State => t.pending) _ (by intros; simp) _ _).trans ?_; simp))⟩

@[simp] theorem State.superviseUpdate_frame (s : State) (u : PositionUpdate) :
    (s.superviseUpdate u).cs = s.cs ∧ (s.superviseUpdate u).pos = s.pos ∧ (s.superviseUpdate u).zt = s.zt
      ∧ (s.superviseUpdate u).msu = s.msu ∧ (s.superviseUpdate u).brc = s.brc ∧ (s.superviseUpdate u).wm = s.wm
      ∧ (s.superviseUpdate u).slu = s.slu ∧ (s.superviseUpdate u).dsu = s.dsu ∧ (s.superviseUpdate u).spu = s.spu
      ∧ (s.superviseUpdate u).nu = s.nu ∧ (s.superviseUpdate u).fr = s.fr
      ∧ (s.superviseUpdate u).freeCount = s.freeCount ∧ (s.superviseUpdate u).pending = s.pending := by
  unfold State.superviseUpdate; (repeat' split) <;> simp

@[simp] theorem State.takeUpdateAsu_frame (s : State) (m : Mover) :
    (s.takeUpdateAsu m).cs = s.cs ∧ (s.takeUpdateAsu m).pos = s.pos ∧ (s.takeUpdateAsu m).zt = s.zt
      ∧ (s.takeUpdateAsu m).msu = s.msu ∧ (s.takeUpdateAsu m).brc = s.brc ∧ (s.takeUpdateAsu m).wm = s.wm
      ∧ (s.takeUpdateAsu m).slu = s.slu ∧ (s.takeUpdateAsu m).dsu = s.dsu ∧ (s.takeUpdateAsu m).spu = s.spu
      ∧ (s.takeUpdateAsu m).nu = s.nu ∧ (s.takeUpdateAsu m).fr = s.fr ∧ (s.takeUpdateAsu m).freeCount = s.freeCount
      ∧ (s.takeUpdateAsu m).pending = s.pending := by
  unfold State.takeUpdateAsu; (repeat' split) <;> simp

@[simp] theorem State.consume_frame (s : State) (m : Mover) :
    (s.consume m).cs = s.cs ∧ (s.consume m).pos = s.pos ∧ (s.consume m).brc = s.brc ∧ (s.consume m).wm = s.wm
      ∧ (s.consume m).slu = s.slu ∧ (s.consume m).dsu = s.dsu ∧ (s.consume m).spu = s.spu ∧ (s.consume m).nu = s.nu
      ∧ (s.consume m).fr = s.fr ∧ (s.consume m).freeCount = s.freeCount ∧ (s.consume m).pending = s.pending := by
  simp only [State.consume]; (repeat' split) <;> simp

@[simp] theorem State.takeConsumption_frame (s : State) (m : Mover) :
    (s.takeConsumption m).cs = s.cs ∧ (s.takeConsumption m).pos = s.pos ∧ (s.takeConsumption m).brc = s.brc
      ∧ (s.takeConsumption m).wm = s.wm ∧ (s.takeConsumption m).slu = s.slu ∧ (s.takeConsumption m).dsu = s.dsu
      ∧ (s.takeConsumption m).spu = s.spu ∧ (s.takeConsumption m).nu = s.nu ∧ (s.takeConsumption m).fr = s.fr
      ∧ (s.takeConsumption m).freeCount = s.freeCount ∧ (s.takeConsumption m).pending = s.pending := by
  unfold State.takeConsumption; (repeat' split) <;> simp

@[simp] theorem State.watchRest_frame (s : State) (u : PositionUpdate) :
    (s.watchRest u).cs = s.cs ∧ (s.watchRest u).pos = s.pos ∧ (s.watchRest u).brc = s.brc
      ∧ (s.watchRest u).wm = s.wm ∧ (s.watchRest u).slu = s.slu ∧ (s.watchRest u).dsu = s.dsu
      ∧ (s.watchRest u).spu = s.spu ∧ (s.watchRest u).nu = s.nu ∧ (s.watchRest u).fr = s.fr
      ∧ (s.watchRest u).freeCount = s.freeCount ∧ (s.watchRest u).pending = s.pending := by
  simp only [State.watchRest]; (repeat' split) <;> simp

@[simp] theorem State.recordFirst_frame (s : State) (u : PositionUpdate) :
    (s.recordFirst u).cs = s.cs ∧ (s.recordFirst u).pos = s.pos ∧ (s.recordFirst u).zt = s.zt
      ∧ (s.recordFirst u).asu = s.asu ∧ (s.recordFirst u).brc = s.brc ∧ (s.recordFirst u).wm = s.wm
      ∧ (s.recordFirst u).slu = s.slu ∧ (s.recordFirst u).dsu = s.dsu ∧ (s.recordFirst u).spu = s.spu
      ∧ (s.recordFirst u).nu = s.nu ∧ (s.recordFirst u).fr = s.fr ∧ (s.recordFirst u).hand = s.hand
      ∧ (s.recordFirst u).freeCount = s.freeCount ∧ (s.recordFirst u).pending = s.pending := by
  unfold State.recordFirst; (repeat' split) <;> simp

@[simp] theorem State.followMover_frame (s : State) (u : PositionUpdate) :
    (s.followMover u).cs = s.cs ∧ (s.followMover u).pos = s.pos ∧ (s.followMover u).brc = s.brc
      ∧ (s.followMover u).wm = s.wm ∧ (s.followMover u).slu = s.slu ∧ (s.followMover u).dsu = s.dsu
      ∧ (s.followMover u).spu = s.spu ∧ (s.followMover u).nu = s.nu ∧ (s.followMover u).fr = s.fr
      ∧ (s.followMover u).freeCount = s.freeCount ∧ (s.followMover u).pending = s.pending := by
  unfold State.followMover; (repeat' split) <;> simp

@[simp] theorem State.takeUpdateMsu_frame (s : State) (m : Mover) :
    (s.takeUpdateMsu m).cs = s.cs ∧ (s.takeUpdateMsu m).pos = s.pos ∧ (s.takeUpdateMsu m).brc = s.brc
      ∧ (s.takeUpdateMsu m).wm = s.wm ∧ (s.takeUpdateMsu m).slu = s.slu ∧ (s.takeUpdateMsu m).dsu = s.dsu
      ∧ (s.takeUpdateMsu m).spu = s.spu ∧ (s.takeUpdateMsu m).nu = s.nu ∧ (s.takeUpdateMsu m).fr = s.fr
      ∧ (s.takeUpdateMsu m).freeCount = s.freeCount ∧ (s.takeUpdateMsu m).pending = s.pending := by
  unfold State.takeUpdateMsu; (repeat' split) <;> simp

@[simp] theorem State.takeCauseOf_frame (s : State) (c : CauseClass) (n : Nat) :
    (s.takeCauseOf c n).cs = s.cs ∧ (s.takeCauseOf c n).pos = s.pos ∧ (s.takeCauseOf c n).brc = s.brc
      ∧ (s.takeCauseOf c n).wm = s.wm ∧ (s.takeCauseOf c n).slu = s.slu ∧ (s.takeCauseOf c n).dsu = s.dsu
      ∧ (s.takeCauseOf c n).spu = s.spu ∧ (s.takeCauseOf c n).nu = s.nu ∧ (s.takeCauseOf c n).fr = s.fr
      ∧ (s.takeCauseOf c n).freeCount = s.freeCount ∧ (s.takeCauseOf c n).pending = s.pending := by
  unfold State.takeCauseOf; (repeat' split) <;> simp

@[simp] theorem State.tripOnDevice_frame (s : State) (m : Mover) :
    (s.tripOnDevice m).cs = s.cs ∧ (s.tripOnDevice m).pos = s.pos ∧ (s.tripOnDevice m).zt = s.zt
      ∧ (s.tripOnDevice m).brc = s.brc ∧ (s.tripOnDevice m).wm = s.wm ∧ (s.tripOnDevice m).slu = s.slu
      ∧ (s.tripOnDevice m).dsu = s.dsu ∧ (s.tripOnDevice m).spu = s.spu ∧ (s.tripOnDevice m).nu = s.nu
      ∧ (s.tripOnDevice m).fr = s.fr ∧ (s.tripOnDevice m).freeCount = s.freeCount
      ∧ (s.tripOnDevice m).pending = s.pending := by
  unfold State.tripOnDevice; (repeat' split) <;> simp

@[simp] theorem State.followDevice_frame (s : State) (c : DeviceChange) :
    (s.followDevice c).cs = s.cs ∧ (s.followDevice c).pos = s.pos ∧ (s.followDevice c).zt = s.zt
      ∧ (s.followDevice c).brc = s.brc ∧ (s.followDevice c).wm = s.wm ∧ (s.followDevice c).slu = s.slu
      ∧ (s.followDevice c).dsu = s.dsu ∧ (s.followDevice c).spu = s.spu ∧ (s.followDevice c).nu = s.nu
      ∧ (s.followDevice c).fr = s.fr ∧ (s.followDevice c).freeCount = s.freeCount
      ∧ (s.followDevice c).pending = s.pending := by
  unfold State.followDevice; refine ⟨(by split <;> first | rfl | (refine (foldl_keeps (fun t : State => t.cs) _ (by intros; simp) _ _).trans ?_; simp)),
      (by split <;> first | rfl | (refine (foldl_keeps (fun t : State => t.pos) _ (by intros; simp) _ _).trans ?_; simp)),
      (by split <;> first | rfl | (refine (foldl_keeps (fun t : State => t.zt) _ (by intros; simp) _ _).trans ?_; simp)),
      (by split <;> first | rfl | (refine (foldl_keeps (fun t : State => t.brc) _ (by intros; simp) _ _).trans ?_; simp)),
      (by split <;> first | rfl | (refine (foldl_keeps (fun t : State => t.wm) _ (by intros; simp) _ _).trans ?_; simp)),
      (by split <;> first | rfl | (refine (foldl_keeps (fun t : State => t.slu) _ (by intros; simp) _ _).trans ?_; simp)),
      (by split <;> first | rfl | (refine (foldl_keeps (fun t : State => t.dsu) _ (by intros; simp) _ _).trans ?_; simp)),
      (by split <;> first | rfl | (refine (foldl_keeps (fun t : State => t.spu) _ (by intros; simp) _ _).trans ?_; simp)),
      (by split <;> first | rfl | (refine (foldl_keeps (fun t : State => t.nu) _ (by intros; simp) _ _).trans ?_; simp)),
      (by split <;> first | rfl | (refine (foldl_keeps (fun t : State => t.fr) _ (by intros; simp) _ _).trans ?_; simp)),
      (by split <;> first | rfl | (refine (foldl_keeps (fun t : State => t.freeCount) _ (by intros; simp) _ _).trans ?_; simp)),
      (by split <;> first | rfl | (refine (foldl_keeps (fun t : State => t.pending) _ (by intros; simp) _ _).trans ?_; simp))⟩

@[simp] theorem State.takeDeviceChange_frame (s : State) :
    (s.takeDeviceChange).cs = s.cs ∧ (s.takeDeviceChange).pos = s.pos ∧ (s.takeDeviceChange).zt = s.zt
      ∧ (s.takeDeviceChange).brc = s.brc ∧ (s.takeDeviceChange).wm = s.wm ∧ (s.takeDeviceChange).slu = s.slu
      ∧ (s.takeDeviceChange).dsu = s.dsu ∧ (s.takeDeviceChange).spu = s.spu ∧ (s.takeDeviceChange).nu = s.nu
      ∧ (s.takeDeviceChange).fr = s.fr ∧ (s.takeDeviceChange).freeCount = s.freeCount
      ∧ (s.takeDeviceChange).pending = s.pending := by
  unfold State.takeDeviceChange; (repeat' split) <;> simp

@[simp] theorem State.raiseDeviceFault_frame (s : State) (fault : Cause) (m : Mover) :
    (s.raiseDeviceFault fault m).cs = s.cs ∧ (s.raiseDeviceFault fault m).pos = s.pos
      ∧ (s.raiseDeviceFault fault m).zt = s.zt ∧ (s.raiseDeviceFault fault m).asu = s.asu
      ∧ (s.raiseDeviceFault fault m).brc = s.brc ∧ (s.raiseDeviceFault fault m).wm = s.wm
      ∧ (s.raiseDeviceFault fault m).slu = s.slu ∧ (s.raiseDeviceFault fault m).spu = s.spu
      ∧ (s.raiseDeviceFault fault m).nu = s.nu ∧ (s.raiseDeviceFault fault m).fr = s.fr
      ∧ (s.raiseDeviceFault fault m).freeCount = s.freeCount
      ∧ (s.raiseDeviceFault fault m).pending = s.pending := by
  simp [State.raiseDeviceFault]

@[simp] theorem State.tripTimerExpires_frame (s : State) (m : Mover) :
    (s.tripTimerExpires m).cs = s.cs ∧ (s.tripTimerExpires m).pos = s.pos ∧ (s.tripTimerExpires m).zt = s.zt
      ∧ (s.tripTimerExpires m).asu = s.asu ∧ (s.tripTimerExpires m).brc = s.brc ∧ (s.tripTimerExpires m).wm = s.wm
      ∧ (s.tripTimerExpires m).slu = s.slu ∧ (s.tripTimerExpires m).spu = s.spu ∧ (s.tripTimerExpires m).nu = s.nu
      ∧ (s.tripTimerExpires m).fr = s.fr ∧ (s.tripTimerExpires m).freeCount = s.freeCount
      ∧ (s.tripTimerExpires m).pending = s.pending := by
  simp only [State.tripTimerExpires]; (repeat' split) <;> simp

@[simp] theorem State.readbackTimerExpires_frame (s : State) (m : Mover) :
    (s.readbackTimerExpires m).cs = s.cs ∧ (s.readbackTimerExpires m).pos = s.pos
      ∧ (s.readbackTimerExpires m).zt = s.zt ∧ (s.readbackTimerExpires m).asu = s.asu
      ∧ (s.readbackTimerExpires m).brc = s.brc ∧ (s.readbackTimerExpires m).wm = s.wm
      ∧ (s.readbackTimerExpires m).slu = s.slu ∧ (s.readbackTimerExpires m).spu = s.spu
      ∧ (s.readbackTimerExpires m).nu = s.nu ∧ (s.readbackTimerExpires m).fr = s.fr
      ∧ (s.readbackTimerExpires m).freeCount = s.freeCount ∧ (s.readbackTimerExpires m).pending = s.pending := by
  simp only [State.readbackTimerExpires]; (repeat' split) <;> simp

@[simp] theorem State.stopMover_frame (s : State) (m : Mover) :
    (s.stopMover m).1.cs = s.cs ∧ (s.stopMover m).1.pos = s.pos ∧ (s.stopMover m).1.brc = s.brc
      ∧ (s.stopMover m).1.wm = s.wm ∧ (s.stopMover m).1.slu = s.slu ∧ (s.stopMover m).1.dsu = s.dsu
      ∧ (s.stopMover m).1.spu = s.spu ∧ (s.stopMover m).1.nu = s.nu ∧ (s.stopMover m).1.fr = s.fr
      ∧ (s.stopMover m).1.freeCount = s.freeCount ∧ (s.stopMover m).1.pending = s.pending := by
  unfold State.stopMover; (repeat' split) <;> simp

@[simp] theorem State.clearMover_frame (s : State) (m : Mover) :
    (s.clearMover m).cs = s.cs ∧ (s.clearMover m).pos = s.pos ∧ (s.clearMover m).brc = s.brc
      ∧ (s.clearMover m).wm = s.wm ∧ (s.clearMover m).slu = s.slu ∧ (s.clearMover m).dsu = s.dsu
      ∧ (s.clearMover m).spu = s.spu ∧ (s.clearMover m).nu = s.nu ∧ (s.clearMover m).fr = s.fr
      ∧ (s.clearMover m).freeCount = s.freeCount ∧ (s.clearMover m).pending = s.pending := by
  simp [State.clearMover]

@[simp] theorem State.askClear_frame (s : State) (m : Mover) :
    (s.askClear m).1.cs = s.cs ∧ (s.askClear m).1.pos = s.pos ∧ (s.askClear m).1.brc = s.brc
      ∧ (s.askClear m).1.wm = s.wm ∧ (s.askClear m).1.slu = s.slu ∧ (s.askClear m).1.dsu = s.dsu
      ∧ (s.askClear m).1.spu = s.spu ∧ (s.askClear m).1.nu = s.nu ∧ (s.askClear m).1.fr = s.fr
      ∧ (s.askClear m).1.freeCount = s.freeCount ∧ (s.askClear m).1.pending = s.pending := by
  unfold State.askClear; (repeat' split) <;> simp

@[simp] theorem State.beginPhase_frame (s : State) (x : Mover × Phase) :
    (s.beginPhase x).cs = s.cs ∧ (s.beginPhase x).pos = s.pos ∧ (s.beginPhase x).zt = s.zt
      ∧ (s.beginPhase x).asu = s.asu ∧ (s.beginPhase x).brc = s.brc ∧ (s.beginPhase x).wm = s.wm
      ∧ (s.beginPhase x).slu = s.slu ∧ (s.beginPhase x).spu = s.spu ∧ (s.beginPhase x).nu = s.nu
      ∧ (s.beginPhase x).fr = s.fr ∧ (s.beginPhase x).hand = s.hand ∧ (s.beginPhase x).freeCount = s.freeCount
      ∧ (s.beginPhase x).pending = s.pending := by
  simp [State.beginPhase]

@[simp] theorem State.passArming_frame (s : State) :
    (s.passArming).cs = s.cs ∧ (s.passArming).pos = s.pos ∧ (s.passArming).zt = s.zt ∧ (s.passArming).asu = s.asu
      ∧ (s.passArming).msu = s.msu ∧ (s.passArming).brc = s.brc ∧ (s.passArming).wm = s.wm
      ∧ (s.passArming).slu = s.slu ∧ (s.passArming).spu = s.spu ∧ (s.passArming).nu = s.nu
      ∧ (s.passArming).fr = s.fr ∧ (s.passArming).freeCount = s.freeCount ∧ (s.passArming).pending = s.pending := by
  simp [State.passArming]

@[simp] theorem continueTest_frame (n : Nat) (x : Option (Mover × Phase)) (s : State) :
    (continueTest n x s).cs = s.cs ∧ (continueTest n x s).pos = s.pos ∧ (continueTest n x s).zt = s.zt
      ∧ (continueTest n x s).asu = s.asu ∧ (continueTest n x s).brc = s.brc ∧ (continueTest n x s).wm = s.wm
      ∧ (continueTest n x s).slu = s.slu ∧ (continueTest n x s).spu = s.spu ∧ (continueTest n x s).nu = s.nu
      ∧ (continueTest n x s).fr = s.fr ∧ (continueTest n x s).freeCount = s.freeCount
      ∧ (continueTest n x s).pending = s.pending := by
  induction n generalizing x s with
  | zero => cases x <;> simp [continueTest]
  | succ n ih =>
    cases x with
    | none => simp [continueTest]
    | some x =>
      simp only [continueTest]
      split
      · have h := ih (nextPhase x) (s.beginPhase x)
        simpa using h
      · simp

@[simp] theorem State.contactShows_frame (s : State) (m : Mover) (level : Bool) :
    (s.contactShows m level).cs = s.cs ∧ (s.contactShows m level).pos = s.pos ∧ (s.contactShows m level).zt = s.zt
      ∧ (s.contactShows m level).asu = s.asu ∧ (s.contactShows m level).brc = s.brc
      ∧ (s.contactShows m level).wm = s.wm ∧ (s.contactShows m level).slu = s.slu
      ∧ (s.contactShows m level).spu = s.spu ∧ (s.contactShows m level).nu = s.nu
      ∧ (s.contactShows m level).fr = s.fr ∧ (s.contactShows m level).freeCount = s.freeCount
      ∧ (s.contactShows m level).pending = s.pending := by
  simp only [State.contactShows]; (repeat' split) <;> simp

@[simp] theorem State.failPhase_frame (s : State) (x : Mover × Phase) :
    (s.failPhase x).cs = s.cs ∧ (s.failPhase x).pos = s.pos ∧ (s.failPhase x).zt = s.zt
      ∧ (s.failPhase x).asu = s.asu ∧ (s.failPhase x).brc = s.brc ∧ (s.failPhase x).wm = s.wm
      ∧ (s.failPhase x).slu = s.slu ∧ (s.failPhase x).spu = s.spu ∧ (s.failPhase x).nu = s.nu
      ∧ (s.failPhase x).fr = s.fr ∧ (s.failPhase x).freeCount = s.freeCount
      ∧ (s.failPhase x).pending = s.pending := by
  unfold State.failPhase; (repeat' split) <;> simp

@[simp] theorem State.stepTimerExpires_frame (s : State) :
    (s.stepTimerExpires).cs = s.cs ∧ (s.stepTimerExpires).pos = s.pos ∧ (s.stepTimerExpires).zt = s.zt
      ∧ (s.stepTimerExpires).asu = s.asu ∧ (s.stepTimerExpires).brc = s.brc ∧ (s.stepTimerExpires).wm = s.wm
      ∧ (s.stepTimerExpires).slu = s.slu ∧ (s.stepTimerExpires).spu = s.spu ∧ (s.stepTimerExpires).nu = s.nu
      ∧ (s.stepTimerExpires).fr = s.fr ∧ (s.stepTimerExpires).freeCount = s.freeCount
      ∧ (s.stepTimerExpires).pending = s.pending := by
  unfold State.stepTimerExpires; (repeat' split) <;> simp

@[simp] theorem State.beginArming_frame (s : State) :
    (s.beginArming).cs = s.cs ∧ (s.beginArming).pos = s.pos ∧ (s.beginArming).zt = s.zt
      ∧ (s.beginArming).asu = s.asu ∧ (s.beginArming).brc = s.brc ∧ (s.beginArming).wm = s.wm
      ∧ (s.beginArming).slu = s.slu ∧ (s.beginArming).spu = s.spu ∧ (s.beginArming).nu = s.nu
      ∧ (s.beginArming).fr = s.fr ∧ (s.beginArming).freeCount = s.freeCount
      ∧ (s.beginArming).pending = s.pending := by
  simp [State.beginArming]

@[simp] theorem State.followValidity_frame (s : State) (v : ValidityChange) :
    (s.followValidity v).cs = s.cs ∧ (s.followValidity v).pos = s.pos ∧ (s.followValidity v).zt = s.zt
      ∧ (s.followValidity v).asu = s.asu ∧ (s.followValidity v).brc = s.brc ∧ (s.followValidity v).wm = s.wm
      ∧ (s.followValidity v).slu = s.slu ∧ (s.followValidity v).spu = s.spu ∧ (s.followValidity v).nu = s.nu
      ∧ (s.followValidity v).fr = s.fr ∧ (s.followValidity v).freeCount = s.freeCount
      ∧ (s.followValidity v).pending = s.pending := by
  unfold State.followValidity; (repeat' split) <;> simp

@[simp] theorem State.takeValidityChange_frame (s : State) (a : Axis) :
    (s.takeValidityChange a).cs = s.cs ∧ (s.takeValidityChange a).pos = s.pos ∧ (s.takeValidityChange a).zt = s.zt
      ∧ (s.takeValidityChange a).asu = s.asu ∧ (s.takeValidityChange a).brc = s.brc
      ∧ (s.takeValidityChange a).wm = s.wm ∧ (s.takeValidityChange a).slu = s.slu
      ∧ (s.takeValidityChange a).spu = s.spu ∧ (s.takeValidityChange a).nu = s.nu
      ∧ (s.takeValidityChange a).fr = s.fr ∧ (s.takeValidityChange a).freeCount = s.freeCount
      ∧ (s.takeValidityChange a).pending = s.pending := by
  unfold State.takeValidityChange; (repeat' split) <;> simp

@[simp] theorem State.testDisarmed_frame (s : State) :
    (s.testDisarmed).cs = s.cs ∧ (s.testDisarmed).pos = s.pos ∧ (s.testDisarmed).zt = s.zt
      ∧ (s.testDisarmed).asu = s.asu ∧ (s.testDisarmed).msu = s.msu ∧ (s.testDisarmed).brc = s.brc
      ∧ (s.testDisarmed).wm = s.wm ∧ (s.testDisarmed).slu = s.slu ∧ (s.testDisarmed).spu = s.spu
      ∧ (s.testDisarmed).nu = s.nu ∧ (s.testDisarmed).fr = s.fr ∧ (s.testDisarmed).freeCount = s.freeCount
      ∧ (s.testDisarmed).pending = s.pending := by
  unfold State.testDisarmed; (repeat' split) <;> simp

@[simp] theorem State.takeMoverChange_frame (s : State) :
    (s.takeMoverChange).cs = s.cs ∧ (s.takeMoverChange).pos = s.pos ∧ (s.takeMoverChange).zt = s.zt
      ∧ (s.takeMoverChange).asu = s.asu ∧ (s.takeMoverChange).msu = s.msu ∧ (s.takeMoverChange).brc = s.brc
      ∧ (s.takeMoverChange).wm = s.wm ∧ (s.takeMoverChange).slu = s.slu ∧ (s.takeMoverChange).spu = s.spu
      ∧ (s.takeMoverChange).nu = s.nu ∧ (s.takeMoverChange).fr = s.fr ∧ (s.takeMoverChange).freeCount = s.freeCount
      ∧ (s.takeMoverChange).pending = s.pending := by
  unfold State.takeMoverChange; (repeat' split) <;> simp

@[simp] theorem State.outputsOff_frame (s : State) :
    (s.outputsOff).cs = s.cs ∧ (s.outputsOff).pos = s.pos ∧ (s.outputsOff).zt = s.zt ∧ (s.outputsOff).asu = s.asu
      ∧ (s.outputsOff).msu = s.msu ∧ (s.outputsOff).wm = s.wm ∧ (s.outputsOff).slu = s.slu
      ∧ (s.outputsOff).dsu = s.dsu ∧ (s.outputsOff).spu = s.spu ∧ (s.outputsOff).nu = s.nu
      ∧ (s.outputsOff).fr = s.fr ∧ (s.outputsOff).hand = s.hand ∧ (s.outputsOff).freeCount = s.freeCount
      ∧ (s.outputsOff).pending = s.pending := by
  simp [State.outputsOff]

@[simp] theorem State.deviceOnOpening_frame (s : State) :
    (s.deviceOnOpening).cs = s.cs ∧ (s.deviceOnOpening).pos = s.pos ∧ (s.deviceOnOpening).zt = s.zt
      ∧ (s.deviceOnOpening).asu = s.asu ∧ (s.deviceOnOpening).brc = s.brc ∧ (s.deviceOnOpening).wm = s.wm
      ∧ (s.deviceOnOpening).slu = s.slu ∧ (s.deviceOnOpening).spu = s.spu ∧ (s.deviceOnOpening).nu = s.nu
      ∧ (s.deviceOnOpening).fr = s.fr ∧ (s.deviceOnOpening).freeCount = s.freeCount
      ∧ (s.deviceOnOpening).pending = s.pending := by
  unfold State.deviceOnOpening; (repeat' split) <;> simp

@[simp] theorem State.actOnOpening_frame (s : State) (mark : Bool) :
    (s.actOnOpening mark).cs = s.cs ∧ (s.actOnOpening mark).pos = s.pos ∧ (s.actOnOpening mark).zt = s.zt
      ∧ (s.actOnOpening mark).asu = s.asu ∧ (s.actOnOpening mark).wm = s.wm ∧ (s.actOnOpening mark).slu = s.slu
      ∧ (s.actOnOpening mark).spu = s.spu ∧ (s.actOnOpening mark).nu = s.nu ∧ (s.actOnOpening mark).fr = s.fr
      ∧ (s.actOnOpening mark).freeCount = s.freeCount ∧ (s.actOnOpening mark).pending = s.pending := by
  simp [State.actOnOpening]

@[simp] theorem State.openLoop_frame (s : State) (mark : Bool) :
    (s.openLoop mark).cs = s.cs ∧ (s.openLoop mark).pos = s.pos ∧ (s.openLoop mark).zt = s.zt
      ∧ (s.openLoop mark).asu = s.asu ∧ (s.openLoop mark).wm = s.wm ∧ (s.openLoop mark).spu = s.spu
      ∧ (s.openLoop mark).nu = s.nu ∧ (s.openLoop mark).fr = s.fr ∧ (s.openLoop mark).freeCount = s.freeCount
      ∧ (s.openLoop mark).pending = s.pending := by
  simp only [State.openLoop]; (repeat' split) <;> simp

@[simp] theorem State.followChannels_frame (s : State) :
    (s.followChannels).cs = s.cs ∧ (s.followChannels).pos = s.pos ∧ (s.followChannels).zt = s.zt
      ∧ (s.followChannels).asu = s.asu ∧ (s.followChannels).wm = s.wm ∧ (s.followChannels).spu = s.spu
      ∧ (s.followChannels).nu = s.nu ∧ (s.followChannels).fr = s.fr ∧ (s.followChannels).freeCount = s.freeCount
      ∧ (s.followChannels).pending = s.pending := by
  simp only [State.followChannels]; (repeat' split) <;> simp

@[simp] theorem State.channelSettles_frame (s : State) (c : LoopChannel) :
    (s.channelSettles c).cs = s.cs ∧ (s.channelSettles c).pos = s.pos ∧ (s.channelSettles c).zt = s.zt
      ∧ (s.channelSettles c).asu = s.asu ∧ (s.channelSettles c).wm = s.wm ∧ (s.channelSettles c).spu = s.spu
      ∧ (s.channelSettles c).nu = s.nu ∧ (s.channelSettles c).fr = s.fr
      ∧ (s.channelSettles c).freeCount = s.freeCount ∧ (s.channelSettles c).pending = s.pending := by
  unfold State.channelSettles; (repeat' split) <;> simp

@[simp] theorem State.discrepancyExpires_frame (s : State) :
    (s.discrepancyExpires).cs = s.cs ∧ (s.discrepancyExpires).pos = s.pos ∧ (s.discrepancyExpires).zt = s.zt
      ∧ (s.discrepancyExpires).asu = s.asu ∧ (s.discrepancyExpires).wm = s.wm ∧ (s.discrepancyExpires).spu = s.spu
      ∧ (s.discrepancyExpires).nu = s.nu ∧ (s.discrepancyExpires).fr = s.fr
      ∧ (s.discrepancyExpires).freeCount = s.freeCount ∧ (s.discrepancyExpires).pending = s.pending := by
  unfold State.discrepancyExpires; (repeat' split) <;> simp

@[simp] theorem State.raiseDriveTrip_frame (s : State) (m : Mover) :
    (s.raiseDriveTrip m).cs = s.cs ∧ (s.raiseDriveTrip m).pos = s.pos ∧ (s.raiseDriveTrip m).zt = s.zt
      ∧ (s.raiseDriveTrip m).asu = s.asu ∧ (s.raiseDriveTrip m).msu = s.msu ∧ (s.raiseDriveTrip m).brc = s.brc
      ∧ (s.raiseDriveTrip m).wm = s.wm ∧ (s.raiseDriveTrip m).slu = s.slu ∧ (s.raiseDriveTrip m).dsu = s.dsu
      ∧ (s.raiseDriveTrip m).spu = s.spu ∧ (s.raiseDriveTrip m).nu = s.nu ∧ (s.raiseDriveTrip m).fr = s.fr
      ∧ (s.raiseDriveTrip m).freeCount = s.freeCount ∧ (s.raiseDriveTrip m).pending = s.pending := by
  simp [State.raiseDriveTrip]

@[simp] theorem State.tripInputSettles_frame (s : State) (m : Mover) :
    (s.tripInputSettles m).cs = s.cs ∧ (s.tripInputSettles m).pos = s.pos ∧ (s.tripInputSettles m).zt = s.zt
      ∧ (s.tripInputSettles m).asu = s.asu ∧ (s.tripInputSettles m).msu = s.msu ∧ (s.tripInputSettles m).brc = s.brc
      ∧ (s.tripInputSettles m).wm = s.wm ∧ (s.tripInputSettles m).dsu = s.dsu ∧ (s.tripInputSettles m).spu = s.spu
      ∧ (s.tripInputSettles m).nu = s.nu ∧ (s.tripInputSettles m).fr = s.fr
      ∧ (s.tripInputSettles m).freeCount = s.freeCount ∧ (s.tripInputSettles m).pending = s.pending := by
  simp only [State.tripInputSettles]; (repeat' split) <;> simp

@[simp] theorem State.setOperation_frame (s : State) (op : Option BraceDirection) (startPending : Bool) :
    (s.setOperation op startPending).cs = s.cs ∧ (s.setOperation op startPending).pos = s.pos
      ∧ (s.setOperation op startPending).zt = s.zt ∧ (s.setOperation op startPending).asu = s.asu
      ∧ (s.setOperation op startPending).msu = s.msu ∧ (s.setOperation op startPending).wm = s.wm
      ∧ (s.setOperation op startPending).slu = s.slu ∧ (s.setOperation op startPending).dsu = s.dsu
      ∧ (s.setOperation op startPending).spu = s.spu ∧ (s.setOperation op startPending).nu = s.nu
      ∧ (s.setOperation op startPending).fr = s.fr ∧ (s.setOperation op startPending).hand = s.hand
      ∧ (s.setOperation op startPending).freeCount = s.freeCount
      ∧ (s.setOperation op startPending).pending = s.pending := by
  simp [State.setOperation]

@[simp] theorem State.mapBraces_frame (s : State) (f : BraceRec → BraceRec) :
    (s.mapBraces f).cs = s.cs ∧ (s.mapBraces f).pos = s.pos ∧ (s.mapBraces f).zt = s.zt
      ∧ (s.mapBraces f).asu = s.asu ∧ (s.mapBraces f).msu = s.msu ∧ (s.mapBraces f).wm = s.wm
      ∧ (s.mapBraces f).slu = s.slu ∧ (s.mapBraces f).dsu = s.dsu ∧ (s.mapBraces f).spu = s.spu
      ∧ (s.mapBraces f).nu = s.nu ∧ (s.mapBraces f).fr = s.fr ∧ (s.mapBraces f).hand = s.hand
      ∧ (s.mapBraces f).freeCount = s.freeCount ∧ (s.mapBraces f).pending = s.pending := by
  simp [State.mapBraces]

@[simp] theorem State.beginOperation_frame (s : State) (d : BraceDirection) (startPending : Bool) :
    (s.beginOperation d startPending).cs = s.cs ∧ (s.beginOperation d startPending).pos = s.pos
      ∧ (s.beginOperation d startPending).zt = s.zt ∧ (s.beginOperation d startPending).asu = s.asu
      ∧ (s.beginOperation d startPending).msu = s.msu ∧ (s.beginOperation d startPending).wm = s.wm
      ∧ (s.beginOperation d startPending).slu = s.slu ∧ (s.beginOperation d startPending).dsu = s.dsu
      ∧ (s.beginOperation d startPending).spu = s.spu ∧ (s.beginOperation d startPending).nu = s.nu
      ∧ (s.beginOperation d startPending).fr = s.fr ∧ (s.beginOperation d startPending).freeCount = s.freeCount
      ∧ (s.beginOperation d startPending).pending = s.pending := by
  simp [State.beginOperation]

@[simp] theorem State.postBraceDone_frame (s : State) (d : BraceDirection) :
    (s.postBraceDone d).cs = s.cs ∧ (s.postBraceDone d).pos = s.pos ∧ (s.postBraceDone d).zt = s.zt
      ∧ (s.postBraceDone d).asu = s.asu ∧ (s.postBraceDone d).msu = s.msu ∧ (s.postBraceDone d).brc = s.brc
      ∧ (s.postBraceDone d).wm = s.wm ∧ (s.postBraceDone d).slu = s.slu ∧ (s.postBraceDone d).dsu = s.dsu
      ∧ (s.postBraceDone d).spu = s.spu ∧ (s.postBraceDone d).nu = s.nu ∧ (s.postBraceDone d).fr = s.fr
      ∧ (s.postBraceDone d).freeCount = s.freeCount ∧ (s.postBraceDone d).pending = s.pending := by
  simp [State.postBraceDone]

@[simp] theorem State.finishOperation_frame (s : State) (d : BraceDirection) :
    (s.finishOperation d).cs = s.cs ∧ (s.finishOperation d).pos = s.pos ∧ (s.finishOperation d).zt = s.zt
      ∧ (s.finishOperation d).asu = s.asu ∧ (s.finishOperation d).msu = s.msu ∧ (s.finishOperation d).wm = s.wm
      ∧ (s.finishOperation d).slu = s.slu ∧ (s.finishOperation d).dsu = s.dsu ∧ (s.finishOperation d).spu = s.spu
      ∧ (s.finishOperation d).nu = s.nu ∧ (s.finishOperation d).fr = s.fr
      ∧ (s.finishOperation d).freeCount = s.freeCount ∧ (s.finishOperation d).pending = s.pending := by
  simp [State.finishOperation]

@[simp] theorem State.endIfComplete_frame (s : State) (d : BraceDirection) :
    (s.endIfComplete d).cs = s.cs ∧ (s.endIfComplete d).pos = s.pos ∧ (s.endIfComplete d).zt = s.zt
      ∧ (s.endIfComplete d).asu = s.asu ∧ (s.endIfComplete d).msu = s.msu ∧ (s.endIfComplete d).wm = s.wm
      ∧ (s.endIfComplete d).slu = s.slu ∧ (s.endIfComplete d).dsu = s.dsu ∧ (s.endIfComplete d).spu = s.spu
      ∧ (s.endIfComplete d).nu = s.nu ∧ (s.endIfComplete d).fr = s.fr ∧ (s.endIfComplete d).freeCount = s.freeCount
      ∧ (s.endIfComplete d).pending = s.pending := by
  unfold State.endIfComplete; (repeat' split) <;> simp

@[simp] theorem State.startOperation_frame (s : State) (d : BraceDirection) (startPending : Bool) :
    (s.startOperation d startPending).cs = s.cs ∧ (s.startOperation d startPending).pos = s.pos
      ∧ (s.startOperation d startPending).zt = s.zt ∧ (s.startOperation d startPending).asu = s.asu
      ∧ (s.startOperation d startPending).msu = s.msu ∧ (s.startOperation d startPending).wm = s.wm
      ∧ (s.startOperation d startPending).slu = s.slu ∧ (s.startOperation d startPending).dsu = s.dsu
      ∧ (s.startOperation d startPending).spu = s.spu ∧ (s.startOperation d startPending).nu = s.nu
      ∧ (s.startOperation d startPending).fr = s.fr ∧ (s.startOperation d startPending).freeCount = s.freeCount
      ∧ (s.startOperation d startPending).pending = s.pending := by
  simp [State.startOperation]

@[simp] theorem State.actOnDemand_frame (s : State) :
    (s.actOnDemand).cs = s.cs ∧ (s.actOnDemand).pos = s.pos ∧ (s.actOnDemand).zt = s.zt
      ∧ (s.actOnDemand).asu = s.asu ∧ (s.actOnDemand).msu = s.msu ∧ (s.actOnDemand).wm = s.wm
      ∧ (s.actOnDemand).slu = s.slu ∧ (s.actOnDemand).dsu = s.dsu ∧ (s.actOnDemand).spu = s.spu
      ∧ (s.actOnDemand).nu = s.nu ∧ (s.actOnDemand).fr = s.fr ∧ (s.actOnDemand).freeCount = s.freeCount
      ∧ (s.actOnDemand).pending = s.pending := by
  unfold State.actOnDemand; (repeat' split) <;> simp

@[simp] theorem State.setDemand_frame (s : State) (n : Int) :
    (s.setDemand n).cs = s.cs ∧ (s.setDemand n).pos = s.pos ∧ (s.setDemand n).zt = s.zt ∧ (s.setDemand n).asu = s.asu
      ∧ (s.setDemand n).msu = s.msu ∧ (s.setDemand n).wm = s.wm ∧ (s.setDemand n).slu = s.slu ∧ (s.setDemand n).dsu = s.dsu
      ∧ (s.setDemand n).spu = s.spu ∧ (s.setDemand n).nu = s.nu ∧ (s.setDemand n).fr = s.fr
      ∧ (s.setDemand n).freeCount = s.freeCount ∧ (s.setDemand n).pending = s.pending := by
  simp [State.setDemand]

@[simp] theorem State.testDemand_frame (s : State) (v : DemandView) :
    (s.testDemand v).cs = s.cs ∧ (s.testDemand v).pos = s.pos ∧ (s.testDemand v).zt = s.zt ∧ (s.testDemand v).asu = s.asu
      ∧ (s.testDemand v).msu = s.msu ∧ (s.testDemand v).wm = s.wm ∧ (s.testDemand v).slu = s.slu
      ∧ (s.testDemand v).dsu = s.dsu ∧ (s.testDemand v).spu = s.spu ∧ (s.testDemand v).nu = s.nu
      ∧ (s.testDemand v).fr = s.fr ∧ (s.testDemand v).freeCount = s.freeCount ∧ (s.testDemand v).pending = s.pending := by
  unfold State.testDemand; (repeat' split) <;> simp

@[simp] theorem State.takeDemandEvent_frame (s : State) (src : DemandSource) :
    (s.takeDemandEvent src).cs = s.cs ∧ (s.takeDemandEvent src).pos = s.pos ∧ (s.takeDemandEvent src).zt = s.zt
      ∧ (s.takeDemandEvent src).asu = s.asu ∧ (s.takeDemandEvent src).msu = s.msu ∧ (s.takeDemandEvent src).wm = s.wm
      ∧ (s.takeDemandEvent src).slu = s.slu ∧ (s.takeDemandEvent src).dsu = s.dsu ∧ (s.takeDemandEvent src).spu = s.spu
      ∧ (s.takeDemandEvent src).nu = s.nu ∧ (s.takeDemandEvent src).fr = s.fr ∧ (s.takeDemandEvent src).freeCount = s.freeCount
      ∧ (s.takeDemandEvent src).pending = s.pending := by
  unfold State.takeDemandEvent; (repeat' split) <;> simp

@[simp] theorem State.askOperation_frame (s : State) (d : BraceDirection) :
    (s.askOperation d).1.cs = s.cs ∧ (s.askOperation d).1.pos = s.pos ∧ (s.askOperation d).1.zt = s.zt
      ∧ (s.askOperation d).1.asu = s.asu ∧ (s.askOperation d).1.msu = s.msu ∧ (s.askOperation d).1.wm = s.wm
      ∧ (s.askOperation d).1.slu = s.slu ∧ (s.askOperation d).1.dsu = s.dsu ∧ (s.askOperation d).1.spu = s.spu
      ∧ (s.askOperation d).1.nu = s.nu ∧ (s.askOperation d).1.fr = s.fr
      ∧ (s.askOperation d).1.freeCount = s.freeCount ∧ (s.askOperation d).1.pending = s.pending := by
  unfold State.askOperation; (repeat' split) <;> simp

@[simp] theorem State.clearBrace_frame (s : State) (b : Brace) :
    (s.clearBrace b).cs = s.cs ∧ (s.clearBrace b).pos = s.pos ∧ (s.clearBrace b).zt = s.zt
      ∧ (s.clearBrace b).asu = s.asu ∧ (s.clearBrace b).msu = s.msu ∧ (s.clearBrace b).wm = s.wm
      ∧ (s.clearBrace b).slu = s.slu ∧ (s.clearBrace b).dsu = s.dsu ∧ (s.clearBrace b).spu = s.spu
      ∧ (s.clearBrace b).nu = s.nu ∧ (s.clearBrace b).fr = s.fr ∧ (s.clearBrace b).freeCount = s.freeCount
      ∧ (s.clearBrace b).pending = s.pending := by
  simp only [State.clearBrace]; (repeat' split) <;> simp

@[simp] theorem State.loseSwitch_frame (s : State) (b : Brace) :
    (s.loseSwitch b).cs = s.cs ∧ (s.loseSwitch b).pos = s.pos ∧ (s.loseSwitch b).zt = s.zt
      ∧ (s.loseSwitch b).asu = s.asu ∧ (s.loseSwitch b).msu = s.msu ∧ (s.loseSwitch b).wm = s.wm
      ∧ (s.loseSwitch b).slu = s.slu ∧ (s.loseSwitch b).dsu = s.dsu ∧ (s.loseSwitch b).spu = s.spu
      ∧ (s.loseSwitch b).nu = s.nu ∧ (s.loseSwitch b).fr = s.fr ∧ (s.loseSwitch b).freeCount = s.freeCount
      ∧ (s.loseSwitch b).pending = s.pending := by
  simp only [State.loseSwitch]; (repeat' split) <;> simp

@[simp] theorem State.followSwitch_frame (s : State) (b : Brace) :
    (s.followSwitch b).cs = s.cs ∧ (s.followSwitch b).pos = s.pos ∧ (s.followSwitch b).zt = s.zt
      ∧ (s.followSwitch b).asu = s.asu ∧ (s.followSwitch b).msu = s.msu ∧ (s.followSwitch b).wm = s.wm
      ∧ (s.followSwitch b).slu = s.slu ∧ (s.followSwitch b).dsu = s.dsu ∧ (s.followSwitch b).spu = s.spu
      ∧ (s.followSwitch b).nu = s.nu ∧ (s.followSwitch b).fr = s.fr ∧ (s.followSwitch b).freeCount = s.freeCount
      ∧ (s.followSwitch b).pending = s.pending := by
  simp only [State.followSwitch]; (repeat' split) <;> simp

@[simp] theorem State.payPending_frame (s : State) (d : BraceDirection) :
    (s.payPending d).cs = s.cs ∧ (s.payPending d).pos = s.pos ∧ (s.payPending d).zt = s.zt
      ∧ (s.payPending d).asu = s.asu ∧ (s.payPending d).msu = s.msu ∧ (s.payPending d).wm = s.wm
      ∧ (s.payPending d).slu = s.slu ∧ (s.payPending d).dsu = s.dsu ∧ (s.payPending d).spu = s.spu
      ∧ (s.payPending d).nu = s.nu ∧ (s.payPending d).fr = s.fr ∧ (s.payPending d).freeCount = s.freeCount
      ∧ (s.payPending d).pending = s.pending := by
  unfold State.payPending; (repeat' split) <;> simp

@[simp] theorem State.followOperation_frame (s : State) (d : BraceDirection) (b : Brace) :
    (s.followOperation d b).cs = s.cs ∧ (s.followOperation d b).pos = s.pos ∧ (s.followOperation d b).zt = s.zt
      ∧ (s.followOperation d b).asu = s.asu ∧ (s.followOperation d b).msu = s.msu
      ∧ (s.followOperation d b).wm = s.wm ∧ (s.followOperation d b).slu = s.slu
      ∧ (s.followOperation d b).dsu = s.dsu ∧ (s.followOperation d b).spu = s.spu
      ∧ (s.followOperation d b).nu = s.nu ∧ (s.followOperation d b).fr = s.fr
      ∧ (s.followOperation d b).freeCount = s.freeCount ∧ (s.followOperation d b).pending = s.pending := by
  simp only [State.followOperation]; (repeat' split) <;> simp

@[simp] theorem State.setSwitches_frame (s : State) (b : Brace) (engaged withdrawn : Bool) :
    (s.setSwitches b engaged withdrawn).cs = s.cs ∧ (s.setSwitches b engaged withdrawn).pos = s.pos
      ∧ (s.setSwitches b engaged withdrawn).zt = s.zt ∧ (s.setSwitches b engaged withdrawn).asu = s.asu
      ∧ (s.setSwitches b engaged withdrawn).msu = s.msu ∧ (s.setSwitches b engaged withdrawn).wm = s.wm
      ∧ (s.setSwitches b engaged withdrawn).slu = s.slu ∧ (s.setSwitches b engaged withdrawn).dsu = s.dsu
      ∧ (s.setSwitches b engaged withdrawn).spu = s.spu ∧ (s.setSwitches b engaged withdrawn).nu = s.nu
      ∧ (s.setSwitches b engaged withdrawn).fr = s.fr ∧ (s.setSwitches b engaged withdrawn).hand = s.hand
      ∧ (s.setSwitches b engaged withdrawn).freeCount = s.freeCount
      ∧ (s.setSwitches b engaged withdrawn).pending = s.pending := by
  simp [State.setSwitches]

@[simp] theorem State.switchesShow_frame (s : State) (b : Brace) :
    (s.switchesShow b).cs = s.cs ∧ (s.switchesShow b).pos = s.pos ∧ (s.switchesShow b).zt = s.zt
      ∧ (s.switchesShow b).asu = s.asu ∧ (s.switchesShow b).msu = s.msu ∧ (s.switchesShow b).wm = s.wm
      ∧ (s.switchesShow b).slu = s.slu ∧ (s.switchesShow b).dsu = s.dsu ∧ (s.switchesShow b).spu = s.spu
      ∧ (s.switchesShow b).nu = s.nu ∧ (s.switchesShow b).fr = s.fr ∧ (s.switchesShow b).freeCount = s.freeCount
      ∧ (s.switchesShow b).pending = s.pending := by
  unfold State.switchesShow; (repeat' split) <;> simp

@[simp] theorem State.reportStall_frame (s : State) (d : BraceDirection) (b : Brace) :
    (s.reportStall d b).cs = s.cs ∧ (s.reportStall d b).pos = s.pos ∧ (s.reportStall d b).zt = s.zt
      ∧ (s.reportStall d b).asu = s.asu ∧ (s.reportStall d b).msu = s.msu ∧ (s.reportStall d b).brc = s.brc
      ∧ (s.reportStall d b).wm = s.wm ∧ (s.reportStall d b).slu = s.slu ∧ (s.reportStall d b).dsu = s.dsu
      ∧ (s.reportStall d b).spu = s.spu ∧ (s.reportStall d b).nu = s.nu ∧ (s.reportStall d b).fr = s.fr
      ∧ (s.reportStall d b).freeCount = s.freeCount ∧ (s.reportStall d b).pending = s.pending := by
  unfold State.reportStall; (repeat' split) <;> simp

@[simp] theorem State.stallOperation_frame (s : State) (d : BraceDirection) :
    (s.stallOperation d).cs = s.cs ∧ (s.stallOperation d).pos = s.pos ∧ (s.stallOperation d).zt = s.zt
      ∧ (s.stallOperation d).asu = s.asu ∧ (s.stallOperation d).msu = s.msu ∧ (s.stallOperation d).wm = s.wm
      ∧ (s.stallOperation d).slu = s.slu ∧ (s.stallOperation d).dsu = s.dsu ∧ (s.stallOperation d).spu = s.spu
      ∧ (s.stallOperation d).nu = s.nu ∧ (s.stallOperation d).fr = s.fr
      ∧ (s.stallOperation d).freeCount = s.freeCount ∧ (s.stallOperation d).pending = s.pending := by
  simp [State.stallOperation]

@[simp] theorem State.operationExpires_frame (s : State) (b : Brace) :
    (s.operationExpires b).cs = s.cs ∧ (s.operationExpires b).pos = s.pos ∧ (s.operationExpires b).zt = s.zt
      ∧ (s.operationExpires b).asu = s.asu ∧ (s.operationExpires b).msu = s.msu ∧ (s.operationExpires b).wm = s.wm
      ∧ (s.operationExpires b).slu = s.slu ∧ (s.operationExpires b).dsu = s.dsu ∧ (s.operationExpires b).spu = s.spu
      ∧ (s.operationExpires b).nu = s.nu ∧ (s.operationExpires b).fr = s.fr
      ∧ (s.operationExpires b).freeCount = s.freeCount ∧ (s.operationExpires b).pending = s.pending := by
  simp only [State.operationExpires]; (repeat' split) <;> simp

@[simp] theorem State.cutOperation_frame (s : State) :
    (s.cutOperation).cs = s.cs ∧ (s.cutOperation).pos = s.pos ∧ (s.cutOperation).zt = s.zt
      ∧ (s.cutOperation).asu = s.asu ∧ (s.cutOperation).msu = s.msu ∧ (s.cutOperation).wm = s.wm
      ∧ (s.cutOperation).slu = s.slu ∧ (s.cutOperation).dsu = s.dsu ∧ (s.cutOperation).spu = s.spu
      ∧ (s.cutOperation).nu = s.nu ∧ (s.cutOperation).fr = s.fr ∧ (s.cutOperation).freeCount = s.freeCount
      ∧ (s.cutOperation).pending = s.pending := by
  unfold State.cutOperation; (repeat' split) <;> simp

@[simp] theorem State.takeCut_frame (s : State) :
    (s.takeCut).cs = s.cs ∧ (s.takeCut).pos = s.pos ∧ (s.takeCut).zt = s.zt ∧ (s.takeCut).asu = s.asu
      ∧ (s.takeCut).msu = s.msu ∧ (s.takeCut).wm = s.wm ∧ (s.takeCut).slu = s.slu ∧ (s.takeCut).dsu = s.dsu
      ∧ (s.takeCut).spu = s.spu ∧ (s.takeCut).nu = s.nu ∧ (s.takeCut).fr = s.fr
      ∧ (s.takeCut).freeCount = s.freeCount ∧ (s.takeCut).pending = s.pending := by
  unfold State.takeCut; (repeat' split) <;> simp

@[simp] theorem State.handClosure_frame (s : State) (before : WindState) :
    (s.handClosure before).cs = s.cs ∧ (s.handClosure before).pos = s.pos ∧ (s.handClosure before).zt = s.zt
      ∧ (s.handClosure before).asu = s.asu ∧ (s.handClosure before).msu = s.msu ∧ (s.handClosure before).brc = s.brc
      ∧ (s.handClosure before).wm = s.wm ∧ (s.handClosure before).slu = s.slu ∧ (s.handClosure before).dsu = s.dsu
      ∧ (s.handClosure before).spu = s.spu ∧ (s.handClosure before).nu = s.nu ∧ (s.handClosure before).fr = s.fr
      ∧ (s.handClosure before).freeCount = s.freeCount ∧ (s.handClosure before).pending = s.pending := by
  unfold State.handClosure; (repeat' split) <;> simp

@[simp] theorem State.modifyPort_frame (s : State) (p : Port) (f : PortRec → PortRec) :
    (s.modifyPort p f).cs = s.cs ∧ (s.modifyPort p f).pos = s.pos ∧ (s.modifyPort p f).zt = s.zt
      ∧ (s.modifyPort p f).asu = s.asu ∧ (s.modifyPort p f).msu = s.msu ∧ (s.modifyPort p f).brc = s.brc
      ∧ (s.modifyPort p f).wm = s.wm ∧ (s.modifyPort p f).slu = s.slu ∧ (s.modifyPort p f).dsu = s.dsu
      ∧ (s.modifyPort p f).nu = s.nu ∧ (s.modifyPort p f).fr = s.fr ∧ (s.modifyPort p f).hand = s.hand
      ∧ (s.modifyPort p f).freeCount = s.freeCount ∧ (s.modifyPort p f).pending = s.pending := by
  simp [State.modifyPort]

@[simp] theorem State.testFrame_frame (s : State) (p : Port) :
    (s.testFrame p).cs = s.cs ∧ (s.testFrame p).pos = s.pos ∧ (s.testFrame p).zt = s.zt
      ∧ (s.testFrame p).asu = s.asu ∧ (s.testFrame p).msu = s.msu ∧ (s.testFrame p).brc = s.brc
      ∧ (s.testFrame p).wm = s.wm ∧ (s.testFrame p).slu = s.slu ∧ (s.testFrame p).dsu = s.dsu
      ∧ (s.testFrame p).nu = s.nu ∧ (s.testFrame p).fr = s.fr ∧ (s.testFrame p).hand = s.hand
      ∧ (s.testFrame p).freeCount = s.freeCount ∧ (s.testFrame p).pending = s.pending := by
  simp only [State.testFrame]; (repeat' split) <;> simp

@[simp] theorem State.sendReply_frame (s : State) (p : Port) :
    (s.sendReply p).cs = s.cs ∧ (s.sendReply p).pos = s.pos ∧ (s.sendReply p).zt = s.zt
      ∧ (s.sendReply p).asu = s.asu ∧ (s.sendReply p).msu = s.msu ∧ (s.sendReply p).brc = s.brc
      ∧ (s.sendReply p).wm = s.wm ∧ (s.sendReply p).slu = s.slu ∧ (s.sendReply p).dsu = s.dsu
      ∧ (s.sendReply p).nu = s.nu ∧ (s.sendReply p).fr = s.fr ∧ (s.sendReply p).hand = s.hand
      ∧ (s.sendReply p).freeCount = s.freeCount ∧ (s.sendReply p).pending = s.pending := by
  simp only [State.sendReply]; (repeat' split) <;> simp

@[simp] theorem State.goSilent_frame (s : State) (p : Port) :
    (s.goSilent p).cs = s.cs ∧ (s.goSilent p).pos = s.pos ∧ (s.goSilent p).zt = s.zt ∧ (s.goSilent p).asu = s.asu
      ∧ (s.goSilent p).msu = s.msu ∧ (s.goSilent p).brc = s.brc ∧ (s.goSilent p).wm = s.wm
      ∧ (s.goSilent p).slu = s.slu ∧ (s.goSilent p).dsu = s.dsu ∧ (s.goSilent p).nu = s.nu
      ∧ (s.goSilent p).fr = s.fr ∧ (s.goSilent p).freeCount = s.freeCount ∧ (s.goSilent p).pending = s.pending := by
  simp [State.goSilent]

@[simp] theorem State.deliverTo_frame (s : State) (n : Notice) (p : Port) :
    (s.deliverTo n p).cs = s.cs ∧ (s.deliverTo n p).pos = s.pos ∧ (s.deliverTo n p).zt = s.zt
      ∧ (s.deliverTo n p).asu = s.asu ∧ (s.deliverTo n p).msu = s.msu ∧ (s.deliverTo n p).brc = s.brc
      ∧ (s.deliverTo n p).wm = s.wm ∧ (s.deliverTo n p).slu = s.slu ∧ (s.deliverTo n p).dsu = s.dsu
      ∧ (s.deliverTo n p).spu = s.spu ∧ (s.deliverTo n p).fr = s.fr ∧ (s.deliverTo n p).hand = s.hand
      ∧ (s.deliverTo n p).freeCount = s.freeCount ∧ (s.deliverTo n p).pending = s.pending := by
  unfold State.deliverTo; (repeat' split) <;> simp

@[simp] theorem State.takePosting_frame (s : State) (src : Block) :
    (s.takePosting src).cs = s.cs ∧ (s.takePosting src).pos = s.pos ∧ (s.takePosting src).zt = s.zt
      ∧ (s.takePosting src).asu = s.asu ∧ (s.takePosting src).msu = s.msu ∧ (s.takePosting src).brc = s.brc
      ∧ (s.takePosting src).wm = s.wm ∧ (s.takePosting src).slu = s.slu ∧ (s.takePosting src).dsu = s.dsu
      ∧ (s.takePosting src).spu = s.spu ∧ (s.takePosting src).fr = s.fr
      ∧ (s.takePosting src).freeCount = s.freeCount ∧ (s.takePosting src).pending = s.pending := by
  unfold State.takePosting; refine ⟨(by split <;> first | rfl | (refine (foldl_keeps (fun t : State => t.cs) _ (by intros; simp) _ _).trans ?_; simp)),
      (by split <;> first | rfl | (refine (foldl_keeps (fun t : State => t.pos) _ (by intros; simp) _ _).trans ?_; simp)),
      (by split <;> first | rfl | (refine (foldl_keeps (fun t : State => t.zt) _ (by intros; simp) _ _).trans ?_; simp)),
      (by split <;> first | rfl | (refine (foldl_keeps (fun t : State => t.asu) _ (by intros; simp) _ _).trans ?_; simp)),
      (by split <;> first | rfl | (refine (foldl_keeps (fun t : State => t.msu) _ (by intros; simp) _ _).trans ?_; simp)),
      (by split <;> first | rfl | (refine (foldl_keeps (fun t : State => t.brc) _ (by intros; simp) _ _).trans ?_; simp)),
      (by split <;> first | rfl | (refine (foldl_keeps (fun t : State => t.wm) _ (by intros; simp) _ _).trans ?_; simp)),
      (by split <;> first | rfl | (refine (foldl_keeps (fun t : State => t.slu) _ (by intros; simp) _ _).trans ?_; simp)),
      (by split <;> first | rfl | (refine (foldl_keeps (fun t : State => t.dsu) _ (by intros; simp) _ _).trans ?_; simp)),
      (by split <;> first | rfl | (refine (foldl_keeps (fun t : State => t.spu) _ (by intros; simp) _ _).trans ?_; simp)),
      (by split <;> first | rfl | (refine (foldl_keeps (fun t : State => t.fr) _ (by intros; simp) _ _).trans ?_; simp)),
      (by split <;> first | rfl | (refine (foldl_keeps (fun t : State => t.freeCount) _ (by intros; simp) _ _).trans ?_; simp)),
      (by split <;> first | rfl | (refine (foldl_keeps (fun t : State => t.pending) _ (by intros; simp) _ _).trans ?_; simp))⟩

@[simp] theorem State.recordFault_frame (s : State) (f : FaultMessage) :
    (s.recordFault f).cs = s.cs ∧ (s.recordFault f).pos = s.pos ∧ (s.recordFault f).zt = s.zt
      ∧ (s.recordFault f).asu = s.asu ∧ (s.recordFault f).msu = s.msu ∧ (s.recordFault f).brc = s.brc
      ∧ (s.recordFault f).wm = s.wm ∧ (s.recordFault f).slu = s.slu ∧ (s.recordFault f).dsu = s.dsu
      ∧ (s.recordFault f).spu = s.spu ∧ (s.recordFault f).nu = s.nu ∧ (s.recordFault f).hand = s.hand
      ∧ (s.recordFault f).freeCount = s.freeCount ∧ (s.recordFault f).pending = s.pending := by
  unfold State.recordFault; (repeat' split) <;> simp

@[simp] theorem State.takeFault_frame (s : State) (n : Nat) :
    (s.takeFault n).cs = s.cs ∧ (s.takeFault n).pos = s.pos ∧ (s.takeFault n).zt = s.zt
      ∧ (s.takeFault n).asu = s.asu ∧ (s.takeFault n).msu = s.msu ∧ (s.takeFault n).brc = s.brc
      ∧ (s.takeFault n).wm = s.wm ∧ (s.takeFault n).slu = s.slu ∧ (s.takeFault n).dsu = s.dsu
      ∧ (s.takeFault n).spu = s.spu ∧ (s.takeFault n).nu = s.nu ∧ (s.takeFault n).freeCount = s.freeCount
      ∧ (s.takeFault n).pending = s.pending := by
  unfold State.takeFault; (repeat' split) <;> simp

@[simp] theorem State.toConfiguring_frame (s : State) :
    (s.toConfiguring).cs = s.cs ∧ (s.toConfiguring).pos = s.pos ∧ (s.toConfiguring).zt = s.zt
      ∧ (s.toConfiguring).asu = s.asu ∧ (s.toConfiguring).msu = s.msu ∧ (s.toConfiguring).brc = s.brc
      ∧ (s.toConfiguring).wm = s.wm ∧ (s.toConfiguring).slu = s.slu ∧ (s.toConfiguring).spu = s.spu
      ∧ (s.toConfiguring).nu = s.nu ∧ (s.toConfiguring).fr = s.fr ∧ (s.toConfiguring).freeCount = s.freeCount
      ∧ (s.toConfiguring).pending = s.pending := by
  unfold State.toConfiguring; (repeat' split) <;> simp

@[simp] theorem State.startWrite_frame (s : State) (tag : Byte) (img : Image) :
    (s.startWrite tag img).pos = s.pos ∧ (s.startWrite tag img).zt = s.zt ∧ (s.startWrite tag img).asu = s.asu
      ∧ (s.startWrite tag img).msu = s.msu ∧ (s.startWrite tag img).brc = s.brc ∧ (s.startWrite tag img).wm = s.wm
      ∧ (s.startWrite tag img).slu = s.slu ∧ (s.startWrite tag img).dsu = s.dsu ∧ (s.startWrite tag img).spu = s.spu
      ∧ (s.startWrite tag img).nu = s.nu ∧ (s.startWrite tag img).fr = s.fr ∧ (s.startWrite tag img).hand = s.hand
      ∧ (s.startWrite tag img).freeCount = s.freeCount ∧ (s.startWrite tag img).pending = s.pending := by
  simp [State.startWrite]

@[simp] theorem State.reformBodies_frame (s : State) :
    (s.reformBodies).cs = s.cs ∧ (s.reformBodies).zt = s.zt ∧ (s.reformBodies).asu = s.asu
      ∧ (s.reformBodies).msu = s.msu ∧ (s.reformBodies).brc = s.brc ∧ (s.reformBodies).wm = s.wm
      ∧ (s.reformBodies).slu = s.slu ∧ (s.reformBodies).dsu = s.dsu ∧ (s.reformBodies).spu = s.spu
      ∧ (s.reformBodies).nu = s.nu ∧ (s.reformBodies).fr = s.fr ∧ (s.reformBodies).freeCount = s.freeCount
      ∧ (s.reformBodies).pending = s.pending := by
  simp [State.reformBodies, allMovers, panels]

@[simp] theorem State.repark_frame (s : State) (m : Mover) :
    (s.repark m).cs = s.cs ∧ (s.repark m).pos = s.pos ∧ (s.repark m).zt = s.zt ∧ (s.repark m).asu = s.asu
      ∧ (s.repark m).brc = s.brc ∧ (s.repark m).wm = s.wm ∧ (s.repark m).slu = s.slu ∧ (s.repark m).dsu = s.dsu
      ∧ (s.repark m).spu = s.spu ∧ (s.repark m).nu = s.nu ∧ (s.repark m).fr = s.fr ∧ (s.repark m).hand = s.hand
      ∧ (s.repark m).freeCount = s.freeCount ∧ (s.repark m).pending = s.pending := by
  unfold State.repark; (repeat' split) <;> simp

@[simp] theorem State.rebuildZones_frame (s : State) :
    (s.rebuildZones).cs = s.cs ∧ (s.rebuildZones).pos = s.pos ∧ (s.rebuildZones).asu = s.asu
      ∧ (s.rebuildZones).msu = s.msu ∧ (s.rebuildZones).brc = s.brc ∧ (s.rebuildZones).wm = s.wm
      ∧ (s.rebuildZones).slu = s.slu ∧ (s.rebuildZones).dsu = s.dsu ∧ (s.rebuildZones).spu = s.spu
      ∧ (s.rebuildZones).nu = s.nu ∧ (s.rebuildZones).fr = s.fr ∧ (s.rebuildZones).hand = s.hand
      ∧ (s.rebuildZones).freeCount = s.freeCount ∧ (s.rebuildZones).pending = s.pending := by
  simp [State.rebuildZones]

@[simp] theorem State.takeUpImage_frame (s : State) :
    (s.takeUpImage).cs = s.cs ∧ (s.takeUpImage).asu = s.asu ∧ (s.takeUpImage).brc = s.brc
      ∧ (s.takeUpImage).wm = s.wm ∧ (s.takeUpImage).slu = s.slu ∧ (s.takeUpImage).dsu = s.dsu
      ∧ (s.takeUpImage).spu = s.spu ∧ (s.takeUpImage).nu = s.nu ∧ (s.takeUpImage).fr = s.fr
      ∧ (s.takeUpImage).freeCount = s.freeCount ∧ (s.takeUpImage).pending = s.pending := by
  simp [State.takeUpImage, allMovers, panels]

@[simp] theorem State.writeSucceeds_frame (s : State) (c : CommitRec) (img : Image) :
    (s.writeSucceeds c img).asu = s.asu ∧ (s.writeSucceeds c img).brc = s.brc ∧ (s.writeSucceeds c img).wm = s.wm
      ∧ (s.writeSucceeds c img).slu = s.slu ∧ (s.writeSucceeds c img).nu = s.nu ∧ (s.writeSucceeds c img).fr = s.fr
      ∧ (s.writeSucceeds c img).freeCount = s.freeCount ∧ (s.writeSucceeds c img).pending = s.pending := by
  simp [State.writeSucceeds]

@[simp] theorem State.writeFails_frame (s : State) (c : CommitRec) :
    (s.writeFails c).pos = s.pos ∧ (s.writeFails c).zt = s.zt ∧ (s.writeFails c).asu = s.asu
      ∧ (s.writeFails c).msu = s.msu ∧ (s.writeFails c).brc = s.brc ∧ (s.writeFails c).wm = s.wm
      ∧ (s.writeFails c).slu = s.slu ∧ (s.writeFails c).nu = s.nu ∧ (s.writeFails c).fr = s.fr
      ∧ (s.writeFails c).pending = s.pending := by
  simp [State.writeFails]

@[simp] theorem State.endWrite_frame (s : State) (readbackMatches : Bool) :
    (s.endWrite readbackMatches).asu = s.asu ∧ (s.endWrite readbackMatches).brc = s.brc
      ∧ (s.endWrite readbackMatches).wm = s.wm ∧ (s.endWrite readbackMatches).slu = s.slu
      ∧ (s.endWrite readbackMatches).nu = s.nu ∧ (s.endWrite readbackMatches).fr = s.fr
      ∧ (s.endWrite readbackMatches).pending = s.pending := by
  unfold State.endWrite; (repeat' split) <;> simp

end Sys2Proof.Machine
end

