-- ==== Sys2Proof/Laws/Commands.lean ====
section
/-! SUPPORT. For each command, every block it leaves as it was; the resets, which set every block, apart. -/

set_option linter.all false

namespace Sys2Proof.Machine

@[simp] theorem settleReserve_frame (p : Port) (r : Request) (s : State) :
    (settleReserve p r s).1.cs = s.cs ∧ (settleReserve p r s).1.pos = s.pos ∧ (settleReserve p r s).1.asu = s.asu
      ∧ (settleReserve p r s).1.msu = s.msu ∧ (settleReserve p r s).1.brc = s.brc
      ∧ (settleReserve p r s).1.wm = s.wm ∧ (settleReserve p r s).1.slu = s.slu
      ∧ (settleReserve p r s).1.dsu = s.dsu ∧ (settleReserve p r s).1.spu = s.spu
      ∧ (settleReserve p r s).1.nu = s.nu ∧ (settleReserve p r s).1.fr = s.fr
      ∧ (settleReserve p r s).1.freeCount = s.freeCount ∧ (settleReserve p r s).1.pending = s.pending := by
  simp only [settleReserve]; (repeat' split) <;> simp

@[simp] theorem settleRelease_frame (p : Port) (r : Request) (s : State) :
    (settleRelease p r s).1.cs = s.cs ∧ (settleRelease p r s).1.pos = s.pos ∧ (settleRelease p r s).1.msu = s.msu
      ∧ (settleRelease p r s).1.brc = s.brc ∧ (settleRelease p r s).1.wm = s.wm
      ∧ (settleRelease p r s).1.slu = s.slu ∧ (settleRelease p r s).1.dsu = s.dsu
      ∧ (settleRelease p r s).1.spu = s.spu ∧ (settleRelease p r s).1.nu = s.nu ∧ (settleRelease p r s).1.fr = s.fr
      ∧ (settleRelease p r s).1.freeCount = s.freeCount ∧ (settleRelease p r s).1.pending = s.pending := by
  simp only [settleRelease]; (repeat' split) <;> simp

@[simp] theorem settleBarrierRequest_frame (p : Port) (r : Request) (s : State) :
    (settleBarrierRequest p r s).1.cs = s.cs ∧ (settleBarrierRequest p r s).1.pos = s.pos
      ∧ (settleBarrierRequest p r s).1.asu = s.asu ∧ (settleBarrierRequest p r s).1.msu = s.msu
      ∧ (settleBarrierRequest p r s).1.brc = s.brc ∧ (settleBarrierRequest p r s).1.wm = s.wm
      ∧ (settleBarrierRequest p r s).1.slu = s.slu ∧ (settleBarrierRequest p r s).1.dsu = s.dsu
      ∧ (settleBarrierRequest p r s).1.spu = s.spu ∧ (settleBarrierRequest p r s).1.nu = s.nu
      ∧ (settleBarrierRequest p r s).1.fr = s.fr ∧ (settleBarrierRequest p r s).1.freeCount = s.freeCount
      ∧ (settleBarrierRequest p r s).1.pending = s.pending := by
  simp only [settleBarrierRequest]; (repeat' split) <;> simp

@[simp] theorem settleMove_frame (p : Port) (r : Request) (s : State) :
    (settleMove p r s).1.cs = s.cs ∧ (settleMove p r s).1.zt = s.zt ∧ (settleMove p r s).1.brc = s.brc
      ∧ (settleMove p r s).1.wm = s.wm ∧ (settleMove p r s).1.slu = s.slu ∧ (settleMove p r s).1.dsu = s.dsu
      ∧ (settleMove p r s).1.spu = s.spu ∧ (settleMove p r s).1.nu = s.nu ∧ (settleMove p r s).1.fr = s.fr
      ∧ (settleMove p r s).1.freeCount = s.freeCount ∧ (settleMove p r s).1.pending = s.pending := by
  simp only [settleMove]; (repeat' split) <;> simp

@[simp] theorem settleStop_frame (p : Port) (r : Request) (s : State) :
    (settleStop p r s).1.cs = s.cs ∧ (settleStop p r s).1.pos = s.pos ∧ (settleStop p r s).1.brc = s.brc
      ∧ (settleStop p r s).1.wm = s.wm ∧ (settleStop p r s).1.slu = s.slu ∧ (settleStop p r s).1.dsu = s.dsu
      ∧ (settleStop p r s).1.spu = s.spu ∧ (settleStop p r s).1.nu = s.nu ∧ (settleStop p r s).1.fr = s.fr
      ∧ (settleStop p r s).1.freeCount = s.freeCount ∧ (settleStop p r s).1.pending = s.pending := by
  simp only [settleStop]; (repeat' split) <;> simp

@[simp] theorem settleClear_frame (p : Port) (r : Request) (s : State) :
    (settleClear p r s).1.cs = s.cs ∧ (settleClear p r s).1.pos = s.pos ∧ (settleClear p r s).1.brc = s.brc
      ∧ (settleClear p r s).1.wm = s.wm ∧ (settleClear p r s).1.slu = s.slu ∧ (settleClear p r s).1.dsu = s.dsu
      ∧ (settleClear p r s).1.spu = s.spu ∧ (settleClear p r s).1.nu = s.nu ∧ (settleClear p r s).1.fr = s.fr
      ∧ (settleClear p r s).1.freeCount = s.freeCount ∧ (settleClear p r s).1.pending = s.pending := by
  simp only [settleClear]; (repeat' split) <;> simp

@[simp] theorem settleArm_frame (p : Port) (r : Request) (s : State) :
    (settleArm p r s).1.cs = s.cs ∧ (settleArm p r s).1.pos = s.pos ∧ (settleArm p r s).1.zt = s.zt
      ∧ (settleArm p r s).1.asu = s.asu ∧ (settleArm p r s).1.brc = s.brc ∧ (settleArm p r s).1.wm = s.wm
      ∧ (settleArm p r s).1.slu = s.slu ∧ (settleArm p r s).1.spu = s.spu ∧ (settleArm p r s).1.nu = s.nu
      ∧ (settleArm p r s).1.fr = s.fr ∧ (settleArm p r s).1.freeCount = s.freeCount
      ∧ (settleArm p r s).1.pending = s.pending := by
  simp only [settleArm]; (repeat' split) <;> simp

@[simp] theorem settleStandby_frame (p : Port) (r : Request) (s : State) :
    (settleStandby p r s).1.cs = s.cs ∧ (settleStandby p r s).1.pos = s.pos ∧ (settleStandby p r s).1.zt = s.zt
      ∧ (settleStandby p r s).1.asu = s.asu ∧ (settleStandby p r s).1.brc = s.brc
      ∧ (settleStandby p r s).1.wm = s.wm ∧ (settleStandby p r s).1.slu = s.slu
      ∧ (settleStandby p r s).1.spu = s.spu ∧ (settleStandby p r s).1.nu = s.nu ∧ (settleStandby p r s).1.fr = s.fr
      ∧ (settleStandby p r s).1.freeCount = s.freeCount ∧ (settleStandby p r s).1.pending = s.pending := by
  simp only [settleStandby]; (repeat' split) <;> simp

@[simp] theorem settlePermits_frame (p : Port) (r : Request) (s : State) :
    (settlePermits p r s).1.cs = s.cs ∧ (settlePermits p r s).1.pos = s.pos ∧ (settlePermits p r s).1.zt = s.zt
      ∧ (settlePermits p r s).1.asu = s.asu ∧ (settlePermits p r s).1.msu = s.msu
      ∧ (settlePermits p r s).1.brc = s.brc ∧ (settlePermits p r s).1.wm = s.wm
      ∧ (settlePermits p r s).1.slu = s.slu ∧ (settlePermits p r s).1.spu = s.spu
      ∧ (settlePermits p r s).1.nu = s.nu ∧ (settlePermits p r s).1.fr = s.fr
      ∧ (settlePermits p r s).1.freeCount = s.freeCount ∧ (settlePermits p r s).1.pending = s.pending := by
  unfold settlePermits; dsimp only; (repeat' split) <;> simp

@[simp] theorem settleReset_frame (p : Port) (r : Request) (s : State) :
    (settleReset p r s).1.cs = s.cs ∧ (settleReset p r s).1.pos = s.pos ∧ (settleReset p r s).1.zt = s.zt
      ∧ (settleReset p r s).1.asu = s.asu ∧ (settleReset p r s).1.msu = s.msu ∧ (settleReset p r s).1.brc = s.brc
      ∧ (settleReset p r s).1.wm = s.wm ∧ (settleReset p r s).1.slu = s.slu ∧ (settleReset p r s).1.dsu = s.dsu
      ∧ (settleReset p r s).1.nu = s.nu ∧ (settleReset p r s).1.fr = s.fr ∧ (settleReset p r s).1.hand = s.hand
      ∧ (settleReset p r s).1.freeCount = s.freeCount ∧ (settleReset p r s).1.pending = s.pending := by
  unfold settleReset; dsimp only; (repeat' split) <;> simp

@[simp] theorem settleBrace_frame (p : Port) (r : Request) (s : State) :
    (settleBrace p r s).1.cs = s.cs ∧ (settleBrace p r s).1.pos = s.pos ∧ (settleBrace p r s).1.zt = s.zt
      ∧ (settleBrace p r s).1.asu = s.asu ∧ (settleBrace p r s).1.msu = s.msu ∧ (settleBrace p r s).1.wm = s.wm
      ∧ (settleBrace p r s).1.slu = s.slu ∧ (settleBrace p r s).1.dsu = s.dsu ∧ (settleBrace p r s).1.spu = s.spu
      ∧ (settleBrace p r s).1.nu = s.nu ∧ (settleBrace p r s).1.fr = s.fr
      ∧ (settleBrace p r s).1.freeCount = s.freeCount ∧ (settleBrace p r s).1.pending = s.pending := by
  simp only [settleBrace]; (repeat' split) <;> simp

@[simp] theorem settleBraceClear_frame (p : Port) (r : Request) (s : State) :
    (settleBraceClear p r s).1.cs = s.cs ∧ (settleBraceClear p r s).1.pos = s.pos
      ∧ (settleBraceClear p r s).1.zt = s.zt ∧ (settleBraceClear p r s).1.asu = s.asu
      ∧ (settleBraceClear p r s).1.msu = s.msu ∧ (settleBraceClear p r s).1.wm = s.wm
      ∧ (settleBraceClear p r s).1.slu = s.slu ∧ (settleBraceClear p r s).1.dsu = s.dsu
      ∧ (settleBraceClear p r s).1.spu = s.spu ∧ (settleBraceClear p r s).1.nu = s.nu
      ∧ (settleBraceClear p r s).1.fr = s.fr ∧ (settleBraceClear p r s).1.freeCount = s.freeCount
      ∧ (settleBraceClear p r s).1.pending = s.pending := by
  simp only [settleBraceClear]; split <;> (first | (refine ⟨foldl_keeps (fun t : State => t.cs) _ (by intros; simp) _ _,
      foldl_keeps (fun t : State => t.pos) _ (by intros; simp) _ _,
      foldl_keeps (fun t : State => t.zt) _ (by intros; simp) _ _,
      foldl_keeps (fun t : State => t.asu) _ (by intros; simp) _ _,
      foldl_keeps (fun t : State => t.msu) _ (by intros; simp) _ _,
      foldl_keeps (fun t : State => t.wm) _ (by intros; simp) _ _,
      foldl_keeps (fun t : State => t.slu) _ (by intros; simp) _ _,
      foldl_keeps (fun t : State => t.dsu) _ (by intros; simp) _ _,
      foldl_keeps (fun t : State => t.spu) _ (by intros; simp) _ _,
      foldl_keeps (fun t : State => t.nu) _ (by intros; simp) _ _,
      foldl_keeps (fun t : State => t.fr) _ (by intros; simp) _ _,
      foldl_keeps (fun t : State => t.freeCount) _ (by intros; simp) _ _,
      foldl_keeps (fun t : State => t.pending) _ (by intros; simp) _ _⟩) | simp)

@[simp] theorem settleMask_frame (p : Port) (r : Request) (s : State) :
    (settleMask p r s).1.cs = s.cs ∧ (settleMask p r s).1.pos = s.pos ∧ (settleMask p r s).1.zt = s.zt
      ∧ (settleMask p r s).1.asu = s.asu ∧ (settleMask p r s).1.msu = s.msu ∧ (settleMask p r s).1.brc = s.brc
      ∧ (settleMask p r s).1.wm = s.wm ∧ (settleMask p r s).1.slu = s.slu ∧ (settleMask p r s).1.dsu = s.dsu
      ∧ (settleMask p r s).1.nu = s.nu ∧ (settleMask p r s).1.fr = s.fr ∧ (settleMask p r s).1.hand = s.hand
      ∧ (settleMask p r s).1.freeCount = s.freeCount ∧ (settleMask p r s).1.pending = s.pending := by
  simp [settleMask]

@[simp] theorem settleNotice_frame (p : Port) (r : Request) (s : State) :
    (settleNotice p r s).1.cs = s.cs ∧ (settleNotice p r s).1.pos = s.pos ∧ (settleNotice p r s).1.zt = s.zt
      ∧ (settleNotice p r s).1.asu = s.asu ∧ (settleNotice p r s).1.msu = s.msu ∧ (settleNotice p r s).1.brc = s.brc
      ∧ (settleNotice p r s).1.wm = s.wm ∧ (settleNotice p r s).1.slu = s.slu ∧ (settleNotice p r s).1.dsu = s.dsu
      ∧ (settleNotice p r s).1.spu = s.spu ∧ (settleNotice p r s).1.fr = s.fr ∧ (settleNotice p r s).1.hand = s.hand
      ∧ (settleNotice p r s).1.freeCount = s.freeCount ∧ (settleNotice p r s).1.pending = s.pending := by
  simp [settleNotice]

@[simp] theorem settleFaultClear_frame (p : Port) (r : Request) (s : State) :
    (settleFaultClear p r s).1.cs = s.cs ∧ (settleFaultClear p r s).1.pos = s.pos
      ∧ (settleFaultClear p r s).1.zt = s.zt ∧ (settleFaultClear p r s).1.asu = s.asu
      ∧ (settleFaultClear p r s).1.msu = s.msu ∧ (settleFaultClear p r s).1.brc = s.brc
      ∧ (settleFaultClear p r s).1.wm = s.wm ∧ (settleFaultClear p r s).1.slu = s.slu
      ∧ (settleFaultClear p r s).1.spu = s.spu ∧ (settleFaultClear p r s).1.nu = s.nu
      ∧ (settleFaultClear p r s).1.hand = s.hand ∧ (settleFaultClear p r s).1.freeCount = s.freeCount
      ∧ (settleFaultClear p r s).1.pending = s.pending := by
  unfold settleFaultClear; dsimp only; (repeat' split) <;> simp

@[simp] theorem settleMoverStatus_frame (p : Port) (r : Request) (s : State) :
    (settleMoverStatus p r s).1.cs = s.cs ∧ (settleMoverStatus p r s).1.pos = s.pos
      ∧ (settleMoverStatus p r s).1.zt = s.zt ∧ (settleMoverStatus p r s).1.asu = s.asu
      ∧ (settleMoverStatus p r s).1.msu = s.msu ∧ (settleMoverStatus p r s).1.brc = s.brc
      ∧ (settleMoverStatus p r s).1.wm = s.wm ∧ (settleMoverStatus p r s).1.slu = s.slu
      ∧ (settleMoverStatus p r s).1.dsu = s.dsu ∧ (settleMoverStatus p r s).1.spu = s.spu
      ∧ (settleMoverStatus p r s).1.nu = s.nu ∧ (settleMoverStatus p r s).1.fr = s.fr
      ∧ (settleMoverStatus p r s).1.hand = s.hand ∧ (settleMoverStatus p r s).1.pending = s.pending := by
  unfold settleMoverStatus; dsimp only; (repeat' split) <;> simp

@[simp] theorem settleConfigWrite_frame (p : Port) (r : Request) (s : State) :
    (settleConfigWrite p r s).1.pos = s.pos ∧ (settleConfigWrite p r s).1.zt = s.zt
      ∧ (settleConfigWrite p r s).1.asu = s.asu ∧ (settleConfigWrite p r s).1.msu = s.msu
      ∧ (settleConfigWrite p r s).1.brc = s.brc ∧ (settleConfigWrite p r s).1.wm = s.wm
      ∧ (settleConfigWrite p r s).1.slu = s.slu ∧ (settleConfigWrite p r s).1.spu = s.spu
      ∧ (settleConfigWrite p r s).1.nu = s.nu ∧ (settleConfigWrite p r s).1.fr = s.fr
      ∧ (settleConfigWrite p r s).1.freeCount = s.freeCount ∧ (settleConfigWrite p r s).1.pending = s.pending := by
  unfold settleConfigWrite; dsimp only; (repeat' split) <;> simp

@[simp] theorem settleCommit_frame (p : Port) (r : Request) (s : State) :
    (settleCommit p r s).1.pos = s.pos ∧ (settleCommit p r s).1.zt = s.zt ∧ (settleCommit p r s).1.asu = s.asu
      ∧ (settleCommit p r s).1.msu = s.msu ∧ (settleCommit p r s).1.brc = s.brc ∧ (settleCommit p r s).1.wm = s.wm
      ∧ (settleCommit p r s).1.slu = s.slu ∧ (settleCommit p r s).1.dsu = s.dsu ∧ (settleCommit p r s).1.spu = s.spu
      ∧ (settleCommit p r s).1.nu = s.nu ∧ (settleCommit p r s).1.fr = s.fr ∧ (settleCommit p r s).1.hand = s.hand
      ∧ (settleCommit p r s).1.freeCount = s.freeCount ∧ (settleCommit p r s).1.pending = s.pending := by
  simp only [settleCommit]; (repeat' split) <;> simp

@[simp] theorem takeHead_fields (s : State) (p : Port) : (s.takeHead p).cs = s.cs ∧ (s.takeHead p).dsu = s.dsu := ⟨rfl, rfl⟩

/-- Serving a request keeps whatever its settlement and the handler's own work on the ports keep. -/
theorem State.serve_keeps {β : Type} (g : State → β) (row : Instr) (settle : Settlement) (s : State)
    (hspu : ∀ (t : State) x, g (t.withSpu x) = g t) (h : ∀ p r t, g (settle p r t).1 = g t) :
    g (s.serve row settle) = g s := by
  have hr : ∀ (t : State) p tag a, g (t.reply p tag a) = g t := fun t p tag a => hspu t _
  have ht : ∀ (t : State) p, g (t.takeHead p) = g t := fun t p => hspu t _
  unfold State.serve
  split
  · split
    · unfold State.handle
      dsimp only
      split
      · rw [hr, ht]
      · rename_i p r _ _ _ _
        have h1 := h p r (s.takeHead p)
        split
        · rename_i s2 a heq
          rw [heq] at h1
          rw [hr, h1, ht]
        · rename_i s2 heq
          rw [heq] at h1
          rw [h1, ht]
    · rfl
  · rfl

theorem execReadingArrival_frame (bus : ReaderBus) (f : ReadingFrame) (s : State) :
    ∃ t, execReadingArrival bus f s = .next t ∧ t.cs = s.cs ∧ t.zt = s.zt ∧ t.asu = s.asu ∧ t.msu = s.msu
      ∧ t.brc = s.brc ∧ t.wm = s.wm ∧ t.slu = s.slu ∧ t.dsu = s.dsu ∧ t.spu = s.spu ∧ t.nu = s.nu ∧ t.fr = s.fr
      ∧ t.freeCount = s.freeCount ∧ t.pending = s.pending := by
  simp only [execReadingArrival, State.whileRunning, Host.Outcome.next.injEq, exists_eq_left']
  (repeat' split) <;> simp

theorem execGapTimerExpiry_frame (a : Axis) (role : ReaderRole) (s : State) :
    ∃ t, execGapTimerExpiry a role s = .next t ∧ t.cs = s.cs ∧ t.zt = s.zt ∧ t.asu = s.asu ∧ t.msu = s.msu
      ∧ t.brc = s.brc ∧ t.wm = s.wm ∧ t.slu = s.slu ∧ t.dsu = s.dsu ∧ t.spu = s.spu ∧ t.nu = s.nu ∧ t.fr = s.fr
      ∧ t.freeCount = s.freeCount ∧ t.pending = s.pending := by
  simp only [execGapTimerExpiry, State.whileRunning, Host.Outcome.next.injEq, exists_eq_left']
  (repeat' split) <;> simp

theorem execLossTimerExpiry_frame (a : Axis) (s : State) :
    ∃ t, execLossTimerExpiry a s = .next t ∧ t.cs = s.cs ∧ t.zt = s.zt ∧ t.asu = s.asu ∧ t.msu = s.msu
      ∧ t.brc = s.brc ∧ t.wm = s.wm ∧ t.slu = s.slu ∧ t.dsu = s.dsu ∧ t.spu = s.spu ∧ t.nu = s.nu ∧ t.fr = s.fr
      ∧ t.freeCount = s.freeCount ∧ t.pending = s.pending := by
  simp only [execLossTimerExpiry, State.whileRunning, Host.Outcome.next.injEq, exists_eq_left']
  (repeat' split) <;> simp

theorem execReserve_frame (s : State) :
    ∃ t, execReserve s = .next t ∧ t.cs = s.cs ∧ t.pos = s.pos ∧ t.asu = s.asu ∧ t.msu = s.msu ∧ t.brc = s.brc
      ∧ t.wm = s.wm ∧ t.slu = s.slu ∧ t.dsu = s.dsu ∧ t.nu = s.nu ∧ t.fr = s.fr ∧ t.freeCount = s.freeCount
      ∧ t.pending = s.pending := by
  simp only [execReserve, State.whileRunning, Host.Outcome.next.injEq, exists_eq_left']
  split
  · simp
  · exact ⟨State.serve_keeps (fun t : State => t.cs) _ _ _ (by intros; rfl) (by intros; simp [answerOnly]),
      State.serve_keeps (fun t : State => t.pos) _ _ _ (by intros; rfl) (by intros; simp [answerOnly]),
      State.serve_keeps (fun t : State => t.asu) _ _ _ (by intros; rfl) (by intros; simp [answerOnly]),
      State.serve_keeps (fun t : State => t.msu) _ _ _ (by intros; rfl) (by intros; simp [answerOnly]),
      State.serve_keeps (fun t : State => t.brc) _ _ _ (by intros; rfl) (by intros; simp [answerOnly]),
      State.serve_keeps (fun t : State => t.wm) _ _ _ (by intros; rfl) (by intros; simp [answerOnly]),
      State.serve_keeps (fun t : State => t.slu) _ _ _ (by intros; rfl) (by intros; simp [answerOnly]),
      State.serve_keeps (fun t : State => t.dsu) _ _ _ (by intros; rfl) (by intros; simp [answerOnly]),
      State.serve_keeps (fun t : State => t.nu) _ _ _ (by intros; rfl) (by intros; simp [answerOnly]),
      State.serve_keeps (fun t : State => t.fr) _ _ _ (by intros; rfl) (by intros; simp [answerOnly]),
      State.serve_keeps (fun t : State => t.freeCount) _ _ _ (by intros; rfl) (by intros; simp [answerOnly]),
      State.serve_keeps (fun t : State => t.pending) _ _ _ (by intros; rfl) (by intros; simp [answerOnly])⟩

theorem execRelease_frame (s : State) :
    ∃ t, execRelease s = .next t ∧ t.cs = s.cs ∧ t.pos = s.pos ∧ t.msu = s.msu ∧ t.brc = s.brc ∧ t.wm = s.wm
      ∧ t.slu = s.slu ∧ t.dsu = s.dsu ∧ t.nu = s.nu ∧ t.fr = s.fr ∧ t.freeCount = s.freeCount
      ∧ t.pending = s.pending := by
  simp only [execRelease, State.whileRunning, Host.Outcome.next.injEq, exists_eq_left']
  split
  · simp
  · exact ⟨State.serve_keeps (fun t : State => t.cs) _ _ _ (by intros; rfl) (by intros; simp [answerOnly]),
      State.serve_keeps (fun t : State => t.pos) _ _ _ (by intros; rfl) (by intros; simp [answerOnly]),
      State.serve_keeps (fun t : State => t.msu) _ _ _ (by intros; rfl) (by intros; simp [answerOnly]),
      State.serve_keeps (fun t : State => t.brc) _ _ _ (by intros; rfl) (by intros; simp [answerOnly]),
      State.serve_keeps (fun t : State => t.wm) _ _ _ (by intros; rfl) (by intros; simp [answerOnly]),
      State.serve_keeps (fun t : State => t.slu) _ _ _ (by intros; rfl) (by intros; simp [answerOnly]),
      State.serve_keeps (fun t : State => t.dsu) _ _ _ (by intros; rfl) (by intros; simp [answerOnly]),
      State.serve_keeps (fun t : State => t.nu) _ _ _ (by intros; rfl) (by intros; simp [answerOnly]),
      State.serve_keeps (fun t : State => t.fr) _ _ _ (by intros; rfl) (by intros; simp [answerOnly]),
      State.serve_keeps (fun t : State => t.freeCount) _ _ _ (by intros; rfl) (by intros; simp [answerOnly]),
      State.serve_keeps (fun t : State => t.pending) _ _ _ (by intros; rfl) (by intros; simp [answerOnly])⟩

theorem execBarrierClose_frame (s : State) :
    ∃ t, execBarrierClose s = .next t ∧ t.cs = s.cs ∧ t.pos = s.pos ∧ t.asu = s.asu ∧ t.msu = s.msu ∧ t.brc = s.brc
      ∧ t.wm = s.wm ∧ t.slu = s.slu ∧ t.dsu = s.dsu ∧ t.nu = s.nu ∧ t.fr = s.fr ∧ t.freeCount = s.freeCount
      ∧ t.pending = s.pending := by
  simp only [execBarrierClose, State.whileRunning, Host.Outcome.next.injEq, exists_eq_left']
  split
  · simp
  · exact ⟨State.serve_keeps (fun t : State => t.cs) _ _ _ (by intros; rfl) (by intros; simp [answerOnly]),
      State.serve_keeps (fun t : State => t.pos) _ _ _ (by intros; rfl) (by intros; simp [answerOnly]),
      State.serve_keeps (fun t : State => t.asu) _ _ _ (by intros; rfl) (by intros; simp [answerOnly]),
      State.serve_keeps (fun t : State => t.msu) _ _ _ (by intros; rfl) (by intros; simp [answerOnly]),
      State.serve_keeps (fun t : State => t.brc) _ _ _ (by intros; rfl) (by intros; simp [answerOnly]),
      State.serve_keeps (fun t : State => t.wm) _ _ _ (by intros; rfl) (by intros; simp [answerOnly]),
      State.serve_keeps (fun t : State => t.slu) _ _ _ (by intros; rfl) (by intros; simp [answerOnly]),
      State.serve_keeps (fun t : State => t.dsu) _ _ _ (by intros; rfl) (by intros; simp [answerOnly]),
      State.serve_keeps (fun t : State => t.nu) _ _ _ (by intros; rfl) (by intros; simp [answerOnly]),
      State.serve_keeps (fun t : State => t.fr) _ _ _ (by intros; rfl) (by intros; simp [answerOnly]),
      State.serve_keeps (fun t : State => t.freeCount) _ _ _ (by intros; rfl) (by intros; simp [answerOnly]),
      State.serve_keeps (fun t : State => t.pending) _ _ _ (by intros; rfl) (by intros; simp [answerOnly])⟩

theorem execBarrierOpen_frame (s : State) :
    ∃ t, execBarrierOpen s = .next t ∧ t.cs = s.cs ∧ t.pos = s.pos ∧ t.asu = s.asu ∧ t.msu = s.msu ∧ t.brc = s.brc
      ∧ t.wm = s.wm ∧ t.slu = s.slu ∧ t.dsu = s.dsu ∧ t.nu = s.nu ∧ t.fr = s.fr ∧ t.freeCount = s.freeCount
      ∧ t.pending = s.pending := by
  simp only [execBarrierOpen, State.whileRunning, Host.Outcome.next.injEq, exists_eq_left']
  split
  · simp
  · exact ⟨State.serve_keeps (fun t : State => t.cs) _ _ _ (by intros; rfl) (by intros; simp [answerOnly]),
      State.serve_keeps (fun t : State => t.pos) _ _ _ (by intros; rfl) (by intros; simp [answerOnly]),
      State.serve_keeps (fun t : State => t.asu) _ _ _ (by intros; rfl) (by intros; simp [answerOnly]),
      State.serve_keeps (fun t : State => t.msu) _ _ _ (by intros; rfl) (by intros; simp [answerOnly]),
      State.serve_keeps (fun t : State => t.brc) _ _ _ (by intros; rfl) (by intros; simp [answerOnly]),
      State.serve_keeps (fun t : State => t.wm) _ _ _ (by intros; rfl) (by intros; simp [answerOnly]),
      State.serve_keeps (fun t : State => t.slu) _ _ _ (by intros; rfl) (by intros; simp [answerOnly]),
      State.serve_keeps (fun t : State => t.dsu) _ _ _ (by intros; rfl) (by intros; simp [answerOnly]),
      State.serve_keeps (fun t : State => t.nu) _ _ _ (by intros; rfl) (by intros; simp [answerOnly]),
      State.serve_keeps (fun t : State => t.fr) _ _ _ (by intros; rfl) (by intros; simp [answerOnly]),
      State.serve_keeps (fun t : State => t.freeCount) _ _ _ (by intros; rfl) (by intros; simp [answerOnly]),
      State.serve_keeps (fun t : State => t.pending) _ _ _ (by intros; rfl) (by intros; simp [answerOnly])⟩

theorem execPositionUpdateZT_frame (m : Mover) (s : State) :
    ∃ t, execPositionUpdateZT m s = .next t ∧ t.cs = s.cs ∧ t.pos = s.pos ∧ t.asu = s.asu ∧ t.msu = s.msu
      ∧ t.brc = s.brc ∧ t.wm = s.wm ∧ t.slu = s.slu ∧ t.dsu = s.dsu ∧ t.spu = s.spu ∧ t.nu = s.nu ∧ t.fr = s.fr
      ∧ t.freeCount = s.freeCount ∧ t.pending = s.pending := by
  simp only [execPositionUpdateZT, State.whileRunning, Host.Outcome.next.injEq, exists_eq_left']
  (repeat' split) <;> simp

theorem execBraceSwitchLoss_frame (s : State) :
    ∃ t, execBraceSwitchLoss s = .next t ∧ t.cs = s.cs ∧ t.pos = s.pos ∧ t.asu = s.asu ∧ t.msu = s.msu
      ∧ t.brc = s.brc ∧ t.wm = s.wm ∧ t.slu = s.slu ∧ t.dsu = s.dsu ∧ t.spu = s.spu ∧ t.nu = s.nu ∧ t.fr = s.fr
      ∧ t.freeCount = s.freeCount ∧ t.pending = s.pending := by
  simp only [execBraceSwitchLoss, State.whileRunning, Host.Outcome.next.injEq, exists_eq_left']
  (repeat' split) <;> simp

theorem execMove_frame (s : State) :
    ∃ t, execMove s = .next t ∧ t.cs = s.cs ∧ t.zt = s.zt ∧ t.brc = s.brc ∧ t.wm = s.wm ∧ t.slu = s.slu
      ∧ t.dsu = s.dsu ∧ t.nu = s.nu ∧ t.fr = s.fr ∧ t.freeCount = s.freeCount ∧ t.pending = s.pending := by
  simp only [execMove, State.whileRunning, Host.Outcome.next.injEq, exists_eq_left']
  split
  · simp
  · exact ⟨State.serve_keeps (fun t : State => t.cs) _ _ _ (by intros; rfl) (by intros; simp [answerOnly]),
      State.serve_keeps (fun t : State => t.zt) _ _ _ (by intros; rfl) (by intros; simp [answerOnly]),
      State.serve_keeps (fun t : State => t.brc) _ _ _ (by intros; rfl) (by intros; simp [answerOnly]),
      State.serve_keeps (fun t : State => t.wm) _ _ _ (by intros; rfl) (by intros; simp [answerOnly]),
      State.serve_keeps (fun t : State => t.slu) _ _ _ (by intros; rfl) (by intros; simp [answerOnly]),
      State.serve_keeps (fun t : State => t.dsu) _ _ _ (by intros; rfl) (by intros; simp [answerOnly]),
      State.serve_keeps (fun t : State => t.nu) _ _ _ (by intros; rfl) (by intros; simp [answerOnly]),
      State.serve_keeps (fun t : State => t.fr) _ _ _ (by intros; rfl) (by intros; simp [answerOnly]),
      State.serve_keeps (fun t : State => t.freeCount) _ _ _ (by intros; rfl) (by intros; simp [answerOnly]),
      State.serve_keeps (fun t : State => t.pending) _ _ _ (by intros; rfl) (by intros; simp [answerOnly])⟩

theorem execPositionUpdateASU_frame (m : Mover) (s : State) :
    ∃ t, execPositionUpdateASU m s = .next t ∧ t.cs = s.cs ∧ t.pos = s.pos ∧ t.zt = s.zt ∧ t.msu = s.msu
      ∧ t.brc = s.brc ∧ t.wm = s.wm ∧ t.slu = s.slu ∧ t.dsu = s.dsu ∧ t.spu = s.spu ∧ t.nu = s.nu ∧ t.fr = s.fr
      ∧ t.freeCount = s.freeCount ∧ t.pending = s.pending := by
  simp only [execPositionUpdateASU, State.whileRunning, Host.Outcome.next.injEq, exists_eq_left']
  (repeat' split) <;> simp

theorem execAuthorityConsumed_frame (m : Mover) (s : State) :
    ∃ t, execAuthorityConsumed m s = .next t ∧ t.cs = s.cs ∧ t.pos = s.pos ∧ t.brc = s.brc ∧ t.wm = s.wm
      ∧ t.slu = s.slu ∧ t.dsu = s.dsu ∧ t.spu = s.spu ∧ t.nu = s.nu ∧ t.fr = s.fr ∧ t.freeCount = s.freeCount
      ∧ t.pending = s.pending := by
  simp only [execAuthorityConsumed, State.whileRunning, Host.Outcome.next.injEq, exists_eq_left']
  (repeat' split) <;> simp

theorem execPositionUpdateMSU_frame (m : Mover) (s : State) :
    ∃ t, execPositionUpdateMSU m s = .next t ∧ t.cs = s.cs ∧ t.pos = s.pos ∧ t.brc = s.brc ∧ t.wm = s.wm
      ∧ t.slu = s.slu ∧ t.dsu = s.dsu ∧ t.spu = s.spu ∧ t.nu = s.nu ∧ t.fr = s.fr ∧ t.freeCount = s.freeCount
      ∧ t.pending = s.pending := by
  simp only [execPositionUpdateMSU, State.whileRunning, Host.Outcome.next.injEq, exists_eq_left']
  (repeat' split) <;> simp

theorem execImmediateCauseTaken_frame (n : Nat) (s : State) :
    ∃ t, execImmediateCauseTaken n s = .next t ∧ t.cs = s.cs ∧ t.pos = s.pos ∧ t.brc = s.brc ∧ t.wm = s.wm
      ∧ t.slu = s.slu ∧ t.dsu = s.dsu ∧ t.spu = s.spu ∧ t.nu = s.nu ∧ t.fr = s.fr ∧ t.freeCount = s.freeCount
      ∧ t.pending = s.pending := by
  simp only [execImmediateCauseTaken, State.whileRunning, Host.Outcome.next.injEq, exists_eq_left']
  (repeat' split) <;> simp

theorem execControlledCauseTaken_frame (n : Nat) (s : State) :
    ∃ t, execControlledCauseTaken n s = .next t ∧ t.cs = s.cs ∧ t.pos = s.pos ∧ t.brc = s.brc ∧ t.wm = s.wm
      ∧ t.slu = s.slu ∧ t.dsu = s.dsu ∧ t.spu = s.spu ∧ t.nu = s.nu ∧ t.fr = s.fr ∧ t.freeCount = s.freeCount
      ∧ t.pending = s.pending := by
  simp only [execControlledCauseTaken, State.whileRunning, Host.Outcome.next.injEq, exists_eq_left']
  (repeat' split) <;> simp

theorem execHoldCauseTaken_frame (n : Nat) (s : State) :
    ∃ t, execHoldCauseTaken n s = .next t ∧ t.cs = s.cs ∧ t.pos = s.pos ∧ t.brc = s.brc ∧ t.wm = s.wm
      ∧ t.slu = s.slu ∧ t.dsu = s.dsu ∧ t.spu = s.spu ∧ t.nu = s.nu ∧ t.fr = s.fr ∧ t.freeCount = s.freeCount
      ∧ t.pending = s.pending := by
  simp only [execHoldCauseTaken, State.whileRunning, Host.Outcome.next.injEq, exists_eq_left']
  (repeat' split) <;> simp

theorem execDeviceStateChangeMSU_frame (s : State) :
    ∃ t, execDeviceStateChangeMSU s = .next t ∧ t.cs = s.cs ∧ t.pos = s.pos ∧ t.zt = s.zt ∧ t.brc = s.brc
      ∧ t.wm = s.wm ∧ t.slu = s.slu ∧ t.dsu = s.dsu ∧ t.spu = s.spu ∧ t.nu = s.nu ∧ t.fr = s.fr
      ∧ t.freeCount = s.freeCount ∧ t.pending = s.pending := by
  simp only [execDeviceStateChangeMSU, State.whileRunning, Host.Outcome.next.injEq, exists_eq_left']
  (repeat' split) <;> simp

theorem execTripTimerExpiry_frame (m : Mover) (s : State) :
    ∃ t, execTripTimerExpiry m s = .next t ∧ t.cs = s.cs ∧ t.pos = s.pos ∧ t.zt = s.zt ∧ t.asu = s.asu
      ∧ t.brc = s.brc ∧ t.wm = s.wm ∧ t.slu = s.slu ∧ t.spu = s.spu ∧ t.nu = s.nu ∧ t.fr = s.fr
      ∧ t.freeCount = s.freeCount ∧ t.pending = s.pending := by
  simp only [execTripTimerExpiry, State.whileRunning, Host.Outcome.next.injEq, exists_eq_left']
  (repeat' split) <;> simp

theorem execReadbackTimerExpiry_frame (m : Mover) (s : State) :
    ∃ t, execReadbackTimerExpiry m s = .next t ∧ t.cs = s.cs ∧ t.pos = s.pos ∧ t.zt = s.zt ∧ t.asu = s.asu
      ∧ t.brc = s.brc ∧ t.wm = s.wm ∧ t.slu = s.slu ∧ t.spu = s.spu ∧ t.nu = s.nu ∧ t.fr = s.fr
      ∧ t.freeCount = s.freeCount ∧ t.pending = s.pending := by
  simp only [execReadbackTimerExpiry, State.whileRunning, Host.Outcome.next.injEq, exists_eq_left']
  (repeat' split) <;> simp

theorem execStop_frame (s : State) :
    ∃ t, execStop s = .next t ∧ t.cs = s.cs ∧ t.pos = s.pos ∧ t.brc = s.brc ∧ t.wm = s.wm ∧ t.slu = s.slu
      ∧ t.dsu = s.dsu ∧ t.nu = s.nu ∧ t.fr = s.fr ∧ t.freeCount = s.freeCount ∧ t.pending = s.pending := by
  simp only [execStop, State.whileRunning, Host.Outcome.next.injEq, exists_eq_left']
  split
  · simp
  · exact ⟨State.serve_keeps (fun t : State => t.cs) _ _ _ (by intros; rfl) (by intros; simp [answerOnly]),
      State.serve_keeps (fun t : State => t.pos) _ _ _ (by intros; rfl) (by intros; simp [answerOnly]),
      State.serve_keeps (fun t : State => t.brc) _ _ _ (by intros; rfl) (by intros; simp [answerOnly]),
      State.serve_keeps (fun t : State => t.wm) _ _ _ (by intros; rfl) (by intros; simp [answerOnly]),
      State.serve_keeps (fun t : State => t.slu) _ _ _ (by intros; rfl) (by intros; simp [answerOnly]),
      State.serve_keeps (fun t : State => t.dsu) _ _ _ (by intros; rfl) (by intros; simp [answerOnly]),
      State.serve_keeps (fun t : State => t.nu) _ _ _ (by intros; rfl) (by intros; simp [answerOnly]),
      State.serve_keeps (fun t : State => t.fr) _ _ _ (by intros; rfl) (by intros; simp [answerOnly]),
      State.serve_keeps (fun t : State => t.freeCount) _ _ _ (by intros; rfl) (by intros; simp [answerOnly]),
      State.serve_keeps (fun t : State => t.pending) _ _ _ (by intros; rfl) (by intros; simp [answerOnly])⟩

theorem execClear_frame (s : State) :
    ∃ t, execClear s = .next t ∧ t.cs = s.cs ∧ t.pos = s.pos ∧ t.brc = s.brc ∧ t.wm = s.wm ∧ t.slu = s.slu
      ∧ t.dsu = s.dsu ∧ t.nu = s.nu ∧ t.fr = s.fr ∧ t.freeCount = s.freeCount ∧ t.pending = s.pending := by
  simp only [execClear, State.whileRunning, Host.Outcome.next.injEq, exists_eq_left']
  split
  · simp
  · exact ⟨State.serve_keeps (fun t : State => t.cs) _ _ _ (by intros; rfl) (by intros; simp [answerOnly]),
      State.serve_keeps (fun t : State => t.pos) _ _ _ (by intros; rfl) (by intros; simp [answerOnly]),
      State.serve_keeps (fun t : State => t.brc) _ _ _ (by intros; rfl) (by intros; simp [answerOnly]),
      State.serve_keeps (fun t : State => t.wm) _ _ _ (by intros; rfl) (by intros; simp [answerOnly]),
      State.serve_keeps (fun t : State => t.slu) _ _ _ (by intros; rfl) (by intros; simp [answerOnly]),
      State.serve_keeps (fun t : State => t.dsu) _ _ _ (by intros; rfl) (by intros; simp [answerOnly]),
      State.serve_keeps (fun t : State => t.nu) _ _ _ (by intros; rfl) (by intros; simp [answerOnly]),
      State.serve_keeps (fun t : State => t.fr) _ _ _ (by intros; rfl) (by intros; simp [answerOnly]),
      State.serve_keeps (fun t : State => t.freeCount) _ _ _ (by intros; rfl) (by intros; simp [answerOnly]),
      State.serve_keeps (fun t : State => t.pending) _ _ _ (by intros; rfl) (by intros; simp [answerOnly])⟩

theorem execReadbackContactChange_frame (m : Mover) (closed : Bool) (s : State) :
    ∃ t, execReadbackContactChange m closed s = .next t ∧ t.cs = s.cs ∧ t.pos = s.pos ∧ t.zt = s.zt ∧ t.asu = s.asu
      ∧ t.brc = s.brc ∧ t.wm = s.wm ∧ t.slu = s.slu ∧ t.spu = s.spu ∧ t.nu = s.nu ∧ t.fr = s.fr
      ∧ t.freeCount = s.freeCount ∧ t.pending = s.pending := by
  simp only [execReadbackContactChange, State.whileRunning, Host.Outcome.next.injEq, exists_eq_left']
  (repeat' split) <;> simp

theorem execStepTimerExpiry_frame (s : State) :
    ∃ t, execStepTimerExpiry s = .next t ∧ t.cs = s.cs ∧ t.pos = s.pos ∧ t.zt = s.zt ∧ t.asu = s.asu ∧ t.brc = s.brc
      ∧ t.wm = s.wm ∧ t.slu = s.slu ∧ t.spu = s.spu ∧ t.nu = s.nu ∧ t.fr = s.fr ∧ t.freeCount = s.freeCount
      ∧ t.pending = s.pending := by
  simp only [execStepTimerExpiry, State.whileRunning, Host.Outcome.next.injEq, exists_eq_left']
  (repeat' split) <;> simp

theorem execArm_frame (s : State) :
    ∃ t, execArm s = .next t ∧ t.cs = s.cs ∧ t.pos = s.pos ∧ t.zt = s.zt ∧ t.asu = s.asu ∧ t.brc = s.brc
      ∧ t.wm = s.wm ∧ t.slu = s.slu ∧ t.nu = s.nu ∧ t.fr = s.fr ∧ t.freeCount = s.freeCount
      ∧ t.pending = s.pending := by
  simp only [execArm, State.whileRunning, Host.Outcome.next.injEq, exists_eq_left']
  split
  · simp
  · exact ⟨State.serve_keeps (fun t : State => t.cs) _ _ _ (by intros; rfl) (by intros; simp [answerOnly]),
      State.serve_keeps (fun t : State => t.pos) _ _ _ (by intros; rfl) (by intros; simp [answerOnly]),
      State.serve_keeps (fun t : State => t.zt) _ _ _ (by intros; rfl) (by intros; simp [answerOnly]),
      State.serve_keeps (fun t : State => t.asu) _ _ _ (by intros; rfl) (by intros; simp [answerOnly]),
      State.serve_keeps (fun t : State => t.brc) _ _ _ (by intros; rfl) (by intros; simp [answerOnly]),
      State.serve_keeps (fun t : State => t.wm) _ _ _ (by intros; rfl) (by intros; simp [answerOnly]),
      State.serve_keeps (fun t : State => t.slu) _ _ _ (by intros; rfl) (by intros; simp [answerOnly]),
      State.serve_keeps (fun t : State => t.nu) _ _ _ (by intros; rfl) (by intros; simp [answerOnly]),
      State.serve_keeps (fun t : State => t.fr) _ _ _ (by intros; rfl) (by intros; simp [answerOnly]),
      State.serve_keeps (fun t : State => t.freeCount) _ _ _ (by intros; rfl) (by intros; simp [answerOnly]),
      State.serve_keeps (fun t : State => t.pending) _ _ _ (by intros; rfl) (by intros; simp [answerOnly])⟩

theorem execValidityChange_frame (a : Axis) (s : State) :
    ∃ t, execValidityChange a s = .next t ∧ t.cs = s.cs ∧ t.pos = s.pos ∧ t.zt = s.zt ∧ t.asu = s.asu
      ∧ t.brc = s.brc ∧ t.wm = s.wm ∧ t.slu = s.slu ∧ t.spu = s.spu ∧ t.nu = s.nu ∧ t.fr = s.fr
      ∧ t.freeCount = s.freeCount ∧ t.pending = s.pending := by
  simp only [execValidityChange, State.whileRunning, Host.Outcome.next.injEq, exists_eq_left']
  (repeat' split) <;> simp

theorem execStandby_frame (s : State) :
    ∃ t, execStandby s = .next t ∧ t.cs = s.cs ∧ t.pos = s.pos ∧ t.zt = s.zt ∧ t.asu = s.asu ∧ t.brc = s.brc
      ∧ t.wm = s.wm ∧ t.slu = s.slu ∧ t.nu = s.nu ∧ t.fr = s.fr ∧ t.freeCount = s.freeCount
      ∧ t.pending = s.pending := by
  simp only [execStandby, State.whileRunning, Host.Outcome.next.injEq, exists_eq_left']
  split
  · simp
  · exact ⟨State.serve_keeps (fun t : State => t.cs) _ _ _ (by intros; rfl) (by intros; simp [answerOnly]),
      State.serve_keeps (fun t : State => t.pos) _ _ _ (by intros; rfl) (by intros; simp [answerOnly]),
      State.serve_keeps (fun t : State => t.zt) _ _ _ (by intros; rfl) (by intros; simp [answerOnly]),
      State.serve_keeps (fun t : State => t.asu) _ _ _ (by intros; rfl) (by intros; simp [answerOnly]),
      State.serve_keeps (fun t : State => t.brc) _ _ _ (by intros; rfl) (by intros; simp [answerOnly]),
      State.serve_keeps (fun t : State => t.wm) _ _ _ (by intros; rfl) (by intros; simp [answerOnly]),
      State.serve_keeps (fun t : State => t.slu) _ _ _ (by intros; rfl) (by intros; simp [answerOnly]),
      State.serve_keeps (fun t : State => t.nu) _ _ _ (by intros; rfl) (by intros; simp [answerOnly]),
      State.serve_keeps (fun t : State => t.fr) _ _ _ (by intros; rfl) (by intros; simp [answerOnly]),
      State.serve_keeps (fun t : State => t.freeCount) _ _ _ (by intros; rfl) (by intros; simp [answerOnly]),
      State.serve_keeps (fun t : State => t.pending) _ _ _ (by intros; rfl) (by intros; simp [answerOnly])⟩

theorem execMoverStateChange_frame (s : State) :
    ∃ t, execMoverStateChange s = .next t ∧ t.cs = s.cs ∧ t.pos = s.pos ∧ t.zt = s.zt ∧ t.asu = s.asu
      ∧ t.msu = s.msu ∧ t.brc = s.brc ∧ t.wm = s.wm ∧ t.slu = s.slu ∧ t.spu = s.spu ∧ t.nu = s.nu ∧ t.fr = s.fr
      ∧ t.freeCount = s.freeCount ∧ t.pending = s.pending := by
  simp only [execMoverStateChange, State.whileRunning, Host.Outcome.next.injEq, exists_eq_left']
  (repeat' split) <;> simp

theorem execPermitsOff_frame (s : State) :
    ∃ t, execPermitsOff s = .next t ∧ t.cs = s.cs ∧ t.pos = s.pos ∧ t.zt = s.zt ∧ t.asu = s.asu ∧ t.msu = s.msu
      ∧ t.brc = s.brc ∧ t.wm = s.wm ∧ t.slu = s.slu ∧ t.nu = s.nu ∧ t.fr = s.fr ∧ t.freeCount = s.freeCount
      ∧ t.pending = s.pending := by
  simp only [execPermitsOff, State.whileRunning, Host.Outcome.next.injEq, exists_eq_left']
  split
  · simp
  · exact ⟨State.serve_keeps (fun t : State => t.cs) _ _ _ (by intros; rfl) (by intros; simp [answerOnly]),
      State.serve_keeps (fun t : State => t.pos) _ _ _ (by intros; rfl) (by intros; simp [answerOnly]),
      State.serve_keeps (fun t : State => t.zt) _ _ _ (by intros; rfl) (by intros; simp [answerOnly]),
      State.serve_keeps (fun t : State => t.asu) _ _ _ (by intros; rfl) (by intros; simp [answerOnly]),
      State.serve_keeps (fun t : State => t.msu) _ _ _ (by intros; rfl) (by intros; simp [answerOnly]),
      State.serve_keeps (fun t : State => t.brc) _ _ _ (by intros; rfl) (by intros; simp [answerOnly]),
      State.serve_keeps (fun t : State => t.wm) _ _ _ (by intros; rfl) (by intros; simp [answerOnly]),
      State.serve_keeps (fun t : State => t.slu) _ _ _ (by intros; rfl) (by intros; simp [answerOnly]),
      State.serve_keeps (fun t : State => t.nu) _ _ _ (by intros; rfl) (by intros; simp [answerOnly]),
      State.serve_keeps (fun t : State => t.fr) _ _ _ (by intros; rfl) (by intros; simp [answerOnly]),
      State.serve_keeps (fun t : State => t.freeCount) _ _ _ (by intros; rfl) (by intros; simp [answerOnly]),
      State.serve_keeps (fun t : State => t.pending) _ _ _ (by intros; rfl) (by intros; simp [answerOnly])⟩

theorem execPermitsOn_frame (s : State) :
    ∃ t, execPermitsOn s = .next t ∧ t.cs = s.cs ∧ t.pos = s.pos ∧ t.zt = s.zt ∧ t.asu = s.asu ∧ t.msu = s.msu
      ∧ t.brc = s.brc ∧ t.wm = s.wm ∧ t.slu = s.slu ∧ t.nu = s.nu ∧ t.fr = s.fr ∧ t.freeCount = s.freeCount
      ∧ t.pending = s.pending := by
  simp only [execPermitsOn, State.whileRunning, Host.Outcome.next.injEq, exists_eq_left']
  split
  · simp
  · exact ⟨State.serve_keeps (fun t : State => t.cs) _ _ _ (by intros; rfl) (by intros; simp [answerOnly]),
      State.serve_keeps (fun t : State => t.pos) _ _ _ (by intros; rfl) (by intros; simp [answerOnly]),
      State.serve_keeps (fun t : State => t.zt) _ _ _ (by intros; rfl) (by intros; simp [answerOnly]),
      State.serve_keeps (fun t : State => t.asu) _ _ _ (by intros; rfl) (by intros; simp [answerOnly]),
      State.serve_keeps (fun t : State => t.msu) _ _ _ (by intros; rfl) (by intros; simp [answerOnly]),
      State.serve_keeps (fun t : State => t.brc) _ _ _ (by intros; rfl) (by intros; simp [answerOnly]),
      State.serve_keeps (fun t : State => t.wm) _ _ _ (by intros; rfl) (by intros; simp [answerOnly]),
      State.serve_keeps (fun t : State => t.slu) _ _ _ (by intros; rfl) (by intros; simp [answerOnly]),
      State.serve_keeps (fun t : State => t.nu) _ _ _ (by intros; rfl) (by intros; simp [answerOnly]),
      State.serve_keeps (fun t : State => t.fr) _ _ _ (by intros; rfl) (by intros; simp [answerOnly]),
      State.serve_keeps (fun t : State => t.freeCount) _ _ _ (by intros; rfl) (by intros; simp [answerOnly]),
      State.serve_keeps (fun t : State => t.pending) _ _ _ (by intros; rfl) (by intros; simp [answerOnly])⟩

theorem execReset_frame (s : State) :
    ∃ t, execReset s = .next t ∧ t.cs = s.cs ∧ t.pos = s.pos ∧ t.zt = s.zt ∧ t.asu = s.asu ∧ t.msu = s.msu
      ∧ t.brc = s.brc ∧ t.wm = s.wm ∧ t.slu = s.slu ∧ t.dsu = s.dsu ∧ t.nu = s.nu ∧ t.fr = s.fr ∧ t.hand = s.hand
      ∧ t.freeCount = s.freeCount ∧ t.pending = s.pending := by
  simp only [execReset, State.whileRunning, Host.Outcome.next.injEq, exists_eq_left']
  split
  · simp
  · exact ⟨State.serve_keeps (fun t : State => t.cs) _ _ _ (by intros; rfl) (by intros; simp [answerOnly]),
      State.serve_keeps (fun t : State => t.pos) _ _ _ (by intros; rfl) (by intros; simp [answerOnly]),
      State.serve_keeps (fun t : State => t.zt) _ _ _ (by intros; rfl) (by intros; simp [answerOnly]),
      State.serve_keeps (fun t : State => t.asu) _ _ _ (by intros; rfl) (by intros; simp [answerOnly]),
      State.serve_keeps (fun t : State => t.msu) _ _ _ (by intros; rfl) (by intros; simp [answerOnly]),
      State.serve_keeps (fun t : State => t.brc) _ _ _ (by intros; rfl) (by intros; simp [answerOnly]),
      State.serve_keeps (fun t : State => t.wm) _ _ _ (by intros; rfl) (by intros; simp [answerOnly]),
      State.serve_keeps (fun t : State => t.slu) _ _ _ (by intros; rfl) (by intros; simp [answerOnly]),
      State.serve_keeps (fun t : State => t.dsu) _ _ _ (by intros; rfl) (by intros; simp [answerOnly]),
      State.serve_keeps (fun t : State => t.nu) _ _ _ (by intros; rfl) (by intros; simp [answerOnly]),
      State.serve_keeps (fun t : State => t.fr) _ _ _ (by intros; rfl) (by intros; simp [answerOnly]),
      State.serve_keeps (fun t : State => t.hand) _ _ _ (by intros; rfl) (by intros; simp [answerOnly]),
      State.serve_keeps (fun t : State => t.freeCount) _ _ _ (by intros; rfl) (by intros; simp [answerOnly]),
      State.serve_keeps (fun t : State => t.pending) _ _ _ (by intros; rfl) (by intros; simp [answerOnly])⟩

theorem execLoopChannelChange_frame (c : LoopChannel) (closed : Bool) (s : State) :
    ∃ t, execLoopChannelChange c closed s = .next t ∧ t.cs = s.cs ∧ t.pos = s.pos ∧ t.zt = s.zt ∧ t.asu = s.asu
      ∧ t.msu = s.msu ∧ t.brc = s.brc ∧ t.wm = s.wm ∧ t.dsu = s.dsu ∧ t.spu = s.spu ∧ t.nu = s.nu ∧ t.fr = s.fr
      ∧ t.hand = s.hand ∧ t.freeCount = s.freeCount ∧ t.pending = s.pending := by
  simp only [execLoopChannelChange, State.whileRunning, Host.Outcome.next.injEq, exists_eq_left']
  (repeat' split) <;> simp

theorem execLoopFilterExpiry_frame (c : LoopChannel) (s : State) :
    ∃ t, execLoopFilterExpiry c s = .next t ∧ t.cs = s.cs ∧ t.pos = s.pos ∧ t.zt = s.zt ∧ t.asu = s.asu
      ∧ t.wm = s.wm ∧ t.spu = s.spu ∧ t.nu = s.nu ∧ t.fr = s.fr ∧ t.freeCount = s.freeCount
      ∧ t.pending = s.pending := by
  simp only [execLoopFilterExpiry, State.whileRunning, Host.Outcome.next.injEq, exists_eq_left']
  (repeat' split) <;> simp

theorem execDiscrepancyTimerExpiry_frame (s : State) :
    ∃ t, execDiscrepancyTimerExpiry s = .next t ∧ t.cs = s.cs ∧ t.pos = s.pos ∧ t.zt = s.zt ∧ t.asu = s.asu
      ∧ t.wm = s.wm ∧ t.spu = s.spu ∧ t.nu = s.nu ∧ t.fr = s.fr ∧ t.freeCount = s.freeCount
      ∧ t.pending = s.pending := by
  simp only [execDiscrepancyTimerExpiry, State.whileRunning, Host.Outcome.next.injEq, exists_eq_left']
  (repeat' split) <;> simp

theorem execDriveTripInputChange_frame (m : Mover) (active : Bool) (s : State) :
    ∃ t, execDriveTripInputChange m active s = .next t ∧ t.cs = s.cs ∧ t.pos = s.pos ∧ t.zt = s.zt ∧ t.asu = s.asu
      ∧ t.msu = s.msu ∧ t.brc = s.brc ∧ t.wm = s.wm ∧ t.dsu = s.dsu ∧ t.spu = s.spu ∧ t.nu = s.nu ∧ t.fr = s.fr
      ∧ t.hand = s.hand ∧ t.freeCount = s.freeCount ∧ t.pending = s.pending := by
  simp only [execDriveTripInputChange, State.whileRunning, Host.Outcome.next.injEq, exists_eq_left']
  (repeat' split) <;> simp

theorem execDriveTripFilterExpiry_frame (m : Mover) (s : State) :
    ∃ t, execDriveTripFilterExpiry m s = .next t ∧ t.cs = s.cs ∧ t.pos = s.pos ∧ t.zt = s.zt ∧ t.asu = s.asu
      ∧ t.msu = s.msu ∧ t.brc = s.brc ∧ t.wm = s.wm ∧ t.dsu = s.dsu ∧ t.spu = s.spu ∧ t.nu = s.nu ∧ t.fr = s.fr
      ∧ t.freeCount = s.freeCount ∧ t.pending = s.pending := by
  simp only [execDriveTripFilterExpiry, State.whileRunning, Host.Outcome.next.injEq, exists_eq_left']
  (repeat' split) <;> simp

theorem execResetLineAssertion_frame (s : State) :
    ∃ t, execResetLineAssertion s = .next t ∧ t.cs = s.cs ∧ t.pos = s.pos ∧ t.zt = s.zt ∧ t.asu = s.asu
      ∧ t.msu = s.msu ∧ t.brc = s.brc ∧ t.wm = s.wm ∧ t.dsu = s.dsu ∧ t.spu = s.spu ∧ t.nu = s.nu ∧ t.fr = s.fr
      ∧ t.hand = s.hand ∧ t.freeCount = s.freeCount ∧ t.pending = s.pending := by
  simp only [execResetLineAssertion, State.whileRunning, Host.Outcome.next.injEq, exists_eq_left']
  (repeat' split) <;> simp

theorem execDemandConditionTest_frame (s : State) (src : DemandSource) :
    ∃ t, execDemandConditionTest s src = .next t ∧ t.cs = s.cs ∧ t.pos = s.pos ∧ t.zt = s.zt ∧ t.asu = s.asu
      ∧ t.msu = s.msu ∧ t.wm = s.wm ∧ t.slu = s.slu ∧ t.dsu = s.dsu ∧ t.spu = s.spu ∧ t.nu = s.nu ∧ t.fr = s.fr
      ∧ t.freeCount = s.freeCount ∧ t.pending = s.pending := by
  simp only [execDemandConditionTest, State.whileRunning, Host.Outcome.next.injEq, exists_eq_left']
  (repeat' split) <;> simp

theorem execBraceEngage_frame (s : State) :
    ∃ t, execBraceEngage s = .next t ∧ t.cs = s.cs ∧ t.pos = s.pos ∧ t.zt = s.zt ∧ t.asu = s.asu ∧ t.msu = s.msu
      ∧ t.wm = s.wm ∧ t.slu = s.slu ∧ t.dsu = s.dsu ∧ t.nu = s.nu ∧ t.fr = s.fr ∧ t.freeCount = s.freeCount
      ∧ t.pending = s.pending := by
  simp only [execBraceEngage, State.whileRunning, Host.Outcome.next.injEq, exists_eq_left']
  split
  · simp
  · exact ⟨State.serve_keeps (fun t : State => t.cs) _ _ _ (by intros; rfl) (by intros; simp [answerOnly]),
      State.serve_keeps (fun t : State => t.pos) _ _ _ (by intros; rfl) (by intros; simp [answerOnly]),
      State.serve_keeps (fun t : State => t.zt) _ _ _ (by intros; rfl) (by intros; simp [answerOnly]),
      State.serve_keeps (fun t : State => t.asu) _ _ _ (by intros; rfl) (by intros; simp [answerOnly]),
      State.serve_keeps (fun t : State => t.msu) _ _ _ (by intros; rfl) (by intros; simp [answerOnly]),
      State.serve_keeps (fun t : State => t.wm) _ _ _ (by intros; rfl) (by intros; simp [answerOnly]),
      State.serve_keeps (fun t : State => t.slu) _ _ _ (by intros; rfl) (by intros; simp [answerOnly]),
      State.serve_keeps (fun t : State => t.dsu) _ _ _ (by intros; rfl) (by intros; simp [answerOnly]),
      State.serve_keeps (fun t : State => t.nu) _ _ _ (by intros; rfl) (by intros; simp [answerOnly]),
      State.serve_keeps (fun t : State => t.fr) _ _ _ (by intros; rfl) (by intros; simp [answerOnly]),
      State.serve_keeps (fun t : State => t.freeCount) _ _ _ (by intros; rfl) (by intros; simp [answerOnly]),
      State.serve_keeps (fun t : State => t.pending) _ _ _ (by intros; rfl) (by intros; simp [answerOnly])⟩

theorem execBraceWithdraw_frame (s : State) :
    ∃ t, execBraceWithdraw s = .next t ∧ t.cs = s.cs ∧ t.pos = s.pos ∧ t.zt = s.zt ∧ t.asu = s.asu ∧ t.msu = s.msu
      ∧ t.wm = s.wm ∧ t.slu = s.slu ∧ t.dsu = s.dsu ∧ t.nu = s.nu ∧ t.fr = s.fr ∧ t.freeCount = s.freeCount
      ∧ t.pending = s.pending := by
  simp only [execBraceWithdraw, State.whileRunning, Host.Outcome.next.injEq, exists_eq_left']
  split
  · simp
  · exact ⟨State.serve_keeps (fun t : State => t.cs) _ _ _ (by intros; rfl) (by intros; simp [answerOnly]),
      State.serve_keeps (fun t : State => t.pos) _ _ _ (by intros; rfl) (by intros; simp [answerOnly]),
      State.serve_keeps (fun t : State => t.zt) _ _ _ (by intros; rfl) (by intros; simp [answerOnly]),
      State.serve_keeps (fun t : State => t.asu) _ _ _ (by intros; rfl) (by intros; simp [answerOnly]),
      State.serve_keeps (fun t : State => t.msu) _ _ _ (by intros; rfl) (by intros; simp [answerOnly]),
      State.serve_keeps (fun t : State => t.wm) _ _ _ (by intros; rfl) (by intros; simp [answerOnly]),
      State.serve_keeps (fun t : State => t.slu) _ _ _ (by intros; rfl) (by intros; simp [answerOnly]),
      State.serve_keeps (fun t : State => t.dsu) _ _ _ (by intros; rfl) (by intros; simp [answerOnly]),
      State.serve_keeps (fun t : State => t.nu) _ _ _ (by intros; rfl) (by intros; simp [answerOnly]),
      State.serve_keeps (fun t : State => t.fr) _ _ _ (by intros; rfl) (by intros; simp [answerOnly]),
      State.serve_keeps (fun t : State => t.freeCount) _ _ _ (by intros; rfl) (by intros; simp [answerOnly]),
      State.serve_keeps (fun t : State => t.pending) _ _ _ (by intros; rfl) (by intros; simp [answerOnly])⟩

theorem execBraceClear_frame (s : State) :
    ∃ t, execBraceClear s = .next t ∧ t.cs = s.cs ∧ t.pos = s.pos ∧ t.zt = s.zt ∧ t.asu = s.asu ∧ t.msu = s.msu
      ∧ t.wm = s.wm ∧ t.slu = s.slu ∧ t.dsu = s.dsu ∧ t.nu = s.nu ∧ t.fr = s.fr ∧ t.freeCount = s.freeCount
      ∧ t.pending = s.pending := by
  simp only [execBraceClear, State.whileRunning, Host.Outcome.next.injEq, exists_eq_left']
  split
  · simp
  · exact ⟨State.serve_keeps (fun t : State => t.cs) _ _ _ (by intros; rfl) (by intros; simp [answerOnly]),
      State.serve_keeps (fun t : State => t.pos) _ _ _ (by intros; rfl) (by intros; simp [answerOnly]),
      State.serve_keeps (fun t : State => t.zt) _ _ _ (by intros; rfl) (by intros; simp [answerOnly]),
      State.serve_keeps (fun t : State => t.asu) _ _ _ (by intros; rfl) (by intros; simp [answerOnly]),
      State.serve_keeps (fun t : State => t.msu) _ _ _ (by intros; rfl) (by intros; simp [answerOnly]),
      State.serve_keeps (fun t : State => t.wm) _ _ _ (by intros; rfl) (by intros; simp [answerOnly]),
      State.serve_keeps (fun t : State => t.slu) _ _ _ (by intros; rfl) (by intros; simp [answerOnly]),
      State.serve_keeps (fun t : State => t.dsu) _ _ _ (by intros; rfl) (by intros; simp [answerOnly]),
      State.serve_keeps (fun t : State => t.nu) _ _ _ (by intros; rfl) (by intros; simp [answerOnly]),
      State.serve_keeps (fun t : State => t.fr) _ _ _ (by intros; rfl) (by intros; simp [answerOnly]),
      State.serve_keeps (fun t : State => t.freeCount) _ _ _ (by intros; rfl) (by intros; simp [answerOnly]),
      State.serve_keeps (fun t : State => t.pending) _ _ _ (by intros; rfl) (by intros; simp [answerOnly])⟩

theorem execBraceSwitchChange_frame (b : Brace) (engaged withdrawn : Bool) (s : State) :
    ∃ t, execBraceSwitchChange b engaged withdrawn s = .next t ∧ t.cs = s.cs ∧ t.pos = s.pos ∧ t.zt = s.zt
      ∧ t.asu = s.asu ∧ t.msu = s.msu ∧ t.wm = s.wm ∧ t.slu = s.slu ∧ t.dsu = s.dsu ∧ t.spu = s.spu ∧ t.nu = s.nu
      ∧ t.fr = s.fr ∧ t.freeCount = s.freeCount ∧ t.pending = s.pending := by
  simp only [execBraceSwitchChange, State.whileRunning, Host.Outcome.next.injEq, exists_eq_left']
  (repeat' split) <;> simp

theorem execOperationTimerExpiry_frame (b : Brace) (s : State) :
    ∃ t, execOperationTimerExpiry b s = .next t ∧ t.cs = s.cs ∧ t.pos = s.pos ∧ t.zt = s.zt ∧ t.asu = s.asu
      ∧ t.msu = s.msu ∧ t.wm = s.wm ∧ t.slu = s.slu ∧ t.dsu = s.dsu ∧ t.spu = s.spu ∧ t.nu = s.nu ∧ t.fr = s.fr
      ∧ t.freeCount = s.freeCount ∧ t.pending = s.pending := by
  simp only [execOperationTimerExpiry, State.whileRunning, Host.Outcome.next.injEq, exists_eq_left']
  (repeat' split) <;> simp

theorem execCutShort_frame (s : State) :
    ∃ t, execCutShort s = .next t ∧ t.cs = s.cs ∧ t.pos = s.pos ∧ t.zt = s.zt ∧ t.asu = s.asu ∧ t.msu = s.msu
      ∧ t.wm = s.wm ∧ t.slu = s.slu ∧ t.dsu = s.dsu ∧ t.spu = s.spu ∧ t.nu = s.nu ∧ t.fr = s.fr
      ∧ t.freeCount = s.freeCount ∧ t.pending = s.pending := by
  simp only [execCutShort, State.whileRunning, Host.Outcome.next.injEq, exists_eq_left']
  (repeat' split) <;> simp

theorem execAnemometerPulse_frame (which : Anemometer) (s : State) :
    ∃ t, execAnemometerPulse which s = .next t ∧ t.cs = s.cs ∧ t.pos = s.pos ∧ t.zt = s.zt ∧ t.asu = s.asu
      ∧ t.msu = s.msu ∧ t.brc = s.brc ∧ t.slu = s.slu ∧ t.dsu = s.dsu ∧ t.spu = s.spu ∧ t.nu = s.nu ∧ t.fr = s.fr
      ∧ t.hand = s.hand ∧ t.freeCount = s.freeCount ∧ t.pending = s.pending := by
  simp only [execAnemometerPulse, State.whileRunning, Host.Outcome.next.injEq, exists_eq_left']
  (repeat' split) <;> simp

theorem execIntervalClosure_frame (s : State) :
    ∃ t, execIntervalClosure s = .next t ∧ t.cs = s.cs ∧ t.pos = s.pos ∧ t.zt = s.zt ∧ t.asu = s.asu ∧ t.msu = s.msu
      ∧ t.brc = s.brc ∧ t.slu = s.slu ∧ t.dsu = s.dsu ∧ t.spu = s.spu ∧ t.nu = s.nu ∧ t.fr = s.fr
      ∧ t.freeCount = s.freeCount ∧ t.pending = s.pending := by
  simp only [execIntervalClosure, State.whileRunning, Host.Outcome.next.injEq, exists_eq_left']
  (repeat' split) <;> simp

theorem execStationPortByte_frame (p : Port) (b : Byte) (framingError : Bool) (s : State) :
    ∃ t, execStationPortByte p b framingError s = .next t ∧ t.cs = s.cs ∧ t.pos = s.pos ∧ t.zt = s.zt
      ∧ t.asu = s.asu ∧ t.msu = s.msu ∧ t.brc = s.brc ∧ t.wm = s.wm ∧ t.slu = s.slu ∧ t.dsu = s.dsu ∧ t.nu = s.nu
      ∧ t.fr = s.fr ∧ t.hand = s.hand ∧ t.freeCount = s.freeCount ∧ t.pending = s.pending := by
  simp only [execStationPortByte, State.whileRunning, Host.Outcome.next.injEq, exists_eq_left']
  (repeat' split) <;> simp

theorem execFrameTimerExpiry_frame (p : Port) (s : State) :
    ∃ t, execFrameTimerExpiry p s = .next t ∧ t.cs = s.cs ∧ t.pos = s.pos ∧ t.zt = s.zt ∧ t.asu = s.asu
      ∧ t.msu = s.msu ∧ t.brc = s.brc ∧ t.wm = s.wm ∧ t.slu = s.slu ∧ t.dsu = s.dsu ∧ t.nu = s.nu ∧ t.fr = s.fr
      ∧ t.hand = s.hand ∧ t.freeCount = s.freeCount ∧ t.pending = s.pending := by
  simp only [execFrameTimerExpiry, State.whileRunning, Host.Outcome.next.injEq, exists_eq_left']
  (repeat' split) <;> simp

theorem execCompleteFrame_frame (p : Port) (s : State) :
    ∃ t, execCompleteFrame p s = .next t ∧ t.cs = s.cs ∧ t.pos = s.pos ∧ t.zt = s.zt ∧ t.asu = s.asu ∧ t.msu = s.msu
      ∧ t.brc = s.brc ∧ t.wm = s.wm ∧ t.slu = s.slu ∧ t.dsu = s.dsu ∧ t.nu = s.nu ∧ t.fr = s.fr ∧ t.hand = s.hand
      ∧ t.freeCount = s.freeCount ∧ t.pending = s.pending := by
  simp only [execCompleteFrame, State.whileRunning, Host.Outcome.next.injEq, exists_eq_left']
  (repeat' split) <;> simp

theorem execReplyFrameSent_frame (p : Port) (s : State) :
    ∃ t, execReplyFrameSent p s = .next t ∧ t.cs = s.cs ∧ t.pos = s.pos ∧ t.zt = s.zt ∧ t.asu = s.asu
      ∧ t.msu = s.msu ∧ t.brc = s.brc ∧ t.wm = s.wm ∧ t.slu = s.slu ∧ t.dsu = s.dsu ∧ t.nu = s.nu ∧ t.fr = s.fr
      ∧ t.hand = s.hand ∧ t.freeCount = s.freeCount ∧ t.pending = s.pending := by
  simp only [execReplyFrameSent, State.whileRunning, Host.Outcome.next.injEq, exists_eq_left']
  (repeat' split) <;> simp

theorem execSilenceTimerExpiry_frame (p : Port) (s : State) :
    ∃ t, execSilenceTimerExpiry p s = .next t ∧ t.cs = s.cs ∧ t.pos = s.pos ∧ t.zt = s.zt ∧ t.asu = s.asu
      ∧ t.msu = s.msu ∧ t.brc = s.brc ∧ t.wm = s.wm ∧ t.slu = s.slu ∧ t.dsu = s.dsu ∧ t.nu = s.nu ∧ t.fr = s.fr
      ∧ t.freeCount = s.freeCount ∧ t.pending = s.pending := by
  simp only [execSilenceTimerExpiry, State.whileRunning, Host.Outcome.next.injEq, exists_eq_left']
  (repeat' split) <;> simp

theorem execUnknownRequestCode_frame (s : State) :
    ∃ t, execUnknownRequestCode s = .next t ∧ t.cs = s.cs ∧ t.pos = s.pos ∧ t.zt = s.zt ∧ t.asu = s.asu
      ∧ t.msu = s.msu ∧ t.brc = s.brc ∧ t.wm = s.wm ∧ t.slu = s.slu ∧ t.dsu = s.dsu ∧ t.nu = s.nu ∧ t.fr = s.fr
      ∧ t.hand = s.hand ∧ t.freeCount = s.freeCount ∧ t.pending = s.pending := by
  simp only [execUnknownRequestCode, State.whileRunning, Host.Outcome.next.injEq, exists_eq_left']
  split
  · simp
  · exact ⟨State.serve_keeps (fun t : State => t.cs) _ _ _ (by intros; rfl) (by intros; simp [answerOnly]),
      State.serve_keeps (fun t : State => t.pos) _ _ _ (by intros; rfl) (by intros; simp [answerOnly]),
      State.serve_keeps (fun t : State => t.zt) _ _ _ (by intros; rfl) (by intros; simp [answerOnly]),
      State.serve_keeps (fun t : State => t.asu) _ _ _ (by intros; rfl) (by intros; simp [answerOnly]),
      State.serve_keeps (fun t : State => t.msu) _ _ _ (by intros; rfl) (by intros; simp [answerOnly]),
      State.serve_keeps (fun t : State => t.brc) _ _ _ (by intros; rfl) (by intros; simp [answerOnly]),
      State.serve_keeps (fun t : State => t.wm) _ _ _ (by intros; rfl) (by intros; simp [answerOnly]),
      State.serve_keeps (fun t : State => t.slu) _ _ _ (by intros; rfl) (by intros; simp [answerOnly]),
      State.serve_keeps (fun t : State => t.dsu) _ _ _ (by intros; rfl) (by intros; simp [answerOnly]),
      State.serve_keeps (fun t : State => t.nu) _ _ _ (by intros; rfl) (by intros; simp [answerOnly]),
      State.serve_keeps (fun t : State => t.fr) _ _ _ (by intros; rfl) (by intros; simp [answerOnly]),
      State.serve_keeps (fun t : State => t.hand) _ _ _ (by intros; rfl) (by intros; simp [answerOnly]),
      State.serve_keeps (fun t : State => t.freeCount) _ _ _ (by intros; rfl) (by intros; simp [answerOnly]),
      State.serve_keeps (fun t : State => t.pending) _ _ _ (by intros; rfl) (by intros; simp [answerOnly])⟩

theorem execMask_frame (s : State) :
    ∃ t, execMask s = .next t ∧ t.cs = s.cs ∧ t.pos = s.pos ∧ t.zt = s.zt ∧ t.asu = s.asu ∧ t.msu = s.msu
      ∧ t.brc = s.brc ∧ t.wm = s.wm ∧ t.slu = s.slu ∧ t.dsu = s.dsu ∧ t.nu = s.nu ∧ t.fr = s.fr ∧ t.hand = s.hand
      ∧ t.freeCount = s.freeCount ∧ t.pending = s.pending := by
  simp only [execMask, State.whileRunning, Host.Outcome.next.injEq, exists_eq_left']
  split
  · simp
  · exact ⟨State.serve_keeps (fun t : State => t.cs) _ _ _ (by intros; rfl) (by intros; simp [answerOnly]),
      State.serve_keeps (fun t : State => t.pos) _ _ _ (by intros; rfl) (by intros; simp [answerOnly]),
      State.serve_keeps (fun t : State => t.zt) _ _ _ (by intros; rfl) (by intros; simp [answerOnly]),
      State.serve_keeps (fun t : State => t.asu) _ _ _ (by intros; rfl) (by intros; simp [answerOnly]),
      State.serve_keeps (fun t : State => t.msu) _ _ _ (by intros; rfl) (by intros; simp [answerOnly]),
      State.serve_keeps (fun t : State => t.brc) _ _ _ (by intros; rfl) (by intros; simp [answerOnly]),
      State.serve_keeps (fun t : State => t.wm) _ _ _ (by intros; rfl) (by intros; simp [answerOnly]),
      State.serve_keeps (fun t : State => t.slu) _ _ _ (by intros; rfl) (by intros; simp [answerOnly]),
      State.serve_keeps (fun t : State => t.dsu) _ _ _ (by intros; rfl) (by intros; simp [answerOnly]),
      State.serve_keeps (fun t : State => t.nu) _ _ _ (by intros; rfl) (by intros; simp [answerOnly]),
      State.serve_keeps (fun t : State => t.fr) _ _ _ (by intros; rfl) (by intros; simp [answerOnly]),
      State.serve_keeps (fun t : State => t.hand) _ _ _ (by intros; rfl) (by intros; simp [answerOnly]),
      State.serve_keeps (fun t : State => t.freeCount) _ _ _ (by intros; rfl) (by intros; simp [answerOnly]),
      State.serve_keeps (fun t : State => t.pending) _ _ _ (by intros; rfl) (by intros; simp [answerOnly])⟩

theorem execNoticePosting_frame (src : Block) (s : State) :
    ∃ t, execNoticePosting src s = .next t ∧ t.cs = s.cs ∧ t.pos = s.pos ∧ t.zt = s.zt ∧ t.asu = s.asu
      ∧ t.msu = s.msu ∧ t.brc = s.brc ∧ t.wm = s.wm ∧ t.slu = s.slu ∧ t.dsu = s.dsu ∧ t.spu = s.spu ∧ t.fr = s.fr
      ∧ t.freeCount = s.freeCount ∧ t.pending = s.pending := by
  simp only [execNoticePosting, State.whileRunning, Host.Outcome.next.injEq, exists_eq_left']
  (repeat' split) <;> simp

theorem execNotice_frame (s : State) :
    ∃ t, execNotice s = .next t ∧ t.cs = s.cs ∧ t.pos = s.pos ∧ t.zt = s.zt ∧ t.asu = s.asu ∧ t.msu = s.msu
      ∧ t.brc = s.brc ∧ t.wm = s.wm ∧ t.slu = s.slu ∧ t.dsu = s.dsu ∧ t.fr = s.fr ∧ t.hand = s.hand
      ∧ t.freeCount = s.freeCount ∧ t.pending = s.pending := by
  simp only [execNotice, State.whileRunning, Host.Outcome.next.injEq, exists_eq_left']
  split
  · simp
  · exact ⟨State.serve_keeps (fun t : State => t.cs) _ _ _ (by intros; rfl) (by intros; simp [answerOnly]),
      State.serve_keeps (fun t : State => t.pos) _ _ _ (by intros; rfl) (by intros; simp [answerOnly]),
      State.serve_keeps (fun t : State => t.zt) _ _ _ (by intros; rfl) (by intros; simp [answerOnly]),
      State.serve_keeps (fun t : State => t.asu) _ _ _ (by intros; rfl) (by intros; simp [answerOnly]),
      State.serve_keeps (fun t : State => t.msu) _ _ _ (by intros; rfl) (by intros; simp [answerOnly]),
      State.serve_keeps (fun t : State => t.brc) _ _ _ (by intros; rfl) (by intros; simp [answerOnly]),
      State.serve_keeps (fun t : State => t.wm) _ _ _ (by intros; rfl) (by intros; simp [answerOnly]),
      State.serve_keeps (fun t : State => t.slu) _ _ _ (by intros; rfl) (by intros; simp [answerOnly]),
      State.serve_keeps (fun t : State => t.dsu) _ _ _ (by intros; rfl) (by intros; simp [answerOnly]),
      State.serve_keeps (fun t : State => t.fr) _ _ _ (by intros; rfl) (by intros; simp [answerOnly]),
      State.serve_keeps (fun t : State => t.hand) _ _ _ (by intros; rfl) (by intros; simp [answerOnly]),
      State.serve_keeps (fun t : State => t.freeCount) _ _ _ (by intros; rfl) (by intros; simp [answerOnly]),
      State.serve_keeps (fun t : State => t.pending) _ _ _ (by intros; rfl) (by intros; simp [answerOnly])⟩

theorem execCauseHandover_frame (n : Nat) (s : State) :
    ∃ t, execCauseHandover n s = .next t ∧ t.cs = s.cs ∧ t.pos = s.pos ∧ t.zt = s.zt ∧ t.asu = s.asu ∧ t.msu = s.msu
      ∧ t.brc = s.brc ∧ t.wm = s.wm ∧ t.slu = s.slu ∧ t.dsu = s.dsu ∧ t.spu = s.spu ∧ t.nu = s.nu
      ∧ t.freeCount = s.freeCount ∧ t.pending = s.pending := by
  simp only [execCauseHandover, State.whileRunning, Host.Outcome.next.injEq, exists_eq_left']
  (repeat' split) <;> simp

theorem execFaultRead_frame (s : State) :
    ∃ t, execFaultRead s = .next t ∧ t.cs = s.cs ∧ t.pos = s.pos ∧ t.zt = s.zt ∧ t.asu = s.asu ∧ t.msu = s.msu
      ∧ t.brc = s.brc ∧ t.wm = s.wm ∧ t.slu = s.slu ∧ t.dsu = s.dsu ∧ t.nu = s.nu ∧ t.fr = s.fr ∧ t.hand = s.hand
      ∧ t.freeCount = s.freeCount ∧ t.pending = s.pending := by
  simp only [execFaultRead, State.whileRunning, Host.Outcome.next.injEq, exists_eq_left']
  split
  · simp
  · exact ⟨State.serve_keeps (fun t : State => t.cs) _ _ _ (by intros; rfl) (by intros; simp [answerOnly]),
      State.serve_keeps (fun t : State => t.pos) _ _ _ (by intros; rfl) (by intros; simp [answerOnly]),
      State.serve_keeps (fun t : State => t.zt) _ _ _ (by intros; rfl) (by intros; simp [answerOnly]),
      State.serve_keeps (fun t : State => t.asu) _ _ _ (by intros; rfl) (by intros; simp [answerOnly]),
      State.serve_keeps (fun t : State => t.msu) _ _ _ (by intros; rfl) (by intros; simp [answerOnly]),
      State.serve_keeps (fun t : State => t.brc) _ _ _ (by intros; rfl) (by intros; simp [answerOnly]),
      State.serve_keeps (fun t : State => t.wm) _ _ _ (by intros; rfl) (by intros; simp [answerOnly]),
      State.serve_keeps (fun t : State => t.slu) _ _ _ (by intros; rfl) (by intros; simp [answerOnly]),
      State.serve_keeps (fun t : State => t.dsu) _ _ _ (by intros; rfl) (by intros; simp [answerOnly]),
      State.serve_keeps (fun t : State => t.nu) _ _ _ (by intros; rfl) (by intros; simp [answerOnly]),
      State.serve_keeps (fun t : State => t.fr) _ _ _ (by intros; rfl) (by intros; simp [answerOnly]),
      State.serve_keeps (fun t : State => t.hand) _ _ _ (by intros; rfl) (by intros; simp [answerOnly]),
      State.serve_keeps (fun t : State => t.freeCount) _ _ _ (by intros; rfl) (by intros; simp [answerOnly]),
      State.serve_keeps (fun t : State => t.pending) _ _ _ (by intros; rfl) (by intros; simp [answerOnly])⟩

theorem execFaultClear_frame (s : State) :
    ∃ t, execFaultClear s = .next t ∧ t.cs = s.cs ∧ t.pos = s.pos ∧ t.zt = s.zt ∧ t.asu = s.asu ∧ t.msu = s.msu
      ∧ t.brc = s.brc ∧ t.wm = s.wm ∧ t.slu = s.slu ∧ t.nu = s.nu ∧ t.hand = s.hand ∧ t.freeCount = s.freeCount
      ∧ t.pending = s.pending := by
  simp only [execFaultClear, State.whileRunning, Host.Outcome.next.injEq, exists_eq_left']
  split
  · simp
  · exact ⟨State.serve_keeps (fun t : State => t.cs) _ _ _ (by intros; rfl) (by intros; simp [answerOnly]),
      State.serve_keeps (fun t : State => t.pos) _ _ _ (by intros; rfl) (by intros; simp [answerOnly]),
      State.serve_keeps (fun t : State => t.zt) _ _ _ (by intros; rfl) (by intros; simp [answerOnly]),
      State.serve_keeps (fun t : State => t.asu) _ _ _ (by intros; rfl) (by intros; simp [answerOnly]),
      State.serve_keeps (fun t : State => t.msu) _ _ _ (by intros; rfl) (by intros; simp [answerOnly]),
      State.serve_keeps (fun t : State => t.brc) _ _ _ (by intros; rfl) (by intros; simp [answerOnly]),
      State.serve_keeps (fun t : State => t.wm) _ _ _ (by intros; rfl) (by intros; simp [answerOnly]),
      State.serve_keeps (fun t : State => t.slu) _ _ _ (by intros; rfl) (by intros; simp [answerOnly]),
      State.serve_keeps (fun t : State => t.nu) _ _ _ (by intros; rfl) (by intros; simp [answerOnly]),
      State.serve_keeps (fun t : State => t.hand) _ _ _ (by intros; rfl) (by intros; simp [answerOnly]),
      State.serve_keeps (fun t : State => t.freeCount) _ _ _ (by intros; rfl) (by intros; simp [answerOnly]),
      State.serve_keeps (fun t : State => t.pending) _ _ _ (by intros; rfl) (by intros; simp [answerOnly])⟩

theorem execStatus_frame (s : State) :
    ∃ t, execStatus s = .next t ∧ t.cs = s.cs ∧ t.pos = s.pos ∧ t.zt = s.zt ∧ t.asu = s.asu ∧ t.msu = s.msu
      ∧ t.brc = s.brc ∧ t.wm = s.wm ∧ t.slu = s.slu ∧ t.dsu = s.dsu ∧ t.nu = s.nu ∧ t.fr = s.fr ∧ t.hand = s.hand
      ∧ t.freeCount = s.freeCount ∧ t.pending = s.pending := by
  simp only [execStatus, State.whileRunning, Host.Outcome.next.injEq, exists_eq_left']
  split
  · simp
  · exact ⟨State.serve_keeps (fun t : State => t.cs) _ _ _ (by intros; rfl) (by intros; simp [answerOnly]),
      State.serve_keeps (fun t : State => t.pos) _ _ _ (by intros; rfl) (by intros; simp [answerOnly]),
      State.serve_keeps (fun t : State => t.zt) _ _ _ (by intros; rfl) (by intros; simp [answerOnly]),
      State.serve_keeps (fun t : State => t.asu) _ _ _ (by intros; rfl) (by intros; simp [answerOnly]),
      State.serve_keeps (fun t : State => t.msu) _ _ _ (by intros; rfl) (by intros; simp [answerOnly]),
      State.serve_keeps (fun t : State => t.brc) _ _ _ (by intros; rfl) (by intros; simp [answerOnly]),
      State.serve_keeps (fun t : State => t.wm) _ _ _ (by intros; rfl) (by intros; simp [answerOnly]),
      State.serve_keeps (fun t : State => t.slu) _ _ _ (by intros; rfl) (by intros; simp [answerOnly]),
      State.serve_keeps (fun t : State => t.dsu) _ _ _ (by intros; rfl) (by intros; simp [answerOnly]),
      State.serve_keeps (fun t : State => t.nu) _ _ _ (by intros; rfl) (by intros; simp [answerOnly]),
      State.serve_keeps (fun t : State => t.fr) _ _ _ (by intros; rfl) (by intros; simp [answerOnly]),
      State.serve_keeps (fun t : State => t.hand) _ _ _ (by intros; rfl) (by intros; simp [answerOnly]),
      State.serve_keeps (fun t : State => t.freeCount) _ _ _ (by intros; rfl) (by intros; simp [answerOnly]),
      State.serve_keeps (fun t : State => t.pending) _ _ _ (by intros; rfl) (by intros; simp [answerOnly])⟩

theorem execMoverStatus_frame (s : State) :
    ∃ t, execMoverStatus s = .next t ∧ t.cs = s.cs ∧ t.pos = s.pos ∧ t.zt = s.zt ∧ t.asu = s.asu ∧ t.msu = s.msu
      ∧ t.brc = s.brc ∧ t.wm = s.wm ∧ t.slu = s.slu ∧ t.dsu = s.dsu ∧ t.nu = s.nu ∧ t.fr = s.fr ∧ t.hand = s.hand
      ∧ t.pending = s.pending := by
  simp only [execMoverStatus, State.whileRunning, Host.Outcome.next.injEq, exists_eq_left']
  split
  · simp
  · exact ⟨State.serve_keeps (fun t : State => t.cs) _ _ _ (by intros; rfl) (by intros; simp [answerOnly]),
      State.serve_keeps (fun t : State => t.pos) _ _ _ (by intros; rfl) (by intros; simp [answerOnly]),
      State.serve_keeps (fun t : State => t.zt) _ _ _ (by intros; rfl) (by intros; simp [answerOnly]),
      State.serve_keeps (fun t : State => t.asu) _ _ _ (by intros; rfl) (by intros; simp [answerOnly]),
      State.serve_keeps (fun t : State => t.msu) _ _ _ (by intros; rfl) (by intros; simp [answerOnly]),
      State.serve_keeps (fun t : State => t.brc) _ _ _ (by intros; rfl) (by intros; simp [answerOnly]),
      State.serve_keeps (fun t : State => t.wm) _ _ _ (by intros; rfl) (by intros; simp [answerOnly]),
      State.serve_keeps (fun t : State => t.slu) _ _ _ (by intros; rfl) (by intros; simp [answerOnly]),
      State.serve_keeps (fun t : State => t.dsu) _ _ _ (by intros; rfl) (by intros; simp [answerOnly]),
      State.serve_keeps (fun t : State => t.nu) _ _ _ (by intros; rfl) (by intros; simp [answerOnly]),
      State.serve_keeps (fun t : State => t.fr) _ _ _ (by intros; rfl) (by intros; simp [answerOnly]),
      State.serve_keeps (fun t : State => t.hand) _ _ _ (by intros; rfl) (by intros; simp [answerOnly]),
      State.serve_keeps (fun t : State => t.pending) _ _ _ (by intros; rfl) (by intros; simp [answerOnly])⟩

theorem execConfigRead_frame (s : State) :
    ∃ t, execConfigRead s = .next t ∧ t.cs = s.cs ∧ t.pos = s.pos ∧ t.zt = s.zt ∧ t.asu = s.asu ∧ t.msu = s.msu
      ∧ t.brc = s.brc ∧ t.wm = s.wm ∧ t.slu = s.slu ∧ t.dsu = s.dsu ∧ t.nu = s.nu ∧ t.fr = s.fr ∧ t.hand = s.hand
      ∧ t.freeCount = s.freeCount ∧ t.pending = s.pending := by
  simp only [execConfigRead, State.whileRunning, Host.Outcome.next.injEq, exists_eq_left']
  split
  · simp
  · exact ⟨State.serve_keeps (fun t : State => t.cs) _ _ _ (by intros; rfl) (by intros; simp [answerOnly]),
      State.serve_keeps (fun t : State => t.pos) _ _ _ (by intros; rfl) (by intros; simp [answerOnly]),
      State.serve_keeps (fun t : State => t.zt) _ _ _ (by intros; rfl) (by intros; simp [answerOnly]),
      State.serve_keeps (fun t : State => t.asu) _ _ _ (by intros; rfl) (by intros; simp [answerOnly]),
      State.serve_keeps (fun t : State => t.msu) _ _ _ (by intros; rfl) (by intros; simp [answerOnly]),
      State.serve_keeps (fun t : State => t.brc) _ _ _ (by intros; rfl) (by intros; simp [answerOnly]),
      State.serve_keeps (fun t : State => t.wm) _ _ _ (by intros; rfl) (by intros; simp [answerOnly]),
      State.serve_keeps (fun t : State => t.slu) _ _ _ (by intros; rfl) (by intros; simp [answerOnly]),
      State.serve_keeps (fun t : State => t.dsu) _ _ _ (by intros; rfl) (by intros; simp [answerOnly]),
      State.serve_keeps (fun t : State => t.nu) _ _ _ (by intros; rfl) (by intros; simp [answerOnly]),
      State.serve_keeps (fun t : State => t.fr) _ _ _ (by intros; rfl) (by intros; simp [answerOnly]),
      State.serve_keeps (fun t : State => t.hand) _ _ _ (by intros; rfl) (by intros; simp [answerOnly]),
      State.serve_keeps (fun t : State => t.freeCount) _ _ _ (by intros; rfl) (by intros; simp [answerOnly]),
      State.serve_keeps (fun t : State => t.pending) _ _ _ (by intros; rfl) (by intros; simp [answerOnly])⟩

theorem execConfigWrite_frame (s : State) :
    ∃ t, execConfigWrite s = .next t ∧ t.pos = s.pos ∧ t.zt = s.zt ∧ t.asu = s.asu ∧ t.msu = s.msu ∧ t.brc = s.brc
      ∧ t.wm = s.wm ∧ t.slu = s.slu ∧ t.nu = s.nu ∧ t.fr = s.fr ∧ t.freeCount = s.freeCount
      ∧ t.pending = s.pending := by
  simp only [execConfigWrite, State.whileRunning, Host.Outcome.next.injEq, exists_eq_left']
  split
  · simp
  · exact ⟨State.serve_keeps (fun t : State => t.pos) _ _ _ (by intros; rfl) (by intros; simp [answerOnly]),
      State.serve_keeps (fun t : State => t.zt) _ _ _ (by intros; rfl) (by intros; simp [answerOnly]),
      State.serve_keeps (fun t : State => t.asu) _ _ _ (by intros; rfl) (by intros; simp [answerOnly]),
      State.serve_keeps (fun t : State => t.msu) _ _ _ (by intros; rfl) (by intros; simp [answerOnly]),
      State.serve_keeps (fun t : State => t.brc) _ _ _ (by intros; rfl) (by intros; simp [answerOnly]),
      State.serve_keeps (fun t : State => t.wm) _ _ _ (by intros; rfl) (by intros; simp [answerOnly]),
      State.serve_keeps (fun t : State => t.slu) _ _ _ (by intros; rfl) (by intros; simp [answerOnly]),
      State.serve_keeps (fun t : State => t.nu) _ _ _ (by intros; rfl) (by intros; simp [answerOnly]),
      State.serve_keeps (fun t : State => t.fr) _ _ _ (by intros; rfl) (by intros; simp [answerOnly]),
      State.serve_keeps (fun t : State => t.freeCount) _ _ _ (by intros; rfl) (by intros; simp [answerOnly]),
      State.serve_keeps (fun t : State => t.pending) _ _ _ (by intros; rfl) (by intros; simp [answerOnly])⟩

theorem execCommit_frame (s : State) :
    ∃ t, execCommit s = .next t ∧ t.pos = s.pos ∧ t.zt = s.zt ∧ t.asu = s.asu ∧ t.msu = s.msu ∧ t.brc = s.brc
      ∧ t.wm = s.wm ∧ t.slu = s.slu ∧ t.dsu = s.dsu ∧ t.nu = s.nu ∧ t.fr = s.fr ∧ t.hand = s.hand
      ∧ t.freeCount = s.freeCount ∧ t.pending = s.pending := by
  simp only [execCommit, State.whileRunning, Host.Outcome.next.injEq, exists_eq_left']
  split
  · simp
  · exact ⟨State.serve_keeps (fun t : State => t.pos) _ _ _ (by intros; rfl) (by intros; simp [answerOnly]),
      State.serve_keeps (fun t : State => t.zt) _ _ _ (by intros; rfl) (by intros; simp [answerOnly]),
      State.serve_keeps (fun t : State => t.asu) _ _ _ (by intros; rfl) (by intros; simp [answerOnly]),
      State.serve_keeps (fun t : State => t.msu) _ _ _ (by intros; rfl) (by intros; simp [answerOnly]),
      State.serve_keeps (fun t : State => t.brc) _ _ _ (by intros; rfl) (by intros; simp [answerOnly]),
      State.serve_keeps (fun t : State => t.wm) _ _ _ (by intros; rfl) (by intros; simp [answerOnly]),
      State.serve_keeps (fun t : State => t.slu) _ _ _ (by intros; rfl) (by intros; simp [answerOnly]),
      State.serve_keeps (fun t : State => t.dsu) _ _ _ (by intros; rfl) (by intros; simp [answerOnly]),
      State.serve_keeps (fun t : State => t.nu) _ _ _ (by intros; rfl) (by intros; simp [answerOnly]),
      State.serve_keeps (fun t : State => t.fr) _ _ _ (by intros; rfl) (by intros; simp [answerOnly]),
      State.serve_keeps (fun t : State => t.hand) _ _ _ (by intros; rfl) (by intros; simp [answerOnly]),
      State.serve_keeps (fun t : State => t.freeCount) _ _ _ (by intros; rfl) (by intros; simp [answerOnly]),
      State.serve_keeps (fun t : State => t.pending) _ _ _ (by intros; rfl) (by intros; simp [answerOnly])⟩

theorem execStorageWriteComplete_frame (readbackMatches : Bool) (s : State) :
    ∃ t, execStorageWriteComplete readbackMatches s = .next t ∧ t.asu = s.asu ∧ t.brc = s.brc ∧ t.wm = s.wm
      ∧ t.slu = s.slu ∧ t.nu = s.nu ∧ t.fr = s.fr ∧ t.pending = s.pending := by
  simp only [execStorageWriteComplete, State.whileRunning, Host.Outcome.next.injEq, exists_eq_left']
  (repeat' split) <;> simp

end Sys2Proof.Machine
end

