-- ==== Sys2Proof/Laws/Requests.lean ====
section
/-! SUPPORT. What the shared operations of the request handler and of the hand-overs do, said once: serving a request,
taking a hand-over, and finding the lowest-numbered zone of a range. -/

namespace Sys2Proof.Machine

/-- A served request passes every check of the handler (R154). -/
theorem State.Served.refusal {s : State} {p : Port} {r : Request} {c : RequestCode} (h : s.Served p r c) :
    (s.takeHead p).handlerRefusal p r = none := by
  obtain ⟨⟨_, _, hc, hb⟩, hl, hr, hn⟩ := h
  simp only [State.handlerRefusal, hc]
  rw [if_neg, if_neg, if_neg, if_neg]
  · rintro ⟨h1, h2⟩; simp [hn h1] at h2
  · simp [hb]
  · simp [hr]
  · rintro ⟨h1, h2⟩
    have : s.dsu.state = .locked := h1
    simp [hl this] at h2

/-- A served request other than the four served in Locked finds the device in another state (R142). -/
theorem State.Served.not_locked {s : State} {p : Port} {r : Request} {c : RequestCode} (h : s.Served p r c)
    (hc : servedInLocked c = false) : s.dsu.state ≠ .locked := fun hl => by simp [h.2.1 hl] at hc

/-- The command of a served request runs its settlement on the state without the head, and forms the reply (R153). -/
theorem serve_of_served {s : State} {p : Port} {r : Request} {c : RequestCode} (h : s.Served p r c) (row : Instr)
    (settle : Settlement) (hrow : requestRow r = row) :
    (s.whileRunning fun s => s.serve row settle) = .next (match settle p r (s.takeHead p) with
      | (t, some a) => t.reply p r.tag a
      | (t, none) => t) := by
  simp only [State.whileRunning, h.1.1, Bool.false_eq_true, if_false, State.serve, h.1.2.1, hrow, if_true, State.handle,
    h.refusal] <;> rfl

/-- A served request whose settlement answers. -/
theorem serve_answers {s : State} {p : Port} {r : Request} {c : RequestCode} (h : s.Served p r c) {row : Instr}
    {settle : Settlement} (hrow : requestRow r = row) {t : State} {a : Answer}
    (hs : settle p r (s.takeHead p) = (t, some a)) :
    (s.whileRunning fun s => s.serve row settle) = .next (t.reply p r.tag a) := by
  rw [serve_of_served h row settle hrow, hs]

/-- Replying in place of the moved state changes the port outputs alone. -/
theorem State.answered_eq (s : State) (p : Port) (r : Request) (a : Answer) :
    s.answered p r a = (s.takeHead p).reply p r.tag a := rfl

/-- A hand-over taken is what `takeNth` finds. -/
theorem takeNth_of_taken {α : Type} {p : α → Bool} {n : Nat} {xs rest : List α} {x : α} (h : Taken p n xs x rest) :
    takeNth p n xs = some (x, rest) := by
  obtain ⟨before, after, rfl, hx, hn, rfl⟩ := h
  induction before generalizing n with
  | nil => simp at hn; subst hn; simp [takeNth, hx]
  | cons y ys ih =>
    by_cases hy : p y = true
    · rw [List.countP_cons_of_pos hy] at hn
      subst hn
      simp [takeNth, hy, ih rfl]
    · rw [List.countP_cons_of_neg hy] at hn
      simp [takeNth, hy, ih hn]

/-- What `takeNth` finds is a hand-over taken. -/
theorem taken_of_takeNth {α : Type} {p : α → Bool} {n : Nat} {xs rest : List α} {x : α}
    (h : takeNth p n xs = some (x, rest)) : Taken p n xs x rest := by
  induction xs generalizing n rest with
  | nil => simp [takeNth] at h
  | cons y ys ih =>
    by_cases hy : p y = true
    · cases n with
      | zero =>
        simp only [takeNth, hy, if_true, Option.some.injEq, Prod.mk.injEq] at h
        obtain ⟨rfl, rfl⟩ := h
        exact ⟨[], ys, rfl, hy, rfl, rfl⟩
      | succ k =>
        simp only [takeNth, hy, if_true, Option.map_eq_some_iff, Prod.mk.injEq, Prod.exists] at h
        obtain ⟨a, b, hab, rfl, rfl⟩ := h
        obtain ⟨bs, as, rfl, h2, h3, rfl⟩ := ih hab
        exact ⟨y :: bs, as, rfl, h2, by rw [List.countP_cons_of_pos hy, h3], rfl⟩
    · simp only [takeNth, hy, Bool.false_eq_true, if_false, Option.map_eq_some_iff, Prod.mk.injEq, Prod.exists] at h
      obtain ⟨a, b, hab, rfl, rfl⟩ := h
      obtain ⟨bs, as, rfl, h2, h3, rfl⟩ := ih hab
      exact ⟨y :: bs, as, rfl, h2, by rw [List.countP_cons_of_neg hy, h3], rfl⟩

/-- No zone of a range satisfies a test. -/
theorem lowestWhere_none {zs : List ZoneRec} {r : ZoneRange} {p : ZoneRec → Bool} :
    lowestWhere zs r p = none ↔ NoneIn zs r (fun z => p z = true) := by
  simp only [lowestWhere, Option.map_eq_none_iff, List.find?_eq_none, zonesIn, List.mem_filter, ZoneRange.has,
    Bool.and_eq_true, decide_eq_true_eq, and_imp, NoneIn, Prod.forall, List.mem_zipIdx_iff_getElem?]
  constructor
  · intro h k z hz h1 h2; exact h z k hz h1 h2
  · intro h z k hz h1 h2; exact h k z hz h1 h2

/-- The lowest-numbered zone of a range that satisfies a test. -/
theorem lowestWhere_some {zs : List ZoneRec} {r : ZoneRange} {p : ZoneRec → Bool} {k : Nat}
    (h : LowestIn zs r (fun z => p z = true) k) : lowestWhere zs r p = some k := by
  obtain ⟨⟨z, hz, h1, h2, hp⟩, hlow⟩ := h
  have hk : k < zs.length := (List.getElem?_eq_some_iff.mp hz).1
  have hsplit : zs.zipIdx = (zs.take k).zipIdx ++ (z, k) :: (zs.drop (k + 1)).zipIdx (k + 1) := by
    have h0 : zs = zs.take k ++ z :: zs.drop (k + 1) := by
      conv_lhs => rw [← List.take_append_drop k zs]
      rw [List.drop_eq_getElem_cons hk]
      congr 2
      exact (List.getElem?_eq_some_iff.mp hz).2
    conv_lhs => rw [h0, List.zipIdx_append]
    simp [List.length_take, Nat.min_eq_left (Nat.le_of_lt hk), List.zipIdx_cons]
  have hfilter : zonesIn zs r = (((zs.take k).zipIdx).filter fun x => r.has x.2)
      ++ (z, k) :: (((zs.drop (k + 1)).zipIdx (k + 1)).filter fun x => r.has x.2) := by
    simp only [zonesIn, hsplit, List.filter_append]
    rw [List.filter_cons_of_pos]
    simp [ZoneRange.has, h1, h2]
  have hnone : (((zs.take k).zipIdx).filter fun x => r.has x.2).find? (fun x => p x.1) = none := by
    rw [List.find?_eq_none]
    rintro ⟨y, j⟩ hy
    simp only [List.mem_filter, List.mem_zipIdx_iff_getElem?, ZoneRange.has, Bool.and_eq_true, decide_eq_true_eq] at hy
    obtain ⟨hy1, hy2, _⟩ := hy
    rw [List.getElem?_take] at hy1
    split at hy1
    · exact hlow j y hy1 hy2 ‹_›
    · simp at hy1
  simp only [lowestWhere, hfilter, List.find?_append, hnone, Option.none_or, List.find?_cons, hp, Option.map_some]

/-- A mover's number names it, and no other number does (R3). -/
theorem moverOfNumber_iff {n : Nat} {m : Mover} : moverOfNumber n = some m ↔ n = moverNumber m := by
  constructor
  · intro h
    match n, h with
    | 1, h | 2, h | 3, h | 4, h | 5, h => cases m <;> simp_all [moverOfNumber, moverNumber]
    | 0, h => simp [moverOfNumber] at h
    | k + 6, h => simp [moverOfNumber] at h
  · rintro rfl; cases m <;> rfl

/-- A number that is no mover's names none (R3). -/
theorem moverOfNumber_none {n : Nat} : moverOfNumber n = none ↔ ∀ m, n ≠ moverNumber m := by
  constructor
  · intro h m hm; rw [moverOfNumber_iff.mpr hm] at h; cases h
  · intro h
    cases hm : moverOfNumber n with
    | none => rfl
    | some m => exact absurd (moverOfNumber_iff.mp hm) (h m)

end Sys2Proof.Machine
end

