-- ==== Sys2Proof/Laws/Braces.lean ====
section
/-! SUPPORT. What the conditions of the portal braces and the taking of a demand event do, said once (R115, R116, R123). -/

namespace Sys2Proof.Machine

/-- The ENGAGE conditions, zone by zone (R115). -/
theorem ZoneTable.engageConditions_iff (t : ZoneTable) : t.engageConditions = true ↔
    ¬ ∃ q : Path, ∃ z ∈ t.zones q, z.need = .withdrawn
      ∧ (z.holder ≠ none ∨ z.clearingFor ≠ none ∨ (q = .tray ∧ bodyOverlaps (t.body.get .tray) z = true)) := by
  simp only [ZoneTable.engageConditions, ZoneTable.someZone, Bool.not_eq_true', Bool.or_eq_false_iff, List.any_eq_false,
    moverOver, pathOf, isPanel]
  constructor
  · rintro ⟨h1, h2⟩ ⟨q, z, hz, hn, h⟩
    cases q
    · have := h1 z hz; simp [hn] at this; simp_all
    · have := h2 z hz; simp [hn] at this; simp_all
  · intro h
    refine ⟨fun z hz hc => h ⟨.runway, z, hz, ?_⟩, fun z hz hc => h ⟨.tray, z, hz, ?_⟩⟩ <;> simp at hc ⊢ <;>
      simpa [Option.isSome_iff_ne_none, or_assoc] using hc

/-- Whether a panel of given bodies stands over a zone that needs Engaged, zone by zone: only runway zones count, since a
panel's body overlaps zones of its own path alone (R35, R116). -/
theorem ZoneTable.panelOverEngagedNeed_iff (t : ZoneTable) (b : PerMover (Option Extent)) :
    t.panelOverEngagedNeed b = true ↔
      ∃ m ∈ panels, ∃ z ∈ t.runway, z.need = .engaged ∧ bodyOverlaps (b.get m) z = true := by
  simp only [ZoneTable.panelOverEngagedNeed, ZoneTable.someZone, Bool.or_eq_true, List.any_eq_true, Bool.and_eq_true,
    beq_iff_eq]
  constructor
  · rintro (⟨z, hz, hn, m, hm, h⟩ | ⟨z, hz, hn, m, hm, h⟩)
    · exact ⟨m, hm, z, hz, hn, by simp only [moverOver, Bool.and_eq_true] at h; exact h.2⟩
    · simp only [moverOver, Bool.and_eq_true, beq_iff_eq] at h
      cases m <;> simp_all [panels, pathOf, isPanel]
  · rintro ⟨m, hm, z, hz, hn, h⟩
    refine .inl ⟨z, hz, hn, m, hm, ?_⟩
    cases m <;> simp_all [panels, moverOver, pathOf, isPanel]

/-- What bars an engage for the demand: the device not Armed, a brace Stalled, or an ENGAGE condition (R124). -/
theorem State.mayEngage_iff (s : State) : s.mayEngage = true ↔
    ¬ (s.dsu.state ≠ .armed ∨ s.braceState .east = .stalled ∨ s.braceState .west = .stalled
      ∨ ∃ q : Path, ∃ z ∈ s.zt.zones q, z.need = .withdrawn
        ∧ (z.holder ≠ none ∨ z.clearingFor ≠ none ∨ (q = .tray ∧ bodyOverlaps (s.zt.body.get .tray) z = true))) := by
  rw [not_or, not_or, not_or, ← ZoneTable.engageConditions_iff]
  simp [State.mayEngage, State.anyStalled, and_assoc]

/-- When the wind asks for engaged braces (R116, R123). -/
theorem State.windNeedsBraces_iff (s : State) (v : DemandView) : s.windNeedsBraces v = true ↔
    v.wind = .unknown ∨ s.cs.active.general.braceFreeMean ≤ v.mean ∨ s.cs.active.general.braceFreeGust ≤ v.gust := by
  simp [State.windNeedsBraces, or_assoc]

/-- A body change that waits for a hold report is not taken (R125, log 38). -/
theorem State.takeDemandEvent_of_waits {s : State} {src : DemandSource} (h : s.demandWaits src = true) :
    s.takeDemandEvent src = s := by simp [State.takeDemandEvent, h]

/-- The oldest event of a source that does not wait is taken off and the demand tested on it (R123). -/
theorem State.takeDemandEvent_of_taken {s : State} {src : DemandSource} {ev : DemandEvent} {rest : List DemandEvent}
    (h : s.demandWaits src = false) (ht : Taken (fun x : DemandEvent => x.source == src) 0 s.hand.demandEvents ev rest) :
    s.takeDemandEvent src = (s.withHand { s.hand with demandEvents := rest }).testDemand (s.viewOn ev) := by
  simp [State.takeDemandEvent, h, takeNth_of_taken ht]

end Sys2Proof.Machine
end

