-- ==== Sys2Proof/Laws/Store.lean ====
section
/-! SUPPORT. The stores whose check fails, said without working out a check value. -/

namespace Sys2Proof.Machine

/-- The check of a stored image compares its check value with the stored one (R14). -/
theorem StoredImage.passes_mk (img : Image) (c : BitVec 32) :
    StoredImage.passes ⟨img, c⟩ = decide (img.checkValue = c) := rfl

/-- A nonzero error makes a different value. -/
theorem ne_xor_nonzero (x y : BitVec 32) : x ≠ x ^^^ nonzero y := by
  intro h
  have h1 : nonzero y = 0#32 := by
    have h2 := congrArg (fun z => x ^^^ z) h
    simpa [← BitVec.xor_assoc] using h2.symm
  unfold nonzero at h1
  split at h1
  · exact absurd h1 (by decide)
  · contradiction

/-- A torn store fails its check (R13, R15). -/
theorem tornStore_fails (n : Nat) : (tornStore n).passes = false := by
  unfold tornStore
  rw [StoredImage.passes_mk]
  exact decide_eq_false (ne_xor_nonzero _ _)

/-- A delivered store fails its check (R16). -/
theorem deliveredStore_fails : deliveredStore.passes = false := by
  unfold deliveredStore
  rw [StoredImage.passes_mk]
  exact decide_eq_false (by simpa [nonzero] using ne_xor_nonzero defaultImage.checkValue 1#32)

end Sys2Proof.Machine
end

