-- ==== Sys2Proof/Laws/Resets.lean ====
section
/-! SUPPORT. What a reset sets, field by field, and that every reset sets every block (R147). -/

set_option linter.all false

namespace Sys2Proof.Machine

/-! ## The fields after a reset -/

@[simp] theorem State.resetTo_cs (s : State) (k : ResetKind) : (s.resetTo k).cs = .atReset s.storeAtReset := rfl
@[simp] theorem State.resetTo_pos (s : State) (k : ResetKind) : (s.resetTo k).pos = .initial := rfl
@[simp] theorem State.resetTo_zt (s : State) (k : ResetKind) :
    (s.resetTo k).zt = .initial (Cs.atReset s.storeAtReset).active := rfl
@[simp] theorem State.resetTo_asu (s : State) (k : ResetKind) : (s.resetTo k).asu = .initial := rfl
@[simp] theorem State.resetTo_msu (s : State) (k : ResetKind) :
    (s.resetTo k).msu = .ofFn fun m => .initial (s.msu.get m).readbackClosed := rfl
@[simp] theorem State.resetTo_brc (s : State) (k : ResetKind) : (s.resetTo k).brc = s.brc.atReset := rfl
@[simp] theorem State.resetTo_wm (s : State) (k : ResetKind) : (s.resetTo k).wm = .initial := rfl
@[simp] theorem State.resetTo_slu (s : State) (k : ResetKind) : (s.resetTo k).slu = s.slu.atReset k.filter k.held := rfl
@[simp] theorem State.resetTo_dsu (s : State) (k : ResetKind) :
    (s.resetTo k).dsu = .atReset s.storeAtReset.passes k.token k.flags := rfl
@[simp] theorem State.resetTo_spu (s : State) (k : ResetKind) : (s.resetTo k).spu = .initial := rfl
@[simp] theorem State.resetTo_nu (s : State) (k : ResetKind) :
    (s.resetTo k).nu = .ofFn fun _ => if k.held then .cleared else .restarted k.flags := rfl
@[simp] theorem State.resetTo_fr (s : State) (k : ResetKind) : (s.resetTo k).fr = k.fr := rfl
@[simp] theorem State.resetTo_hand (s : State) (k : ResetKind) :
    (s.resetTo k).hand = { Handovers.none with causes := tripsFound s.slu } := rfl
@[simp] theorem State.resetTo_pending (s : State) (k : ResetKind) : (s.resetTo k).pending = s.pending := rfl

/-- R15 over any store. -/
theorem Cs.atReset_valid (st : StoredImage) : (Cs.atReset st).valid = st.passes := rfl

/-- R15: the store is as it was found. -/
theorem Cs.atReset_stored (st : StoredImage) : (Cs.atReset st).stored = st := rfl

/-- R15: no working copy and no commit in flight. -/
theorem Cs.atReset_none (st : StoredImage) : (Cs.atReset st).working = none ∧ (Cs.atReset st).commit = none := ⟨rfl, rfl⟩

/-- A reset of a write in flight finds the store torn (R15). -/
theorem State.storeAtReset_torn {s : State} (h : s.cs.commit ≠ none) : s.storeAtReset.passes = false := by
  have : s.cs.commit.isSome = true := by cases h' : s.cs.commit <;> simp_all
  simp only [State.storeAtReset, this, if_true]
  exact tornStore_fails _

/-- A reset without a write in flight finds the store as it was (R15). -/
theorem State.storeAtReset_kept {s : State} (h : s.cs.commit = none) : s.storeAtReset = s.cs.stored := by
  simp [State.storeAtReset, h]

/-- R15 for the configuration store, R147 for the device state. -/
theorem Cs.atReset_settles (st : StoredImage) (token : Bool) (flags : ResetFlags) :
    if (Cs.atReset st).stored.passes = true then
      (Cs.atReset st).valid = true ∧ (Cs.atReset st).active = (Cs.atReset st).stored.image
        ∧ (Dsu.atReset st.passes token flags).state = .standby
    else
      (Cs.atReset st).valid = false ∧ (Cs.atReset st).active = defaultImage
        ∧ (Dsu.atReset st.passes token flags).state = .unconfigured := by
  cases h : st.passes
  · rw [if_neg (by simp [Cs.atReset_stored, h])]
    exact ⟨h, if_neg (by simp [h]), rfl⟩
  · rw [if_pos (by simp [Cs.atReset_stored, h])]
    exact ⟨h, if_pos h, rfl⟩

/-- The zone table of an image, path by path (R58). -/
theorem ZoneTable.initial_zones (img : Image) (p : Path) : (ZoneTable.initial img).zones p = freshZones (img.path p) := by
  cases p <;> rfl

/-- Every reset sets every block as R147 says. -/
theorem State.resetTo_blocks (s : State) (k : ResetKind) : s.BlocksReset (s.resetTo k) := by
  simp only [State.BlocksReset, State.resetTo_cs, State.resetTo_pos, State.resetTo_zt, State.resetTo_asu, State.resetTo_msu,
    State.resetTo_brc, State.resetTo_wm, State.resetTo_slu, State.resetTo_dsu, State.resetTo_spu, State.resetTo_hand,
    State.resetTo_pending, ZoneTable.initial_zones]
  have h1 : s.cs.commit = none → (Cs.atReset s.storeAtReset).stored = s.cs.stored := fun h => by
    rw [Cs.atReset_stored, State.storeAtReset_kept h]
  have h2 : s.cs.commit ≠ none → (Cs.atReset s.storeAtReset).valid = false := fun h => by
    rw [Cs.atReset_valid, State.storeAtReset_torn h]
  have h3 := Cs.atReset_settles s.storeAtReset k.token k.flags
  have h4 := Cs.atReset_none s.storeAtReset
  have h5 : (Dsu.atReset s.storeAtReset.passes k.token k.flags).armingStep = none
      ∧ (Dsu.atReset s.storeAtReset.passes k.token k.flags).stepTimer = false
      ∧ (Dsu.atReset s.storeAtReset.passes k.token k.flags).permits = true := ⟨rfl, rfl, rfl⟩
  refine ⟨⟨h4.1, h4.2, h1, h2⟩, h3, ?_⟩
  simp only [true_and, implies_true, and_true]
  refine ⟨?_, ?_, ⟨rfl, rfl, rfl⟩, ?_, ?_, ⟨rfl, rfl⟩, h5, rfl⟩
  · intro m; simp [MoverRec.initial]
  · intro b; simp [Brc.atReset, BraceRec.initial, BraceRec.reading]
  · intro c; simp [Slu.atReset, FilteredLine.settled]
  · intro m; simp [Slu.atReset, FilteredLine.settled]

/-- The release of the reset line leaves what a reset reads of the state (R146). -/
theorem State.lineReleased_blocks {s t : State} (h : s.lineReleased.BlocksReset t) : s.BlocksReset t := by
  simpa [State.BlocksReset, State.lineReleased, State.withSlu_cs, State.withSlu_msu, State.withSlu_brc, State.withSlu_slu,
    State.withSlu_pending] using h

end Sys2Proof.Machine
end

