-- ==== Sys2Proof/Laws/Stopping.lean ====
section
/-! SUPPORT. What relay commands, the end of Arming by a failure, entry to Locked and the ends of stops do, said once (R97,
R99, R100, R103, R138, R142). -/

namespace Sys2Proof.Machine

/-- A relay commanded open: the readback timer runs afterwards where it ran, or where the relay was commanded closed
(R103). -/
theorem State.commandRelay_open (s : State) (m : Mover) :
    s.commandRelay m false = s.setMover m { s.msu.get m with
      relayClosed := false, readbackTimer := (s.msu.get m).readbackTimer || (s.msu.get m).relayClosed } := by
  simp only [State.commandRelay]
  cases h : (s.msu.get m).relayClosed
  · have : { s.msu.get m with relayClosed := false } = s.msu.get m := by rw [← h]
    simp [this, State.setMover, State.withMsu]
  · simp

/-- A relay commanded closed (R103). -/
theorem State.commandRelay_close (s : State) (m : Mover) :
    s.commandRelay m true = s.setMover m { s.msu.get m with
      relayClosed := true, readbackTimer := (s.msu.get m).readbackTimer || !(s.msu.get m).relayClosed } := by
  simp only [State.commandRelay]
  cases h : (s.msu.get m).relayClosed
  · simp
  · have : { s.msu.get m with relayClosed := true } = s.msu.get m := by rw [← h]
    simp [this, State.setMover, State.withMsu]

/-- DSU's open commands to every relay: each new one starts its readback timer (R103, R138, R142). -/
theorem State.openAllRelays_eq (s : State) : s.openAllRelays = s.withMsu (.ofFn fun m => { s.msu.get m with
    relayClosed := false, readbackTimer := (s.msu.get m).readbackTimer || (s.msu.get m).relayClosed }) := by
  simp only [State.openAllRelays, allMovers, List.foldl, State.commandRelay_open]
  rfl

/-- Entry to Locked, field by field (R142). -/
theorem State.enterLocked_eq (s : State) (f : Cause) : s.enterLocked f = { s with
    msu := .ofFn fun m => { s.msu.get m with
      relayClosed := false, readbackTimer := (s.msu.get m).readbackTimer || (s.msu.get m).relayClosed }
    dsu := { s.dsu with state := .locked, armingStep := none, stepTimer := false }
    hand := { s.hand with
      deviceChanges := s.hand.deviceChanges ++ [⟨s.dsu.state, .locked⟩]
      demandEvents := s.hand.demandEvents ++ [.deviceChange]
      cuts := s.hand.cuts ++ (if s.dsu.state = .armed then [.leftArmed] else [])
      postings := s.hand.postings ++ [⟨.dsu, allPorts, ⟨.locked, 7, .absent, causeNumber f⟩⟩] } } := by
  simp only [State.enterLocked, State.openAllRelays_eq, State.enterDevice, State.endArmingStep]
  by_cases h : s.dsu.state = .armed <;>
    simp [h, State.withMsu, State.withDsu, State.handDeviceChange, State.handDemand, State.handCut, State.post,
      State.withHand]

/-- Arming that ends otherwise than by its open phase: the relay under test is commanded open, its readback timer started
where it was commanded closed (R103, R138, R139). -/
theorem State.failArming_eq (s : State) (m : Mover) (ph : Phase) (item : Nat) (h : s.dsu.armingStep = some (m, ph)) :
    s.failArming item = ({ s with
      msu := s.msu.set m { s.msu.get m with
        relayClosed := false, readbackTimer := (s.msu.get m).readbackTimer || (s.msu.get m).relayClosed }
      dsu := { s.dsu with armingStep := none, stepTimer := false } }.changeDevice .standby).post .dsu [.venue]
        ⟨.armingFailed, 4, .absent, item⟩ := by
  simp only [State.failArming, State.openRelayUnderTest, h, State.commandRelay_open, State.setMover, State.withMsu,
    State.endArmingStep, State.withDsu, State.postArmingFailed]

/-- Two writes of one mover's record leave the second. -/
theorem State.setMover_setMover (s : State) (m : Mover) (a b : MoverRec) :
    (s.setMover m a).setMover m b = s.setMover m b := by
  simp [State.setMover, State.withMsu]

/-- A mover parks at a lead (R79, R97). -/
theorem State.comeToRest_parked (s : State) (m : Mover) (l : Int) :
    s.comeToRest m .parked l = ((((s.setMover m { s.msu.get m with
      state := .parked, stopCause := none, stopEnd := none, haltCauses := [], parkedPosition := some l
      uncommandedOpen := false, relayClosed := false
      readbackTimer := (s.msu.get m).readbackTimer || (s.msu.get m).relayClosed }).endAuthority m).handMoverChange m
        .parked).parkingConversion m).postParked m l := by
  simp [State.comeToRest, State.commandRelay_open, State.setMover_setMover]

/-- A Stopping mover whose stop end is Halted comes to rest at a lead (R97). -/
theorem State.comeToRest_halted (s : State) (m : Mover) (l : Int) :
    s.comeToRest m .halted l = (((s.setMover m { s.msu.get m with
      state := .halted, stopEnd := none, parkedPosition := some l, uncommandedOpen := false, relayClosed := false
      readbackTimer := (s.msu.get m).readbackTimer || (s.msu.get m).relayClosed }).endAuthority m).handMoverChange m
        .halted).parkingConversion m := by
  simp [State.comeToRest, State.commandRelay_open, State.setMover_setMover]

/-- A Permitted or Stopping mover trips: its record (R99, R102). -/
theorem State.tripMover_eq (s : State) (m : Mover) (c : Cause) (hs : List Cause) :
    s.tripMover m c hs = ((((s.setMover m { s.msu.get m with
      state := .tripped, stopCause := some c, stopEnd := none, haltCauses := hs
      tripTimer := .running (1000 * (s.params m).tripStopTime), relayClosed := false
      readbackTimer := (s.msu.get m).readbackTimer || (s.msu.get m).relayClosed }).tripAuthority m).handMoverChange m
        .tripped).postStopped m 6 c) := by
  simp [State.tripMover, State.commandRelay_open, State.setMover_setMover]

end Sys2Proof.Machine
end

