-- ==== Sys2Proof/WellFormed.lean ====
section
/-! DEFINITION. When a command is one the part's inputs can carry. Every other operand is well formed by its type. -/

namespace Sys2Proof

/-- A reading frame whose address is one byte and whose position is a four-byte signed value, the sizes the manual gives
positions everywhere (R156). The reader's own field sizes are not given (PRESUMED, log 28). -/
def ReadingFrame.WellFormed (f : ReadingFrame) : Bool :=
  decide (f.address < 256) && decide (-2147483648 ≤ f.position) && decide (f.position ≤ 2147483647)

/-- Only a reading's fields can be out of bounds; the meanings are total and need no well-formed operand. -/
def Instr.WellFormed : Instr → Bool
  | .readingArrival _ f => f.WellFormed
  | .powerOnReset | .resetLineAssertion | .lineReset | .resetLineRelease | .commandedReset => true
  | .completeFrame _ | .frameTimerExpiry _ | .replyFrameSent _ | .silenceTimerExpiry _ => true
  | .unknownRequestCode | .status | .moverStatus | .notice | .mask | .reserve | .release | .move | .stop | .clear => true
  | .braceEngage | .braceWithdraw | .braceClear | .barrierClose | .barrierOpen | .permitsOff | .permitsOn => true
  | .arm | .standby | .reset | .faultRead | .faultClear | .configRead | .configWrite | .commit => true
  | .storageWriteComplete _ | .gapTimerExpiry _ _ | .lossTimerExpiry _ | .validityChange _ => true
  | .positionUpdateZT _ | .positionUpdateASU _ | .authorityConsumed _ | .positionUpdateMSU _ => true
  | .immediateCauseTaken _ | .controlledCauseTaken _ | .holdCauseTaken _ | .deviceStateChangeMSU => true
  | .tripTimerExpiry _ | .readbackTimerExpiry _ | .readbackContactChange _ _ | .stepTimerExpiry | .moverStateChange => true
  | .loopChannelChange _ _ | .loopFilterExpiry _ | .discrepancyTimerExpiry => true
  | .driveTripInputChange _ _ | .driveTripFilterExpiry _ => true
  | .braceSwitchChange _ _ _ | .braceSwitchLoss | .operationTimerExpiry _ | .cutShort | .demandConditionTest _ => true
  | .anemometerPulse _ | .intervalClosure | .noticePosting _ | .causeHandover _ | .stationPortByte _ _ _ => true

end Sys2Proof
end

