-- ==== Sys2Proof/Tests/Slice0.lean ====
section
/-! SUPPORT. Small tests of single steps with results worked from the spec, and for each statement a witness: a concrete
state and operands that meet the hypotheses of each of its clauses. -/

namespace Sys2Proof.Tests

open Sys2Proof.Machine

/-! ## Small states -/

/-- A request as a test's station sends it, with tag 7. -/
def rq (code : Byte) (body : List Byte) : Request := ⟨7, code, body⟩

/-- A state with one request waiting on a port. -/
def asked (p : Port) (code : Byte) (body : List Byte) (s : State) : State :=
  s.setPort p { s.spu.ports.get p with queue := [rq code body] }

/-- The conditions of a served request, as one test. -/
def heard (p : Port) (code : Byte) (body : List Byte) (c : RequestCode) (s : State) : Bool :=
  let t := asked p code body s
  !t.slu.heldInReset && t.grant == some (p, rq code body) && codeOfByte code == some c && bodyLengthOk c body.length
    && (t.dsu.state != .locked || servedInLocked c) && roleMaySend c p && (!namesMover c || !wrongOwner p body)

/-- The test gives what a statement about a served request asks. -/
theorem heard_served {p : Port} {code : Byte} {body : List Byte} {c : RequestCode} {s : State}
    (h : heard p code body c s = true) : (asked p code body s).Served p (rq code body) c := by
  simp only [heard, Bool.and_eq_true, Bool.not_eq_true', beq_iff_eq, Bool.or_eq_true, bne_iff_ne] at h
  obtain ⟨⟨⟨⟨⟨⟨h1, h2⟩, h3⟩, h4⟩, h5⟩, h6⟩, h7⟩ := h
  exact ⟨⟨h1, h2, h3, h4⟩, fun hl => h5.resolve_left fun hn => hn hl, h6,
    fun hm => h7.resolve_left fun hn => by simp [hm] at hn⟩

/-- The reset state in a device state. -/
def device (d : DeviceState) : State :=
  { State.reset with dsu := { State.reset.dsu with
    state := d, armingStep := if d = .arming then some (.p1, .close) else none, stepTimer := d == .arming } }

/-- A state with a mover in a given state. -/
def moverIn (m : Mover) (st : MoverState) (s : State) : State := s.setMover m { s.msu.get m with state := st }

/-- A state with other hand-overs in flight. -/
def handed (h : Handovers) (s : State) : State := s.withHand h

/-- Panel P1 at 60,000 mm, holding zones 1 to 9, with authority south to 95,000 mm, in a given state and at a speed. -/
def running (st : MoverState) (speed : Int) : State :=
  let s := moverIn .p1 st (device .armed)
  let held := fun (z : ZoneRec) => if 10000 ≤ z.start ∧ z.start < 100000 then { z with holder := some .p1 } else z
  let axis := fun (r : AxisRec) => { r with validity := .valid, position := some 60000, speed := speed }
  let authority : Authority := { Authority.initial with
    direction := some .south, authorityEnd := some 95000, capInUse := 200, targetCap := 200 }
  { s with
    pos := { s.pos with
      axes := (s.pos.axes.modify .a1 axis).modify .a2 axis
      movers := s.pos.movers.set .p1 ⟨some ⟨19500, 60500⟩, some 60000, some 60000, speed, decide (speed = 0)⟩ }
    zt := { s.zt with runway := s.zt.runway.map held, body := s.zt.body.set .p1 (some ⟨19500, 60500⟩) }
    asu := { s.asu with authority := s.asu.authority.set .p1 authority } }

/-- A position update of P1 from axis 1, at a lead, an axis speed and with or without standstill. -/
def update (first : Bool) (lead speed : Int) (standstill : Bool) : PositionUpdate :=
  { mover := .p1, axis := .a1, first := first
    axes := [⟨.a1, some lead, speed, .valid, standstill⟩, ⟨.a2, some lead, speed, .valid, standstill⟩]
    body := some ⟨lead - 40500, lead + 500⟩, lead := some lead, furthest := some lead, speed := speed
    standstill := standstill }

/-- A zone range in which no zone at all satisfies a condition. -/
theorem noneIn_of {zs : List ZoneRec} {r : ZoneRange} {c : ZoneRec → Prop} (h : ∀ z ∈ zs, ¬ c z) : NoneIn zs r c :=
  fun _ z hz _ _ => h z (List.mem_of_getElem? hz)

/-- The first zone of a range, where it satisfies a condition, is the lowest-numbered that does. -/
theorem lowestIn_first {zs : List ZoneRec} {r : ZoneRange} {c : ZoneRec → Prop} (z : ZoneRec)
    (hz : zs[r.first]? = some z) (hr : r.first ≤ r.last) (hc : c z) : LowestIn zs r c r.first :=
  ⟨⟨z, hz, Nat.le_refl _, hr, hc⟩, fun _ _ _ h1 h2 => absurd h2 (Nat.not_lt.mpr h1)⟩

/-! ## Well-formedness (log 28) -/

/-- A good reading of axis 1's primary reader. -/
def reading (position : Int) : ReadingFrame := ⟨true, 1, 5, position, .ok⟩

theorem test_wellFormed_accepts : (Instr.readingArrival .a (reading 60000)).WellFormed = true := by decide

theorem test_wellFormed_refuses_wide_address :
    (Instr.readingArrival .a { reading 60000 with address := 256 }).WellFormed = false := by decide

theorem test_wellFormed_refuses_position_above :
    (Instr.readingArrival .a (reading 2147483648)).WellFormed = false := by decide

theorem test_wellFormed_refuses_position_below :
    (Instr.readingArrival .a (reading (-2147483649))).WellFormed = false := by decide

/-- No row of the table gives bits. -/
theorem test_no_word_spells_a_command : decodeTableWord 16 0x1234 = none := rfl

/-! ## Worked values of the spec -/

/-- R14: the nine characters 1 to 9 give CBF43926 hex. -/
theorem test_crc32_check : crc32 [0x31, 0x32, 0x33, 0x34, 0x35, 0x36, 0x37, 0x38, 0x39] = 0xCBF43926#32 := by
  decide +kernel

/-- R150: the nine characters 1 to 9 give 29B1 hex. -/
theorem test_crc16_check : crc16 [0x31, 0x32, 0x33, 0x34, 0x35, 0x36, 0x37, 0x38, 0x39] = 0x29B1#16 := by
  decide +kernel

/-- R74: ceilings 200, 100 and 0 give 220, 120 and 20. -/
theorem test_intervention_speeds :
    interventionSpeed 200 = 220 ∧ interventionSpeed 100 = 120 ∧ interventionSpeed 0 = 20 := by decide

/-- R128: 105 pulses at K = 7 give 150; 420 saturate. -/
theorem test_wind_values : windValue 7 105 = 150 ∧ windValue 7 420 = 600 ∧ windValue 7 419 = 598 := by decide

/-- R26: 40 mm over a span of 10 periods gives 200 mm/s, and -200 the other way. -/
theorem test_speed_of_window :
    speedFrom [⟨179960, 250#8⟩, ⟨179970, 254#8⟩, ⟨179990, 2#8⟩, ⟨180000, 4#8⟩] 0 = 200
      ∧ speedFrom [⟨180000, 250#8⟩, ⟨179990, 254#8⟩, ⟨179970, 2#8⟩, ⟨179960, 4#8⟩] 0 = -200 := by decide

/-- R6, R14: the image has 456 entries. -/
theorem test_image_entries : serialKeys.length = 456 := by decide +kernel

/-! ## Witnesses: resets and station ports -/

/-- A state held in reset. -/
def held : State := { State.reset with slu := { State.reset.slu with heldInReset := true, resetAsserted := true } }

theorem witness_PowerOnAndLineResets :
    let s : State := { State.reset with slu := { State.reset.slu with resetFilter := true, resetAsserted := true } }
    s.slu.heldInReset = false ∧ s.slu.resetFilter = true := by decide +kernel

theorem witness_ResetLineAssertedAndReleased :
    (State.reset.slu.heldInReset = false ∧ State.reset.slu.resetAsserted = false) ∧ held.slu.heldInReset = true := by
  decide +kernel

theorem witness_CommandedResetFollowsItsReply :
    let moving := moverIn .p1 .tripped (device .armed)
    let due : State := { State.reset with spu := { State.reset.spu with handler := .resetDue } }
    ((asked .venue 0x33 [] moving).Served .venue (rq 0x33 []) .reset
        ∧ (asked .venue 0x33 [] moving).dsu.state ≠ .locked ∧ (asked .venue 0x33 [] moving).allAtRest = false)
      ∧ ((asked .venue 0x33 [] .reset).Served .venue (rq 0x33 []) .reset
        ∧ (asked .venue 0x33 [] .reset).dsu.state ≠ .locked ∧ (asked .venue 0x33 [] .reset).allAtRest = true)
      ∧ due.slu.heldInReset = false ∧ due.spu.handler = .resetDue := by
  refine ⟨⟨heard_served ?_, ?_⟩, ⟨heard_served ?_, ?_⟩, ?_⟩ <;> decide +kernel

/-- A state whose Roof receiver has taken some bytes. -/
def receiving (taken : List Byte) : State :=
  State.reset.setPort .roof { PortRec.initial with receiver := .receiving taken }

theorem witness_ReceiverTakesBytes :
    (State.reset.slu.heldInReset = false ∧ (State.reset.spu.ports.get .roof).receiver = .hunting ∧ 0xA4#8 ≠ 0xA5#8)
      ∧ ((receiving []).slu.heldInReset = false ∧ ((receiving []).spu.ports.get .roof).receiver = .receiving []
        ∧ (3#8).toNat < 4 ∧ 52 < (53#8).toNat)
      ∧ ((4#8).toNat = 4 ∧ (52#8).toNat = 52 ∧ ([] ++ [4#8] : List Byte).length ≠ fieldAt ([] ++ [4#8]) 0 + 2)
      ∧ (((receiving [4, 1, 7, 2, 0]).spu.ports.get .roof).receiver = .receiving [4, 1, 7, 2, 0]
        ∧ ([4, 1, 7, 2, 0] : List Byte) ≠ []
        ∧ ([4, 1, 7, 2, 0] ++ [9#8] : List Byte).length = fieldAt ([4, 1, 7, 2, 0] ++ [9#8]) 0 + 2) := by decide +kernel

theorem witness_FramesRoundTrip :
    PortRec.initial.receiver = .hunting ∧ (List.replicate 48 0xFF#8).length ≤ 48 := by decide

/-- The bytes of a valid NOTICE frame from the Venue station, after its start byte. -/
def noticeFrame : List Byte := (ReplyFrame.wire ⟨.served, .venue, 7, 2, []⟩).drop 1

/-- A Venue port with a complete frame, and so many requests queued and BUSY replies waiting. -/
def framed (f : List Byte) (queued busy : Nat) : State :=
  State.reset.setPort .venue { PortRec.initial with
    complete := [f], queue := List.replicate queued (rq 2 []), output := List.replicate busy ⟨.busy, .venue, 7, 1, []⟩ }

theorem witness_CompleteFrameTested :
    let valid := fun (f : List Byte) =>
      f.drop (f.length - 2) = checkField (f.take (f.length - 2)) ∧ fieldAt f 1 = portNumber .venue
    let port := fun (s : State) => s.spu.ports.get .venue
    (framed [] 0 0).slu.heldInReset = false ∧ (port (framed noticeFrame 1 0)).complete = noticeFrame :: []
      ∧ valid noticeFrame ∧ ¬ valid [4, 3, 7, 2, 0, 0] ∧ ¬ valid ((ReplyFrame.wire ⟨.served, .roof, 7, 2, []⟩).drop 1)
      ∧ (port (framed noticeFrame 1 0)).queue.length < 2
      ∧ (2 ≤ (port (framed noticeFrame 2 1)).queue.length ∧ busyReplies (port (framed noticeFrame 2 1)).output < 2)
      ∧ (2 ≤ (port (framed noticeFrame 2 2)).queue.length ∧ 2 ≤ busyReplies (port (framed noticeFrame 2 2)).output) := by
  decide +kernel

theorem witness_RepliesLeaveAndPortsFallSilent :
    let out := fun (k : ReplyKind) => State.reset.setPort .venue { PortRec.initial with output := [⟨k, .venue, 7, 0, []⟩] }
    let live := State.reset.setPort .roof { PortRec.initial with link := .live, silence := .running 1500 }
    ((out .served).slu.heldInReset = false
        ∧ ((out .served).spu.ports.get .venue).output = ⟨.served, .venue, 7, 0, []⟩ :: [] ∧ ReplyKind.served ≠ .resetAccepted)
      ∧ ((out .resetAccepted).spu.ports.get .venue).output = ⟨.resetAccepted, .venue, 7, 0, []⟩ :: []
      ∧ (State.reset.spu.ports.get .roof).silence.isRunning = false ∧ (live.spu.ports.get .roof).silence.isRunning = true := by
  decide +kernel

theorem witness_HandlerGrantsAndChecks :
    let g := fun (s : State) p r => s.slu.heldInReset = false ∧ s.grant = some (p, r)
    g (asked .roof 0x77 [] .reset) .roof (rq 0x77 []) ∧ codeOfByte 0x77 = none
      ∧ g (asked .venue 0x31 [] (device .locked)) .venue (rq 0x31 []) ∧ servedInLocked .arm = false
      ∧ g (asked .roof 0x31 [] .reset) .roof (rq 0x31 []) ∧ roleMaySend .arm .roof = false
      ∧ g (asked .roof 0x12 [1] .reset) .roof (rq 0x12 [1]) ∧ bodyLengthOk .move 1 = false
      ∧ g (asked .pitch 0x13 [1] .reset) .pitch (rq 0x13 [1]) ∧ namesMover .stop = true ∧ wrongOwner .pitch [1] = true
      ∧ (State.reset.grant = none ∧ State.reset.spu.handler = .free)
      ∧ (let s := asked .pitch 3 [1] .reset
        s.spu.handler = .free ∧ s.spu.lastGranted = .venue ∧ [Port.roof, .pitch, .venue] = [.roof] ++ .pitch :: [.venue]
          ∧ (s.spu.ports.get .pitch).queue.head? = some (rq 3 [1]) ∧ s.dsu.state ≠ .arming
          ∧ ((s.spu.ports.get .pitch).output.filter fun f => f.kind != .busy).length < 2
          ∧ (s.spu.ports.get .roof).queue.head? = none)
      ∧ (let s := asked .roof 0x12 [1, 1, 0, 0, 0, 0] (device .arming)
        s.spu.handler = .free ∧ s.dsu.state = .arming ∧ (rq 0x12 [1, 1, 0, 0, 0, 0]).code = 0x12#8 ∧ s.grant = none) := by
  decide +kernel

theorem witness_MaskSetsPortMask :
    ((asked .roof 3 [6] .reset).Asked .roof (rq 3 [6]) .mask ∧ (6#8).toNat ≤ 6)
      ∧ (asked .venue 3 [7] (device .locked)).Asked .venue (rq 3 [7]) .mask ∧ 6 < (7#8).toNat := by
  refine ⟨⟨(heard_served ?_).1, ?_⟩, (heard_served ?_).1, ?_⟩ <;> decide +kernel

theorem witness_StatusIsOnePicture :
    ((asked .roof 1 [6] .reset).Served .roof (rq 1 [6]) .status ∧ 5 < (6#8).toNat)
      ∧ ((asked .pitch 1 [0] .reset).Served .pitch (rq 1 [0]) .status ∧ (0#8).toNat = 0)
      ∧ (asked .venue 1 [5] .reset).Served .venue (rq 1 [5]) .status ∧ (5#8).toNat = moverNumber .tray := by
  refine ⟨⟨heard_served ?_, ?_⟩, ⟨heard_served ?_, ?_⟩, heard_served ?_, ?_⟩ <;> decide +kernel

theorem witness_MoverStatusPages :
    ((asked .roof 1 [6, 0] .reset).Served .roof (rq 1 [6, 0]) .status ∧ ∀ m, (6#8).toNat ≠ moverNumber m)
      ∧ ((asked .roof 1 [1, 4] .reset).Served .roof (rq 1 [1, 4]) .status ∧ (1#8).toNat = moverNumber .p1
        ∧ (axesOf .p1).length + 2 ≤ (4#8).toNat)
      ∧ ((asked .roof 1 [1, 3] .reset).Served .roof (rq 1 [1, 3]) .status ∧ (3#8).toNat = 1 + 2 ∧ (axesOf .p1)[1]? = some .a2)
      ∧ (asked .roof 1 [1, 0] .reset).Served .roof (rq 1 [1, 0]) .status
      ∧ (asked .roof 1 [1, 1] .reset).Served .roof (rq 1 [1, 1]) .status
      ∧ (let s := State.reset.setMover .p1 { MoverRec.initial false with state := .tripped, tripTimer := .running 6000 }
        (asked .roof 1 [1, 0] s).Served .roof (rq 1 [1, 0]) .status
          ∧ ((asked .roof 1 [1, 0] s).msu.get .p1).tripTimer = .running 6000 ∧ (0 : Int) ≤ 6000) := by
  refine ⟨⟨heard_served ?_, fun m => ?_⟩, ⟨heard_served ?_, ?_⟩, ⟨heard_served ?_, ?_⟩, heard_served ?_, heard_served ?_,
    heard_served ?_, ?_⟩
  case refine_2 => cases m <;> decide
  all_goals decide +kernel

/-! ## Witnesses: notices and the fault record -/

/-- A notice of a severity. -/
def notice (severity : Nat) : Notice := ⟨.windState, severity, .absent, 1⟩

/-- A state with a Roof notice queue and a posting of a severity to the Roof station in flight. -/
def posting (queue : List Notice) (severity : Nat) : State :=
  handed { Handovers.none with postings := [⟨.wm, [.roof], notice severity⟩] }
    { State.reset with nu := State.reset.nu.set .roof ⟨queue, false, true⟩ }

theorem witness_NoticesQueuedAndFetched :
    let four := [notice 4, notice 3, notice 5, notice 3]
    let empty : State := { State.reset with nu := State.reset.nu.set .pitch .cleared }
    ((posting [] 1).slu.heldInReset = false
        ∧ Taken (fun y : Posting => y.source == .wm) 0 (posting [] 1).hand.postings ⟨.wm, [.roof], notice 1⟩ []
        ∧ ([.roof] : List Port).Nodup ∧ ((posting [] 1).spu.ports.get .roof).mask < (notice 1).severity
        ∧ ((posting [notice 4, notice 3, notice 5] 1).nu.get .roof).queue.length < 4)
      ∧ (4 ≤ four.length ∧ (notice 6).severity ≠ 7)
      ∧ (4 ≤ (List.replicate 4 (notice 7)).length ∧ ∀ y ∈ List.replicate 4 (notice 7), 7 ≤ y.severity)
      ∧ (four = [notice 4] ++ notice 3 :: [notice 5, notice 3] ∧ (∀ z ∈ four, (notice 3).severity ≤ z.severity)
        ∧ ∀ z ∈ [notice 4], (notice 3).severity < z.severity)
      ∧ ((asked .pitch 2 [] empty).Served .pitch (rq 2 []) .notice ∧ ((asked .pitch 2 [] empty).nu.get .pitch).queue = [])
      ∧ (asked .pitch 2 [] .reset).Served .pitch (rq 2 []) .notice
      ∧ ((asked .pitch 2 [] .reset).nu.get .pitch).queue = [] ++ ⟨.restarted, 6, .absent, 1⟩ :: [] := by
  refine ⟨⟨?_, ⟨[], [], ?_⟩, ?_⟩, ?_, ?_, ?_, ⟨heard_served ?_, ?_⟩, heard_served ?_, ?_⟩ <;> decide +kernel

/-- A cause on its way to the fault record. -/
def fault (c : Cause) : FaultMessage := ⟨c, none, some .p1, none, .nothing⟩

/-- A state with a fault hand-over in flight and a summary. -/
def faulted (c : Cause) (es : List SummaryEntry) : State :=
  let s := handed { Handovers.none with faults := [fault c] } State.reset
  { s with fr := ⟨if es = [] then none else some (State.reset.capture (fault .skewTrip)), es⟩ }

theorem witness_FaultRecordKeepsTheFirst :
    let recorded : List Cause := [.safetyLoop, .driveTrip, .overspeed, .overrun, .rollback, .uncommandedMotion, .skewTrip,
      .readerLoss, .readerDiscrepancy, .braceLost, .linkSilence, .venueSilence, .braceStalled, .brakeFault, .relayStuck]
    ((faulted .windLimit []).slu.heldInReset = false
        ∧ Taken (fun _ => true) 0 (faulted .windLimit []).hand.faults (fault .windLimit) [] ∧ Cause.windLimit ∉ recorded)
      ∧ (Cause.relayStuck ∈ recorded ∧ (faulted .relayStuck []).fr.record = none)
      ∧ ((faulted .relayStuck [⟨.skewTrip, false⟩]).fr.record ≠ none
        ∧ ∀ e ∈ (faulted .relayStuck [⟨.skewTrip, false⟩]).fr.summary, e.cause ≠ .relayStuck)
      ∧ (∃ e ∈ (faulted .skewTrip [⟨.skewTrip, false⟩]).fr.summary, e.cause = .skewTrip)
      ∧ ((asked .venue 0x40 [] (device .locked)).Served .venue (rq 0x40 []) .faultRead
        ∧ (asked .venue 0x40 [] (device .locked)).fr.record = none)
      ∧ ((asked .venue 0x40 [] (faulted .skewTrip [⟨.skewTrip, false⟩])).Served .venue (rq 0x40 []) .faultRead
        ∧ (faulted .skewTrip [⟨.skewTrip, false⟩]).fr.record = some (State.reset.capture (fault .skewTrip)))
      ∧ (asked .venue 0x41 [] .reset).Served .venue (rq 0x41 []) .faultClear := by
  refine ⟨⟨?_, ⟨[], [], ?_⟩, ?_⟩, ?_, ?_, ?_, ⟨heard_served ?_, ?_⟩, ⟨heard_served ?_, ?_⟩, heard_served ?_⟩ <;> decide +kernel

/-! ## Witnesses: the zone table -/

/-- A state in which P1 asks for a range of zones from the Roof station. -/
def reserving (first last : Byte) (s : State) : State := asked .roof 0x10 [1, first, last] s

/-- A state with one runway zone changed. -/
def withZone (k : Nat) (f : ZoneRec → ZoneRec) (s : State) : State :=
  { s with zt := { s.zt with runway := s.zt.runway.modify k f } }

theorem witness_ReserveGrantsTheRange :
    let s := reserving 10 9 (running .permitted 100)
    let zs := s.zt.zones .runway
    let rg : ZoneRange := ⟨9, 10, false⟩
    s.Served .roof (rq 0x10 [1, 10, 9]) .reserve ∧ s.dsu.state = .armed ∧ fieldAt [1, 10, 9] 0 = moverNumber .p1
      ∧ NoneIn zs rg (fun z => (z.holder ≠ none ∧ z.holder ≠ some .p1) ∨ (z.clearingFor ≠ none ∧ z.clearingFor ≠ some .p1))
      ∧ NoneIn zs rg (fun z => z.barrier ≠ .opened)
      ∧ NoneIn zs rg (fun z => (z.need = .engaged ∧ ¬ (s.braceState .east = .engaged ∧ s.braceState .west = .engaged))
        ∨ (z.need = .withdrawn ∧ ¬ (s.braceState .east = .withdrawn ∧ s.braceState .west = .withdrawn)))
      ∧ NoneIn zs rg (fun z => z.need = .withdrawn ∧ s.brc.demand = true)
      ∧ (∃ k z, zs[k]? = some z ∧ rg.first ≤ k + 1 ∧ k ≤ rg.last + 1
        ∧ (z.holder = some .p1 ∨ z.clearingFor = some .p1 ∨ bodyOverlaps (s.zt.body.get .p1) z = true))
      ∧ NoneIn zs rg (fun z => isPanel .p1 = true ∧ z.need = .engaged ∧ (s.wm.state = .limit ∨ s.wm.state = .unknown)) := by
  refine ⟨heard_served (by decide +kernel), by decide +kernel, by decide +kernel, noneIn_of (by decide +kernel),
    noneIn_of (by decide +kernel), ?_, noneIn_of (by decide +kernel), ⟨9, _, rfl, by decide +kernel⟩, ?_⟩
  all_goals
    intro k z hz h1 h2
    obtain rfl | rfl : k = 9 ∨ k = 10 := by simp only at h1 h2; omega
    all_goals (cases hz; decide +kernel)

/-- The range of zone k alone. -/
def only (k : Nat) : ZoneRange := ⟨k, k, false⟩

theorem witness_ReserveRefusedInOrder :
    let other := withZone 10 (fun z => { z with holder := some .p2 }) (running .permitted 100)
    let barred := withZone 10 (fun z => { z with barrier := .closed }) (running .permitted 100)
    let zone := fun (s : State) (k : Nat) => ((s.zt.zones .runway)[k]?).getD default
    ((reserving 0 0 .reset).Served .roof (rq 0x10 [1, 0, 0]) .reserve ∧ (reserving 0 0 .reset).dsu.state ≠ .armed)
      ∧ (asked .roof 0x10 [0, 0, 0] (device .armed)).Served .roof (rq 0x10 [0, 0, 0]) .reserve
      ∧ (∀ m, fieldAt [0, 0, 0] 0 ≠ moverNumber m)
      ∧ ((reserving 10 10 other).Served .roof (rq 0x10 [1, 10, 10]) .reserve ∧ (reserving 10 10 other).dsu.state = .armed
        ∧ (reserving 10 10 other).rangeOf .p1 [1, 10, 10] = only 10
        ∧ LowestIn ((reserving 10 10 other).zt.zones .runway) (only 10)
          (fun z => (z.holder ≠ none ∧ z.holder ≠ some .p1) ∨ (z.clearingFor ≠ none ∧ z.clearingFor ≠ some .p1)) 10)
      ∧ LowestIn ((reserving 10 10 barred).zt.zones .runway) (only 10) (fun z => z.barrier ≠ .opened) 10
      ∧ (reserving 19 19 barred).rangeOf .p1 [1, 19, 19] = only 19
      ∧ ((zone barred 19).need = .engaged ∧ ¬ (barred.braceState .east = .engaged ∧ barred.braceState .west = .engaged))
      ∧ isPanel .p1 = true ∧ barred.wm.state = .unknown := by
  refine ⟨⟨heard_served ?_, ?_⟩, heard_served ?_, fun m => ?_, ⟨heard_served ?_, ?_, ?_, ?_⟩, ?_, ?_⟩
  case refine_4 => cases m <;> decide
  case refine_8 => exact lowestIn_first _ rfl (by decide) (by decide +kernel)
  case refine_9 => exact lowestIn_first _ rfl (by decide) (by decide +kernel)
  all_goals decide +kernel

/-- Two braces Withdrawn, with a demand standing or not. -/
def withdrawnBraces (demand : Bool) (s : State) : State :=
  let b : BraceRec := ⟨.withdrawn, false, false, .stopped, false, true⟩
  { s with brc := ⟨⟨b, b⟩, none, false, demand⟩ }

/-- The later conditions of RESERVE: a demand over G13, and a range that is nobody's neighbour. -/
theorem witness_ReserveRefusedInOrder_demand :
    let s := asked .pitch 0x10 [5, 13, 13] (withdrawnBraces true (device .armed))
    let far := reserving 30 30 (withdrawnBraces false (device .armed))
    s.Served .pitch (rq 0x10 [5, 13, 13]) .reserve ∧ s.rangeOf .tray [5, 13, 13] = only 13
      ∧ LowestIn (s.zt.zones .tray) (only 13) (fun z => z.need = .withdrawn ∧ s.brc.demand = true) 13
      ∧ NoneIn (s.zt.zones .tray) (only 13) (fun z => z.barrier ≠ .opened)
      ∧ far.Served .roof (rq 0x10 [1, 30, 30]) .reserve
      ∧ ¬ ∃ k z, (far.zt.zones .runway)[k]? = some z ∧ 30 ≤ k + 1 ∧ k ≤ 30 + 1
        ∧ (z.holder = some .p1 ∨ z.clearingFor = some .p1 ∨ bodyOverlaps (far.zt.body.get .p1) z = true) := by
  refine ⟨heard_served (by decide +kernel), by decide +kernel, lowestIn_first _ rfl (by decide) (by decide +kernel),
    noneIn_of (by decide +kernel), heard_served (by decide +kernel), ?_⟩
  rintro ⟨k, z, hz, _, _, h⟩
  have : ∀ z ∈ (reserving 30 30 (withdrawnBraces false (device .armed))).zt.zones .runway,
      ¬ (z.holder = some .p1 ∨ z.clearingFor = some .p1
        ∨ bodyOverlaps ((reserving 30 30 (withdrawnBraces false (device .armed))).zt.body.get .p1) z = true) := by
    decide +kernel
  exact this z (List.mem_of_getElem? hz) h

theorem witness_ReleaseGivesUpHeldZones :
    let asks := fun (f l : Byte) (st : MoverState) => asked .roof 0x11 [1, f, l] (running st 100)
    ((asked .roof 0x11 [6, 1, 1] .reset).Served .roof (rq 0x11 [6, 1, 1]) .release ∧ ∀ m, fieldAt [6, 1, 1] 0 ≠ moverNumber m)
      ∧ ((asks 1 1 .halted).Served .roof (rq 0x11 [1, 1, 1]) .release ∧ (asks 1 1 .halted).moverState .p1 = .halted)
      ∧ ((asks 6 6 .stopping).Served .roof (rq 0x11 [1, 6, 6]) .release ∧ (asks 6 6 .stopping).moverState .p1 = .stopping
        ∧ LowestIn ((asks 6 6 .stopping).zt.zones .runway) ((asks 6 6 .stopping).rangeOf .p1 [1, 6, 6])
          (fun z => bodyOverlaps ((asks 6 6 .stopping).zt.body.get .p1) z = true) 6)
      ∧ ((asks 7 8 .permitted).Served .roof (rq 0x11 [1, 7, 8]) .release
        ∧ (asks 7 8 .permitted).zt.body.get .p1 = some ⟨19500, 60500⟩
        ∧ ((asks 7 8 .permitted).pos.movers.get .p1).lead = some 60000
        ∧ NoneIn ((asks 7 8 .permitted).zt.zones .runway) ((asks 7 8 .permitted).rangeOf .p1 [1, 7, 8])
          (fun z => (⟨19500, 60500⟩ : Extent).overlaps z = true)
        ∧ ((asks 7 8 .permitted).authorityOf .p1).direction = some .south
        ∧ ((asks 7 8 .permitted).authorityOf .p1).authorityEnd = some 95000)
      ∧ (asks 7 8 .tripped).moverState .p1 = .tripped := by
  refine ⟨⟨heard_served (by decide +kernel), fun m => by cases m <;> decide⟩,
    ⟨heard_served (by decide +kernel), by decide +kernel⟩, ⟨heard_served (by decide +kernel), by decide +kernel,
    lowestIn_first _ rfl (by decide +kernel) (by decide +kernel)⟩, ⟨heard_served (by decide +kernel), by decide +kernel,
    by decide +kernel, ?_, by decide +kernel⟩, by decide +kernel⟩
  intro k z hz h1 h2
  obtain rfl | rfl : k = 7 ∨ k = 8 := by
    have h3 : ((asked .roof 0x11 [1, 7, 8] (running .permitted 100)).rangeOf .p1 [1, 7, 8]) = ⟨7, 8, false⟩ := by
      decide +kernel
    simp only [h3] at h1 h2; omega
  all_goals (cases hz; decide +kernel)

theorem witness_BarrierClosesAndOpens :
    let asks := fun (b : List Byte) (s : State) => asked .venue 0x22 b s
    ((asks [1, 0, 35, 1] .reset).Served .venue (rq 0x22 [1, 0, 35, 1]) .barrier
        ∧ (asks [1, 0, 35, 1] .reset).dsu.state ≠ .armed)
      ∧ ((asks [3, 0, 0, 0] (device .armed)).Served .venue (rq 0x22 [3, 0, 0, 0]) .barrier
        ∧ fieldAt [3, 0, 0, 0] 0 ≠ 1 ∧ fieldAt [3, 0, 0, 0] 0 ≠ 2 ∧ 1 < fieldAt [1, 0, 0, 2] 3)
      ∧ ((asks [1, 0, 255, 1] (device .armed)).Served .venue (rq 0x22 [1, 0, 255, 1]) .barrier
        ∧ fieldAt [1, 0, 255, 1] 3 = 1)
      ∧ (asks [2, 24, 0, 0] (device .armed)).Served .venue (rq 0x22 [2, 24, 0, 0]) .barrier := by
  refine ⟨⟨heard_served ?_, ?_⟩, ⟨heard_served ?_, ?_⟩, ⟨heard_served ?_, ?_⟩, heard_served ?_⟩ <;> decide +kernel

/-- The first position update of P1 after a reset: its second axis has no position yet. -/
def firstAxis : PositionUpdate :=
  { update false 60000 0 true with
    axes := [⟨.a1, some 60000, 0, .valid, true⟩, ⟨.a2, none, 0, .unknown, false⟩]
    body := none, lead := none, furthest := none }

/-- A state with one position update in flight to each of ZT, ASU and MSU. -/
def updated (u : PositionUpdate) (s : State) : State :=
  handed { Handovers.none with toZt := [u], toAsu := [u], toMsu := [u] } s

/-- One update of a mover in flight is taken. -/
theorem taken_one {α : Type} {p : α → Bool} {x : α} (h : p x = true) : Taken p 0 [x] x [] := ⟨[], [], rfl, h, rfl, rfl⟩

theorem witness_ZonesFollowBodiesAndBraces :
    let u := update false 60100 100 false
    let s := updated u (running .permitted 100)
    let lost := handed { Handovers.none with switchLosses := [.east] } State.reset
    (s.slu.heldInReset = false ∧ Taken (fun x : PositionUpdate => x.mover == .p1) 0 s.hand.toZt u []
        ∧ u.body = some ⟨19600, 60600⟩ ∧ u.lead = some 60100 ∧ s.moverState .p1 = .permitted)
      ∧ (updated u (running .halted 0)).moverState .p1 = .halted
      ∧ (Taken (fun x : PositionUpdate => x.mover == .p1) 0 (updated firstAxis (running .parked 0)).hand.toZt firstAxis []
        ∧ firstAxis.body = none)
      ∧ lost.slu.heldInReset = false ∧ lost.hand.switchLosses = .east :: [] := by
  refine ⟨⟨by decide +kernel, taken_one (by decide), by decide +kernel⟩, by decide +kernel,
    ⟨taken_one (by decide), by decide +kernel⟩, by decide +kernel⟩

theorem witness_ZoneEventsEndWithFreedZones :
    let s := running .parked 0
    let t : ZoneTable := { s.zt with runway := s.zt.runway.map fun (z : ZoneRec) => { z with holder := none } }
    (∀ p, (t.zones p).length = (s.zt.zones p).length)
      ∧ (∃ z z', (s.zt.zones .runway)[8]? = some z ∧ (t.zones .runway)[8]? = some z' ∧ s.zt.stateOf .runway z ≠ .free
        ∧ t.stateOf .runway z' = .free)
      ∧ (∃ z, (s.zt.zones .runway)[3]? = some z ∧ z.holder ≠ none)
      ∧ (∃ z, (t.zones .runway)[3]? = some z ∧ z.holder = none ∧ z.clearingFor = none ∧ z.barrier ≠ .closed
        ∧ ∃ m ∈ moversOn .runway, ∃ e, t.body.get m = some e ∧ e.low < z.stop ∧ z.start ≤ e.high) := by
  refine ⟨fun p => ?_, ⟨_, _, rfl, rfl, by decide +kernel⟩, ⟨_, rfl, by decide +kernel⟩,
    ⟨_, rfl, by decide +kernel, by decide +kernel, by decide +kernel, .p1, by decide, ⟨19500, 60500⟩, rfl, by decide +kernel⟩⟩
  cases p <;> decide +kernel

theorem witness_EnteringRestConvertsHolds :
    ((running .permitted 0).pos.movers.get .p1).body = some ⟨19500, 60500⟩
      ∧ (State.reset.pos.movers.get .p1).body = none := by decide +kernel

/-! ## Witnesses: authority and supervision -/

/-- P1 Parked at 60,000 mm in Armed, in Calm wind, holding zones 1 to 9. -/
def ready (st : MoverState) (speed : Int) : State :=
  let s := running st speed
  { s with wm := { s.wm with state := .calm } }

/-- P1's motion in those states. -/
def motion (speed : Int) : Motion := ⟨60000, ⟨19500, 60500⟩, speed, [(.a1, 60000), (.a2, 60000)], false⟩

/-- The body of a MOVE of P1 south to 90,000 mm. -/
def moveSouth : List Byte := [1, 1] ++ bytesOf 4 90000

theorem witness_MoveGranted :
    let s := asked .roof 0x12 moveSouth (ready .parked 0)
    (s.Served .roof (rq 0x12 moveSouth) .move ∧ s.dsu.state = .armed ∧ fieldAt moveSouth 0 = moverNumber .p1
        ∧ byteAt moveSouth 1 = BitVec.ofInt 8 Direction.south.sign)
      ∧ (s.dsu.permits = true ∧ (s.spu.ports.get .venue).link ≠ .silent ∧ s.moverState .p1 ≠ .halted
        ∧ s.moverState .p1 ≠ .tripped ∧ (s.authorityOf .p1).direction = some .south ∧ s.wm.state = .calm)
      ∧ (∀ a ∈ axesOf .p1, (s.pos.axes.get a).validity = .valid ∨ (s.pos.axes.get a).validity = .substituted)
      ∧ (s.pos.movers.get .p1).body = some ⟨19500, 60500⟩
      ∧ (∀ z ∈ s.zt.zones .runway, (⟨19500, 60500⟩ : Extent).overlaps z = true → z.holder = some .p1)
      ∧ s.motionOf .p1 = some (motion 0)
      ∧ (s.params .p1).stopMargin + 200 < ((s.settleEnd .p1 .south 90000 (motion 0)).position - 60000) * Direction.south.sign
      ∧ ((ready .permitted 0).moverState .p1 = .permitted ∧ ((ready .permitted 0).pos.movers.get .p1).standstill = true) := by
  refine ⟨⟨heard_served ?_, ?_⟩, ?_, ?_, ?_, ?_, ?_, ?_, ?_⟩ <;> decide +kernel

theorem witness_MoveRefusedInOrder :
    let move := fun (s : State) => asked .roof 0x12 moveSouth s
    let north : List Byte := [1, 255] ++ bytesOf 4 0
    ((move .reset).Served .roof (rq 0x12 moveSouth) .move ∧ (move .reset).dsu.state ≠ .armed)
      ∧ ((asked .roof 0x12 [1, 0, 0, 0, 0, 0] (device .armed)).Served .roof (rq 0x12 [1, 0, 0, 0, 0, 0]) .move
        ∧ byteAt [1, 0, 0, 0, 0, 0] 1 ≠ 1#8 ∧ byteAt [1, 0, 0, 0, 0, 0] 1 ≠ 255#8)
      ∧ ((move (ready .halted 0)).Served .roof (rq 0x12 moveSouth) .move ∧ (ready .halted 0).moverState .p1 = .halted)
      ∧ ((asked .roof 0x12 north (ready .permitted 9)).Served .roof (rq 0x12 north) .move
        ∧ byteAt north 1 = BitVec.ofInt 8 Direction.north.sign
        ∧ ((ready .permitted 9).authorityOf .p1).direction = some .south ∧ Direction.south ≠ .north
        ∧ (ready .permitted 9).moverState .p1 = .permitted ∧ ((ready .permitted 9).pos.movers.get .p1).standstill = false)
      ∧ (isPanel .p1 = true ∧ (running .parked 0).wm.state = .unknown)
      ∧ ((device .armed).pos.movers.get .p1).body = none
      ∧ (∃ z ∈ ((withZone 3 (fun z => { z with holder := none }) (ready .parked 0)).zt.zones .runway),
        bodyOverlaps (some ⟨19500, 60500⟩) z = true ∧ z.holder ≠ some .p1)
      ∧ ((ready .parked 0).moverState .p1 = .parked
        ∧ ((ready .parked 0).settleEnd .p1 .south 60500 (motion 0)).position - 60000 ≤ 300 + 200) := by
  refine ⟨⟨heard_served ?_, ?_⟩, ⟨heard_served ?_, ?_⟩, ⟨heard_served ?_, ?_⟩, ⟨heard_served ?_, ?_⟩, ?_⟩ <;> decide +kernel

/-- The worked instance of R63: P3 at 140,000 holds U10 to U18, and P4 ahead of it rests in U17 and U18. -/
def meeting (e : Int) : State :=
  let s := moverIn .p3 .permitted (device .armed)
  let put := fun (x : Int) (r : AxisRec) => { r with validity := .valid, position := some x }
  let held := fun (z : ZoneRec) => if 100000 ≤ z.start ∧ z.start < 190000 then { z with holder := some .p3 } else z
  let authority : Authority := { Authority.initial with
    direction := some .south, authorityEnd := some e, capInUse := 200, targetCap := 200 }
  { s with
    pos := { s.pos with
      axes := (((s.pos.axes.modify .a5 (put 140000)).modify .a6 (put 140000)).modify .a7 (put 220000)).modify .a8 (put 220000)
      movers := (s.pos.movers.set .p3 ⟨some ⟨99500, 140500⟩, some 140000, some 140000, 0, true⟩).set .p4
        ⟨some ⟨179500, 220500⟩, some 220000, some 220000, 0, true⟩ }
    zt := { s.zt with runway := s.zt.runway.map held }
    asu := { s.asu with authority := s.asu.authority.set .p3 authority }
    wm := { s.wm with state := .calm } }

/-- P3's motion there. -/
def meetingMotion : Motion := ⟨140000, ⟨99500, 140500⟩, 0, [(.a5, 140000), (.a6, 140000)], false⟩

/-- R63: against the target of 180,000 the candidate is P4's clip, 177,500, clamped. -/
theorem test_clip_worked_case : (meeting 150000).settleEnd .p3 .south 180000 meetingMotion = ⟨177500, true⟩ := by
  decide +kernel

theorem witness_SettledEndStaysOnHeldTrack :
    ((ready .permitted 100).settleEnd .p1 .south 99500 (motion 100)).clamped = false
      ∧ ((ready .permitted 100).settleEnd .p1 .south 0 (motion 100)).clamped = true
      ∧ (let s := meeting 150000
        let stop := stoppingPoint (s.params .p3) .south 140000 0
        let e := (s.settleEnd .p3 .south 180000 meetingMotion).position
        ∃ q ∈ panels, q ≠ .p3 ∧ ∃ o, s.motionOf q = some o
          ∧ (∃ z ∈ heldRun (s.zt.zones .runway) .p3 .south 140000, o.body.low < z.stop ∧ z.start ≤ o.body.high)
          ∧ greatest meetingMotion.values < least o.values ∧ 177500 = o.body.low - (s.params .p3).clipGap
          ∧ stop ≤ 177500 ∧ stop < e ∧ (177500 : Int) < 180000) := by
  refine ⟨by decide +kernel, by decide +kernel, .p4, by decide, by decide,
    ⟨220000, ⟨179500, 220500⟩, 0, [(.a7, 220000), (.a8, 220000)], false⟩, by decide +kernel⟩

theorem witness_CeilingsComputedByStages :
    let s := ready .permitted 100
    let reduced : State := { s with wm := { s.wm with state := .reduced } }
    let falling := fun (c : CapDescent) => reduced.setAuthority .p1 { reduced.authorityOf .p1 with descent := some c }
    (s.authorityOf .p1).direction = some .south ∧ (s.authorityOf .p1).authorityEnd = some 95000
      ∧ ((motion 100).positions.map (·.1)).Nodup
      ∧ ((s.authorityOf .p1).descent = none ∧ (s.authorityOf .p1).capInUse = 200 ∧ (s.params .p1).maxSpeed = 200)
      ∧ (reduced.wm.state ≠ .calm ∧ (200 : Int) / 2 < (reduced.authorityOf .p1).capInUse)
      ∧ (((falling ⟨200, 100, 60600⟩).authorityOf .p1).descent = some ⟨200, 100, 60600⟩
        ∧ max 0 (((60600 : Int) - 60000) * Direction.south.sign) ≠ 0
        ∧ 100 < min 200 (isqrt (100 * 100 + 2 * 50 * 600)))
      ∧ (((falling ⟨200, 50, 60600⟩).authorityOf .p1).descent = some ⟨200, 50, 60600⟩
        ∧ 100 < min 200 (isqrt (50 * 50 + 2 * 50 * 600))) := by
  decide +kernel

theorem witness_CeilingsWithinBounds :
    let s := ready .permitted 100
    let g := s.params .p1
    let a := s.authorityOf .p1
    a.direction = some .south ∧ a.authorityEnd = some 95000 ∧ 0 ≤ g.maxSpeed ∧ 0 < g.trimWidth
      ∧ (∀ z ∈ s.zt.zones .runway, 0 ≤ z.ceiling) ∧ a.capInUse = g.maxSpeed ∧ a.descent = none := by decide +kernel

theorem witness_ClipOnlyShortens :
    ((ready .permitted 100).authorityOf .p1).direction = some .south
      ∧ ((ready .permitted 100).authorityOf .p1).authorityEnd = some 95000
      ∧ ((ready .permitted 100).authorityOf .p2).authorityEnd = none ∧ isPanel .tray = false
      ∧ (isPanel .p3 = true ∧ (meeting 180000).moverState .p3 = .permitted
        ∧ ((meeting 180000).authorityOf .p3).direction = some .south ∧ ((meeting 180000).authorityOf .p3).authorityEnd = some 180000
        ∧ isPanel (update false 60000 0 true).mover = true ∧ (meeting 180000).motionOf .p3 = some meetingMotion) := by
  decide +kernel

/-- R66: P4's clip at 177,500 replaces an end of 180,000 and leaves one of 177,000. -/
theorem test_clip_shortens :
    (((meeting 180000).clipAll (update false 60000 0 true)).authorityOf .p3).authorityEnd = some 177500
      ∧ (((meeting 177000).clipAll (update false 60000 0 true)).authorityOf .p3).authorityEnd = some 177000 := by
  decide +kernel

theorem witness_AsuWorksInOrderAndTestsSpread :
    let u := update false 60100 100 false
    let s := updated u (ready .stopping 100)
    (s.slu.heldInReset = false ∧ Taken (fun x : PositionUpdate => x.mover == .p1) 0 s.hand.toAsu u []
        ∧ u.motion = some ⟨60100, ⟨19600, 60600⟩, 100, [(.a1, 60100), (.a2, 60100)], false⟩ ∧ s.moverState .p1 = .stopping)
      ∧ (updated u (ready .parked 0)).moverState .p1 = .parked
      ∧ (Taken (fun x : PositionUpdate => x.mover == .p1) 0 (updated firstAxis (ready .parked 0)).hand.toAsu firstAxis []
        ∧ firstAxis.motion = none ∧ firstAxis.lead = none)
      ∧ ∀ x ∈ u.axes, x.validity = .valid ∨ x.validity = .substituted := by
  refine ⟨⟨?_, taken_one ?_, ?_⟩, ?_, ⟨taken_one ?_, ?_⟩, ?_⟩ <;> decide +kernel

theorem witness_SupervisionChecksMotion :
    let s := ready .permitted 100
    let u := update false 60100 100 false
    s.moverState u.mover = .permitted ∧ (s.authorityOf u.mover).direction = some .south
      ∧ (s.authorityOf u.mover).authorityEnd = some 95000 ∧ u.lead = some 60100 := by decide +kernel

/-! ## Witnesses: mover states and stopping -/

theorem witness_MsuEndsStopsAndWatchesRest :
    let consumed := fun (st : MoverState) => handed { Handovers.none with consumed := [.p1] } (ready st 0)
    let u := update false 60100 0 true
    let asks := fun (u : PositionUpdate) (s : State) =>
      s.slu.heldInReset = false ∧ Taken (fun x : PositionUpdate => x.mover == .p1) 0 s.hand.toMsu u [] ∧ u.lead = some 60100
    let parked := fun (q : Int) => updated u ((ready .parked 0).setMover .p1 { MoverRec.initial false with parkedPosition := some q })
    ((consumed .permitted).slu.heldInReset = false
        ∧ Taken (fun x : Mover => x == .p1) 0 (consumed .permitted).hand.consumed .p1 []
        ∧ (consumed .permitted).moverState .p1 = .permitted ∧ ((consumed .permitted).authorityOf .p1).direction = some .south
        ∧ ((consumed .permitted).authorityOf .p1).authorityEnd = some 95000
        ∧ ((consumed .permitted).pos.movers.get .p1).lead = some 60000
        ∧ ((consumed .permitted).pos.movers.get .p1).standstill = true
        ∧ ((ready .permitted 0).params .p1).stopMargin + 200 < (95000 - 60000) * Direction.south.sign)
      ∧ (Taken (fun x : PositionUpdate => x.mover == .p1) 0 (updated firstAxis State.reset).hand.toMsu firstAxis []
        ∧ firstAxis.first = false ∧ firstAxis.lead = none ∧ (State.reset.authorityOf .p1).direction = none)
      ∧ (consumed .stopping).moverState .p1 ≠ .permitted
      ∧ asks u (updated u (ready .permitted 0)) ∧ u.first = false ∧ u.standstill = true
      ∧ asks (update true 60100 0 true) (updated (update true 60100 0 true) (ready .halted 0))
      ∧ asks u (parked 60000) ∧ ((parked 60000).msu.get .p1).parkedPosition = some 60000 ∧ max (60100 - 60000) (60000 - 60100) ≤ (100 : Int)
      ∧ ((parked 59999).msu.get .p1).parkedPosition = some 59999 ∧ (100 : Int) < max (60100 - 59999) (59999 - 60100)
      ∧ ((parked 59999).msu.get .p1).uncommandedOpen = false ∧ ((ready .halted 0).msu.get .p1).parkedPosition = none
      ∧ (ready .tripped 0).moverState .p1 = .tripped := by
  refine ⟨⟨?_, taken_one ?_, ?_⟩, ⟨taken_one ?_, ?_⟩, ?_, ⟨?_, taken_one ?_, ?_⟩, ?_, ?_, ⟨?_, taken_one ?_, ?_⟩,
    ⟨?_, taken_one ?_, ?_⟩, ?_⟩ <;> decide +kernel

/-- A state with one cause in flight to MSU. -/
def caused (c : Cause) : State := handed { Handovers.none with causes := [⟨c, .all, .nothing⟩] } State.reset

theorem witness_CausesReachTheirScope :
    let takes := fun (cl : CauseClass) (c : Cause) => (caused c).slu.heldInReset = false
      ∧ Taken (fun x : CauseMessage => causeClass x.cause == some cl) 0 (caused c).hand.causes ⟨c, .all, .nothing⟩ []
    takes .immediate .safetyLoop ∧ takes .controlled .windLimit ∧ takes .hold .venueSilence := by
  refine ⟨⟨?_, taken_one ?_⟩, ⟨?_, taken_one ?_⟩, ?_, taken_one ?_⟩ <;> decide +kernel

theorem witness_ImmediateCauseActs :
    ((ready .stopping 9).msu.get .p1).state = .stopping ∧ (State.reset.msu.get .p1).state = .parked
      ∧ ((ready .tripped 9).msu.get .p1).state = .tripped := by decide +kernel

theorem witness_ControlledCauseActs :
    let stopping := fun (e : StopEnd) => (ready .stopping 9).setMover .p1 { MoverRec.initial false with
      state := .stopping, stopEnd := some e }
    causeClass .linkSilence = some .controlled ∧ causeClass .windLimit = some .controlled
      ∧ (((ready .permitted 9).msu.get .p1).state = .permitted ∧ ((ready .permitted 9).authorityOf .p1).direction = some .south
        ∧ ((ready .permitted 9).authorityOf .p1).authorityEnd = some 95000
        ∧ ((ready .permitted 9).pos.movers.get .p1).lead = some 60000)
      ∧ (((stopping .halted).msu.get .p1).state = .stopping ∧ ((stopping .halted).msu.get .p1).stopEnd = some .halted)
      ∧ ((stopping .parked).msu.get .p1).stopEnd = some .parked ∧ ((ready .halted 9).msu.get .p1).state = .halted := by
  decide +kernel

theorem witness_DeviceChangeTrips :
    let s := fun (c : DeviceChange) => handed { Handovers.none with deviceChanges := [c] } (ready .permitted 9)
    ((s ⟨.armed, .standby⟩).slu.heldInReset = false ∧ (s ⟨.armed, .standby⟩).hand.deviceChanges = ⟨.armed, .standby⟩ :: []
        ∧ (s ⟨.armed, .standby⟩).moverState .p1 = .permitted)
      ∧ (s ⟨.armed, .disarming⟩).hand.deviceChanges = ⟨.armed, .disarming⟩ :: [] := by decide +kernel

theorem witness_TimersRaiseFaultsThatLock :
    let k := fun (relay contact : Bool) => State.reset.setMover .p1 { MoverRec.initial contact with
      tripTimer := .running 6000, readbackTimer := true, relayClosed := relay }
    ((device .arming).dsu.state = .arming ∧ State.reset.dsu.state = .unconfigured)
      ∧ (State.reset.slu.heldInReset = false ∧ (State.reset.msu.get .p1).tripTimer.isRunning = false
        ∧ (State.reset.msu.get .p1).readbackTimer = false)
      ∧ (((k true true).msu.get .p1).tripTimer.isRunning = true ∧ ((k true true).msu.get .p1).readbackTimer = true
        ∧ ((k true true).msu.get .p1).relayClosed = true)
      ∧ ((k false true).msu.get .p1).relayClosed = false ∧ ((k false true).msu.get .p1).readbackClosed = true := by
  decide +kernel

theorem witness_StopAndClear :
    let stop := fun (m : Byte) (s : State) => asked .venue 0x13 [m] s
    let clear := fun (s : State) => asked .roof 0x14 [1] s
    let halted := fun (cs : List Cause) => (ready .halted 0).setMover .p1 { MoverRec.initial false with
      state := .halted, haltCauses := cs }
    ((stop 6 .reset).Served .venue (rq 0x13 [6]) .stop ∧ ∀ m, fieldAt [6] 0 ≠ moverNumber m)
      ∧ ((stop 1 (ready .permitted 9)).Served .venue (rq 0x13 [1]) .stop ∧ fieldAt [1] 0 = moverNumber .p1
        ∧ (stop 1 (ready .permitted 9)).moverState .p1 = .permitted)
      ∧ (stop 1 (ready .stopping 9)).Served .venue (rq 0x13 [1]) .stop
      ∧ (stop 1 .reset).Served .venue (rq 0x13 [1]) .stop
      ∧ ((clear .reset).Served .roof (rq 0x14 [1]) .clear ∧ (clear .reset).dsu.state ≠ .standby
        ∧ (clear .reset).dsu.state ≠ .armed)
      ∧ ((clear (halted [.windLimit, .linkSilence])).Served .roof (rq 0x14 [1]) .clear
        ∧ ((clear (halted [.windLimit, .linkSilence])).msu.get .p1).haltCauses = [.windLimit] ++ .linkSilence :: []
        ∧ ((clear (halted [.windLimit, .linkSilence])).spu.ports.get .roof).link ≠ .live)
      ∧ ((clear (halted [.overspeed])).msu.get .p1).haltCauses = [.overspeed]
      ∧ ((clear (halted [.overspeed])).pos.movers.get .p1).standstill = true
      ∧ (clear (ready .tripped 0)).Served .roof (rq 0x14 [1]) .clear := by
  refine ⟨⟨heard_served ?_, fun m => ?_⟩, ⟨heard_served ?_, ?_⟩, heard_served ?_, heard_served ?_, ⟨heard_served ?_, ?_⟩,
    ⟨heard_served ?_, ?_⟩, ?_, ?_, heard_served ?_⟩
  case refine_2 => cases m <;> decide
  all_goals decide +kernel

/-! ## Witnesses: position readers -/

/-- Axis 1's record changed. -/
def withAxis1 (f : AxisRec → AxisRec) (s : State) : State := s.setAxis .a1 (f (s.pos.axes.get .a1))

/-- Axis 1's readers with gap timers running or not. -/
def gaps (primary check : Bool) (s : State) : State :=
  s.withPos ((s.pos.setReader .a1 .primary ⟨some 9, some 60000, some .ok, false, primary⟩).setReader .a1 .check
    ⟨some 4, some 60010, some .ok, false, check⟩)

theorem witness_ReadingsSetAsideAndTimersExpire :
    let inState := fun (v : Validity) => withAxis1 (fun r => { r with validity := v, lossRunning := true }) (ready .permitted 9)
    let edge := fun (x : Int) => { reading x with address := readerAddress .a1 .primary }
    (State.reset.slu.heldInReset = false ∧ (⟨false, 1, 0, 0, .ok⟩ : ReadingFrame).checkMatches = false
        ∧ (⟨true, 0, 0, 0, .ok⟩ : ReadingFrame).address < 1 ∧ 24 < (⟨true, 25, 0, 0, .ok⟩ : ReadingFrame).address)
      ∧ ((edge (-1)).checkMatches = true ∧ (edge (-1)).address = readerAddress .a1 .primary ∧ (edge (-1)).position < 0
        ∧ State.reset.pathLengthOf .a1 < (edge 360001).position ∧ ¬ State.reset.pathLengthOf .a1 < (edge 360000).position)
      ∧ ((inState .invalid).pos.axes.get .a1).validity = .invalid
      ∧ ((gaps true true State.reset).pos.reader .a1 .primary).lastSequence = some 9
      ∧ (State.reset.pos.reader .a1 .primary).gapRunning = false
      ∧ (((gaps true true (inState .valid)).pos.reader .a1 .primary).gapRunning = true
        ∧ ((gaps true true (inState .valid)).pos.axes.get .a1).validity = .valid
        ∧ ((gaps true true (inState .valid)).pos.check.get .a1).gapRunning = true
        ∧ ((gaps true true (inState .valid)).pos.check.get .a1).lastPosition = some 60010
        ∧ ((gaps true true (inState .valid)).pos.check.get .a1).lastSequence = some 4)
      ∧ ((gaps true false (inState .valid)).pos.check.get .a1).gapRunning = false
      ∧ ((gaps true true (inState .substituted)).pos.axes.get .a1).validity = .substituted
      ∧ (State.reset.pos.axes.get .a1).lossRunning = false ∧ ((inState .holding).pos.axes.get .a1).lossRunning = true := by
  decide +kernel

theorem witness_AxisFollowsGoodReadings :
    let w : List WindowEntry := (List.range 8).map fun (k : Nat) => ⟨1000 * (k : Int), BitVec.ofNat 8 k⟩
    (∀ v : Validity, ({ AxisRec.initial with validity := v } : AxisRec).validity = v)
      ∧ ({ AxisRec.initial with recovery := 3 } : AxisRec).recovery < 4
      ∧ 4 ≤ ({ AxisRec.initial with recovery := 4 } : AxisRec).recovery
      ∧ (w.length < 9 ∧ w.length = 8 ∧ ((1#8) - (0#8)).toNat = 1 ∧ ((4#8) - (0#8)).toNat = 4)
      ∧ (((0#8) - (0#8)).toNat = 0 ∧ 5 ≤ ((5#8) - (0#8)).toNat ∧ 5 ≤ ((255#8) - (0#8)).toNat) := by
  refine ⟨fun _ => rfl, ?_⟩
  decide

theorem witness_GoodReadingTaken :
    let s := withAxis1 (fun r => { r with freshCheck := true, discrepancies := 2 }) (gaps true true (ready .permitted 9))
    let f := { reading 60200 with address := readerAddress .a1 .primary }
    let w := (s.pos.axes.get .a1).afterGood .primary ⟨60200, 5⟩
    (s.slu.heldInReset = false ∧ f.checkMatches = true ∧ f.address = readerAddress .a1 .primary ∧ f.status ≠ .fault
        ∧ 0 ≤ f.position ∧ f.position ≤ s.pathLengthOf .a1 ∧ (s.pos.reader .a1 .primary).lastSequence ≠ some f.sequence)
      ∧ ((s.pos.axes.get .a1).freshCheck = true ∧ 2 ≤ (s.pos.axes.get .a1).discrepancies
        ∧ (s.pos.check.get .a1).lastPosition = some 60010
        ∧ s.cs.active.general.readerTolerance + max w.speed (-w.speed) * 40 / 1000 < max (60200 - 60010) (60010 - 60200))
      ∧ ((ready .permitted 9).pos.axes.get .a1).freshCheck = false
      ∧ ((gaps true true (ready .permitted 9)).pos.axes.get .a1).validity = .valid := by decide +kernel

/-! ## Witnesses: operating states, arming and the safety lines -/

/-- Every axis Valid in Standby, so that ARM is not refused. -/
def armable (contact : Bool) : State :=
  let s := (device .standby).setMover .p1 (.initial contact)
  { s with pos := { s.pos with axes := .ofFn fun _ => { AxisRec.initial with validity := .valid, position := some 0 } } }

theorem forall_mover {P : Mover → Prop} : (∀ m, P m) ↔ P .p1 ∧ P .p2 ∧ P .p3 ∧ P .p4 ∧ P .tray :=
  ⟨fun h => ⟨h _, h _, h _, h _, h _⟩, fun h m => by cases m <;> simp [h]⟩

theorem forall_axis {P : Axis → Prop} : (∀ a, P a) ↔ P .a1 ∧ P .a2 ∧ P .a3 ∧ P .a4 ∧ P .a5 ∧ P .a6 ∧ P .a7 ∧ P .a8
    ∧ P .a9 ∧ P .a10 ∧ P .a11 ∧ P .a12 :=
  ⟨fun h => ⟨h _, h _, h _, h _, h _, h _, h _, h _, h _, h _, h _, h _⟩, fun h a => by cases a <;> simp [h]⟩

theorem witness_ArmBeginsTheRelayTest :
    let arm := fun (s : State) => asked .venue 0x31 [] s
    let serves := fun (s : State) => (arm s).Served .venue (rq 0x31 []) .arm
    let stalled := fun (s : State) => s.setBrace .east { s.brc.braces.get .east with state := .stalled }
    (serves (device .arming) ∧ serves (device .armed) ∧ serves .reset ∧ serves (device .disarming) ∧ serves (device .standby))
      ∧ (serves { device .standby with slu := { State.reset.slu with loop := .discrepant } })
      ∧ ((arm (device .standby)).pos.axes.get .a1).validity ≠ .valid
      ∧ (serves (stalled (armable false)) ∧ (arm (stalled (armable false))).braceState .east = .stalled)
      ∧ (serves (moverIn .p2 .tripped (armable false)) ∧ (moverIn .p2 .tripped (armable false)).moverState .p2 = .tripped)
      ∧ ((serves (armable false) ∧ (arm (armable false)).dsu.state = .standby)
        ∧ ((arm (armable false)).slu.channels.get .a).raw = true ∧ ((arm (armable false)).slu.channels.get .b).raw = true
        ∧ (arm (armable false)).slu.loop = .closed ∧ (∀ a, ((arm (armable false)).pos.axes.get a).validity = .valid)
        ∧ (arm (armable false)).anyStalled = false ∧ (∀ m, (arm (armable false)).moverState m ≠ .tripped)
        ∧ ((arm (armable false)).msu.get .p1).readbackClosed = false)
      ∧ serves (armable true) ∧ ((arm (armable true)).msu.get .p1).readbackClosed = true := by
  simp only [forall_mover, forall_axis]
  refine ⟨⟨heard_served ?_, heard_served ?_, heard_served ?_, heard_served ?_, heard_served ?_⟩, heard_served ?_, ?_,
    ⟨heard_served ?_, ?_⟩, ⟨heard_served ?_, ?_⟩, ⟨⟨heard_served ?_, ?_⟩, ?_⟩, heard_served ?_, ?_⟩ <;> decide +kernel

/-- Arming at a phase of the relay test. -/
def testing (m : Mover) (ph : Phase) : State :=
  { device .arming with dsu := { (device .arming).dsu with armingStep := some (m, ph), stepTimer := true } }

theorem witness_RelayTestPassesAndFails :
    let changed := fun (v : ValidityChange) => handed { Handovers.none with validity := [v] } (testing .p2 .close)
    (held.slu.heldInReset = true ∧ State.reset.dsu.armingStep ≠ some (.p1, .close))
      ∧ ((testing .p1 .close).slu.heldInReset = false ∧ (testing .p1 .close).dsu.armingStep = some (.p1, .close))
      ∧ ((testing .p1 .open).dsu.armingStep = some (.p1, .open) ∧ moverNumber .p2 = moverNumber .p1 + 1
        ∧ ((testing .p1 .open).msu.get .p2).readbackClosed = false)
      ∧ (testing .tray .open).dsu.armingStep = some (.tray, .open)
      ∧ (State.reset.dsu.stepTimer = false ∧ (testing .p1 .open).dsu.stepTimer = true)
      ∧ (Taken (fun x : ValidityChange => x.axis == .a3) 0 (changed ⟨.a3, .valid, .holding⟩).hand.validity
          ⟨.a3, .valid, .holding⟩ [] ∧ (changed ⟨.a3, .valid, .holding⟩).dsu.state = .arming
        ∧ Validity.holding ≠ .valid) := by
  refine ⟨?_, ?_, ?_, ?_, ?_, taken_one ?_, ?_⟩ <;> decide +kernel

theorem witness_DeviceLeavesArmedAndPermits_states : DeviceState.standby ≠ .locked ∧ DeviceState.armed ≠ .locked := by decide

theorem witness_DeviceLeavesArmedAndPermits :
    let sb := fun (s : State) => (asked .venue 0x32 [] s).Served .venue (rq 0x32 []) .standby
    let permits := fun (v : Byte) => (asked .venue 0x30 [v] .reset).Served .venue (rq 0x30 [v]) .permits
    let changed := fun (d : DeviceState) (s : State) =>
      handed { Handovers.none with moverChanges := [⟨.p1, .parked⟩] } { s with dsu := { s.dsu with state := d } }
    (sb .reset ∧ sb (device .standby) ∧ (sb (testing .p1 .open) ∧ (testing .p1 .open).dsu.armingStep = some (.p1, .open))
        ∧ (sb (device .armed) ∧ ∀ m, (device .armed).moverState m = .parked)
        ∧ sb (ready .tripped 9) ∧ (ready .tripped 9).moverState .p1 = .tripped)
      ∧ ((changed .disarming .reset).slu.heldInReset = false
        ∧ (changed .disarming .reset).hand.moverChanges = ⟨.p1, .parked⟩ :: [] ∧ (changed .disarming .reset).dsu.state = .disarming
        ∧ ∀ m, (changed .disarming .reset).moverState m = .parked)
      ∧ (changed .armed .reset).dsu.state ≠ .disarming
      ∧ permits 0 ∧ permits 1 ∧ permits 2 ∧ permits 255 := by
  simp only [forall_mover]
  refine ⟨⟨heard_served ?_, heard_served ?_, ⟨heard_served ?_, ?_⟩, ⟨heard_served ?_, ?_⟩, heard_served ?_, ?_⟩, ?_, ?_,
    heard_served ?_, heard_served ?_, heard_served ?_, heard_served ?_⟩ <;> decide +kernel

/-- A loop with given filtered channels, channel A at a raw level with its filter timer running, in a loop state. -/
def loopOf (rawA filteredB : Bool) (st : LoopState) (d : DeviceState) : State :=
  { device d with slu := { State.reset.slu with
    channels := ⟨⟨rawA, !rawA, true⟩, ⟨filteredB, filteredB, false⟩⟩, loop := st, discrepancyTimer := st == .discrepant } }

theorem witness_LoopStateFollowsChannels :
    let a := fun (s : State) => s.slu.channels.get .a
    let b := fun (s : State) => (s.slu.channels.get .b).filtered
    ((a .reset).raw = true ∧ State.reset.slu.heldInReset = false ∧ held.slu.heldInReset = true ∧ (a .reset).timer = false)
      ∧ ((a (loopOf true true .opened .standby)).timer = true ∧ (a (loopOf true true .opened .standby)).raw = true
        ∧ b (loopOf true true .opened .standby) = true)
      ∧ ((loopOf false true .closed .armed).slu.loop = .closed ∧ (a (loopOf false true .closed .armed)).raw ≠
          b (loopOf false true .closed .armed) ∧ (loopOf false true .closed .armed).dsu.state ≠ .arming)
      ∧ (loopOf false true .closed .arming).dsu.state = .arming
      ∧ ((loopOf false false .discrepant .armed).slu.loop ≠ .opened ∧ (a (loopOf false false .discrepant .armed)).raw = false
        ∧ b (loopOf false false .discrepant .armed) = false)
      ∧ (loopOf false true .discrepant .armed).slu.discrepancyTimer = true
      ∧ State.reset.slu.discrepancyTimer = false := by decide +kernel

theorem witness_LoopOpeningsAndDriveTripsAct :
    let tripping := fun (raw filtered : Bool) => State.reset.withSlu { State.reset.slu with
      trips := State.reset.slu.trips.set .p1 ⟨raw, filtered, true⟩ }
    let trip := fun (s : State) => s.slu.trips.get .p1
    (State.reset.dsu.state = .unconfigured ∧ (device .disarming).dsu.state = .disarming
        ∧ (testing .p3 .close).dsu.state = .arming ∧ (testing .p3 .close).dsu.armingStep = some (.p3, .close))
      ∧ ((trip .reset).raw = false ∧ (trip .reset).timer = false)
      ∧ ((tripping true false).slu.heldInReset = false ∧ (trip (tripping true false)).timer = true
        ∧ (trip (tripping true false)).raw = true ∧ (trip (tripping true false)).filtered = false)
      ∧ (trip (tripping false true)).raw = false := by decide +kernel

/-! ## Witnesses: the portal braces -/

/-- Braces in given states with given switches, an operation in flight or none. -/
def braces (east west : BraceRec) (op : Option BraceDirection) (s : State) : State :=
  { s with brc := ⟨⟨east, west⟩, op, false, false⟩ }

/-- A brace at rest at an end. -/
def atEnd (engaged : Bool) : BraceRec :=
  ⟨if engaged then .engaged else .withdrawn, false, false, .stopped, engaged, !engaged⟩

/-- A mover's body as ZT last took it. -/
def bodyAt (m : Mover) (low high : Int) (s : State) : State :=
  { s with zt := { s.zt with body := s.zt.body.set m (some ⟨low, high⟩) } }

/-- P1's body over the parking frame. -/
def onFrame (s : State) : State := bodyAt .p1 200000 241000 s

/-- A brace being engaged, between its ends. -/
def engaging : BraceRec := ⟨.engaging, true, false, .running 120, false, false⟩

theorem witness_BraceRequestsStartOperations :
    let asks := fun (v : Byte) (s : State) => (asked .venue 0x20 [v] s).Served .venue (rq 0x20 [v]) .brace
    let free := braces (atEnd false) (atEnd false) none (device .armed)
    let windy := onFrame free
    let tray := { free with zt := { free.zt with tray := free.zt.tray.modify 13 fun z => { z with holder := some .tray } } }
    let parked := { free with zt := { free.zt with runway := free.zt.runway.modify 19 fun z => { z with holder := some .p1 } } }
    (asks 1 .reset ∧ asks 0 (device .armed) ∧ fieldAt [3] 0 ≠ 1 ∧ fieldAt [3] 0 ≠ 2)
      ∧ (asks 1 (braces engaging engaging (some .engage) (device .armed)))
      ∧ (asks 2 (braces engaging engaging (some .engage) (device .armed)) ∧ fieldAt [2] 0 = braceDirectionNumber .withdraw)
      ∧ (asks 1 (braces { atEnd true with state := .stalled } (atEnd true) none (device .armed)))
      ∧ (asks 2 free ∧ free.braceState .east = .withdrawn ∧ free.braceState .west = .withdrawn)
      ∧ (asks 1 tray ∧ tray.zt.engageConditions = false) ∧ (asks 2 parked ∧ parked.zt.parkingInUse = true)
      ∧ (windy.zt.panelOverEngagedNeed windy.zt.body = true ∧ windy.wm.state = .unknown)
      ∧ (asks 1 free ∧ free.zt.engageConditions = true) := by
  refine ⟨⟨heard_served ?_, heard_served ?_, ?_⟩, heard_served ?_, ⟨heard_served ?_, ?_⟩, heard_served ?_,
    ⟨heard_served ?_, ?_⟩, ⟨heard_served ?_, ?_⟩, ⟨heard_served ?_, ?_⟩, ?_, heard_served ?_, ?_⟩ <;> decide +kernel

/-- East being withdrawn, West withdrawn, and an engage owed. -/
def owing (d : DeviceState) : State :=
  let s := device d
  { s with brc := ⟨⟨⟨.withdrawing, false, true, .running 120, false, false⟩, atEnd false⟩, some .withdraw, true, true⟩ }

theorem witness_BraceFollowsItsSwitches :
    let b := fun (e w : Bool) (k : BraceRec) => ({ k with engagedSwitch := e, withdrawnSwitch := w } : BraceRec).reading
    let at2 := fun (x y : BraceRec) (op : Option BraceDirection) => braces x y op (device .armed)
    (held.slu.heldInReset = true ∧ (at2 (atEnd true) (atEnd true) none).slu.heldInReset = false
        ∧ (at2 (atEnd true) (atEnd true) none).brc.operation = none)
      ∧ (b true false (atEnd false) = .engaged ∧ b false true (atEnd true) = .withdrawn ∧ b false false (atEnd true) = .between
        ∧ b true true (atEnd true) = .conflict)
      ∧ ((State.reset.brc.braces.get .east).state = .unknown ∧ (atEnd true).state = .engaged ∧ (atEnd false).state = .withdrawn)
      ∧ (engaging.state = movingState .engage ∧ engaging.reading ≠ targetReading .engage
        ∧ (atEnd true).state = targetState .engage ∧ (atEnd true).reading = targetReading .engage)
      ∧ ((at2 engaging (atEnd true) (some .engage)).brc.operation = some .engage
        ∧ (at2 engaging (atEnd true) (some .engage)).braceState (otherBrace .east) = targetState .engage
        ∧ (at2 engaging engaging (some .engage)).braceState (otherBrace .east) ≠ targetState .engage)
      ∧ ((owing .armed).brc.operation = some .withdraw ∧ (owing .armed).brc.startPending = true
        ∧ (owing .armed).braceState (otherBrace .east) = targetState .withdraw
        ∧ ((owing .armed).brc.braces.get .east).state = movingState .withdraw ∧ (owing .armed).dsu.state = .armed
        ∧ (owing .armed).zt.engageConditions = true ∧ (owing .standby).dsu.state ≠ .armed
        ∧ (bodyAt .tray 130000 230000 (owing .armed)).zt.engageConditions = false) := by decide +kernel

theorem witness_OperationsStopAndStallsClear :
    let s := braces engaging (atEnd true) (some .engage) (device .armed)
    let cut := fun (s : State) => handed { Handovers.none with cuts := [.leftArmed] } s
    let clears := fun (v : Byte) (s : State) => (asked .venue 0x21 [v] s).Served .venue (rq 0x21 [v]) .braceClear
    (State.reset.slu.heldInReset = false ∧ (State.reset.brc.braces.get .east).timer.isRunning = false)
      ∧ ((s.brc.braces.get .east).timer.isRunning = true ∧ s.brc.operation = some .engage)
      ∧ ((cut .reset).hand.cuts = .leftArmed :: [] ∧ (cut .reset).brc.operation = none ∧ (cut s).brc.operation = some .engage)
      ∧ clears 3 .reset ∧ clears 0 .reset ∧ clears 2 .reset
      ∧ (braces { engaging with state := .stalled } (atEnd true) none .reset).braceState .east = .stalled := by
  refine ⟨?_, ?_, ?_, heard_served ?_, heard_served ?_, heard_served ?_, ?_⟩ <;> decide +kernel

theorem witness_DemandIsTestedAndServed :
    let on := fun (e : DemandEvent) (s : State) => handed { Handovers.none with demandEvents := [e] } s
    let standing := fun (s : State) => on (.closure 90 0 .calm) (onFrame s)
    let s := standing (braces (atEnd false) (atEnd false) none (device .armed))
    let set := fun (t : State) => { t with brc := { t.brc with demand := true } }
    let u : PositionUpdate := { update false 240500 0 true with body := some ⟨200000, 241000⟩ }
    let moved := on (.bodyChange u) State.reset
    (s.slu.heldInReset = false ∧ Taken (fun x : DemandEvent => x.source == .closure) 0 s.hand.demandEvents (.closure 90 0 .calm) []
        ∧ s.brc.demand = false ∧ s.zt.panelOverEngagedNeed s.zt.body = true ∧ s.bothBraces .engaged = false
        ∧ s.cs.active.general.braceFreeMean ≤ 90)
      ∧ (Taken (fun x : DemandEvent => x.source == .bodyChange .p1) 0 moved.hand.demandEvents (.bodyChange u) []
        ∧ moved.zt.panelOverEngagedNeed (moved.viewOn (.bodyChange u)).body = true
        ∧ moved.zt.panelOverEngagedNeed moved.zt.body = false ∧ moved.wm.state = .unknown
        ∧ moved.demandWaits (.bodyChange .p1) = false)
      ∧ (let both := handed { Handovers.none with demandEvents := [.bodyChange u, .holdReport] } State.reset
        both.demandWaits (.bodyChange .p1) = true ∧ both.demandWaits .holdReport = false
          ∧ Taken (fun x : DemandEvent => x.source == .holdReport) 0 both.hand.demandEvents .holdReport [.bodyChange u]
          ∧ Taken (fun x : DemandEvent => x.source == .bodyChange .p1) 0 both.hand.demandEvents (.bodyChange u) [.holdReport])
      ∧ ((set s).brc.demand = true ∧ (set (standing (braces (atEnd true) (atEnd true) none (device .armed)))).bothBraces .engaged = true)
      ∧ (standing (braces engaging engaging (some .engage) (device .armed))).brc.operation = some .engage
      ∧ (standing (braces (atEnd false) (atEnd false) (some .withdraw) (device .armed))).brc.operation = some .withdraw
      ∧ (s.brc.operation = none ∧ s.mayEngage = true)
      ∧ (standing (braces (atEnd false) (atEnd false) none (device .standby))).dsu.state ≠ .armed := by
  refine ⟨⟨?_, taken_one ?_, ?_⟩, ⟨taken_one ?_, ?_⟩, ⟨?_, ?_, taken_of_takeNth ?_, taken_of_takeNth ?_⟩, ?_⟩ <;>
    decide +kernel

/-! ## Witnesses: wind and the site table -/

/-- A wind state with a history of n entries of a value, no pulses and given failed marks. -/
def wind (n : Nat) (x : Int) (st : WindState) (calm : Nat) (failed : Bool) : State :=
  { State.reset with wm := ⟨⟨⟨0, 0, 30, failed⟩, ⟨10, 0, 30, failed⟩⟩, List.replicate n x, x, x, st, calm⟩ }

theorem witness_WindClosureSettlesTheWind :
    (State.reset.slu.heldInReset = false ∧ (wind 60 0 .calm 0 false).slu.heldInReset = false)
      ∧ ((wind 0 0 .unknown 0 true).wm.history.length < 60 ∧ 60 ≤ (wind 60 0 .calm 0 false).wm.history.length)
      ∧ (((wind 0 0 .calm 0 true).wm.anemometers.get .first).count = 0
        ∧ ((wind 0 0 .calm 0 true).wm.anemometers.get .second).count ≠ 0
        ∧ ((wind 0 0 .calm 0 true).wm.anemometers.get .second).failed = true)
      ∧ ((wind 60 0 .limit 118 false).wm.calmCount : Int) + 1 < State.reset.cs.active.general.releaseCount
      ∧ State.reset.cs.active.general.releaseCount ≤ ((wind 60 0 .limit 119 false).wm.calmCount : Int) + 1 := by
  decide +kernel

theorem witness_ConfigWriteAndRead :
    let write := fun (k : List Byte) (s : State) => (asked .venue 0x51 (k ++ [0, 0, 0, 9]) s).Served .venue
      (rq 0x51 (k ++ [0, 0, 0, 9])) .configWrite
    let read := fun (b : List Byte) (s : State) => (asked .venue 0x50 b s).Served .venue (rq 0x50 b) .configRead
    (write [1, 0, 1] (device .armed) ∧ write [1, 0, 14] .reset ∧ keyAt [1, 0, 14] 0 ∉ serialKeys)
      ∧ (write [6, 5, 11] (device .configuring) ∧ (⟨6, 5, 11⟩ : Key) ∈ serialKeys)
      ∧ (write [1, 0, 0] .reset ∧ State.reset.dsu.state = .unconfigured ∧ write [1, 0, 0] (device .standby)
        ∧ (device .standby).allAtRest = true)
      ∧ (read [2, 1, 0, 1, 1] .reset ∧ 1 < fieldAt [2, 1, 0, 1, 1] 0)
      ∧ (read [0, 1, 0, 1, 0] .reset ∧ read [0, 1, 0, 1, 11] .reset)
      ∧ (read [1, 1, 0, 1, 1] .reset ∧ State.reset.cs.working = none)
      ∧ (read [0, 6, 5, 11, 10] .reset ∧ serialKeys = serialKeys.dropLast ++ ⟨6, 5, 11⟩ :: []) := by
  refine ⟨⟨heard_served ?_, heard_served ?_, ?_⟩, ⟨heard_served ?_, ?_⟩, ⟨heard_served ?_, ?_, heard_served ?_, ?_⟩,
    ⟨heard_served ?_, ?_⟩, ⟨heard_served ?_, heard_served ?_⟩, ⟨heard_served ?_, ?_⟩, heard_served ?_, ?_⟩ <;> decide +kernel

/-- Configuring with the default image as working copy, but for one entry. -/
def configuring (k : Key) (v : Int) : State :=
  { device .configuring with cs := { State.reset.cs with working := some (defaultImage.setEntry k v) } }

theorem witness_EntriesRangedNormalisedAndChecked :
    (36 < 64 ∧ defaultImage.value ⟨2, 0, 2⟩ ≤ (36 : Nat)) ∧ ((35 : Nat) < defaultImage.value ⟨2, 0, 2⟩)
      ∧ ((35 : Nat) : Int) + 1 = defaultImage.value ⟨2, 0, 2⟩ ∧ (⟨4, 36, 1⟩ : Key) ∈ serialKeys := by decide +kernel

theorem witness_CommitValidatesAndWrites :
    let commits := fun (s : State) => (asked .venue 0x52 [] s).Served .venue (rq 0x52 []) .commit
    let writing : State := { device .configuring with cs := { State.reset.cs with
      working := some defaultImage, commit := some ⟨7, 0#32⟩ } }
    (commits .reset ∧ State.reset.dsu.state ≠ .configuring)
      ∧ (commits (configuring ⟨1, 0, 1⟩ 4) ∧ serialKeys = [] ++ ⟨1, 0, 1⟩ :: serialKeys.tail
        ∧ entryOk (defaultImage.setEntry ⟨1, 0, 1⟩ 4) ⟨1, 0, 1⟩ = false)
      ∧ (commits (configuring ⟨1, 0, 1⟩ 5) ∧ ∀ k ∈ serialKeys, entryOk (defaultImage.setEntry ⟨1, 0, 1⟩ 5) k = true)
      ∧ (writing.slu.heldInReset = false ∧ writing.cs.commit = some ⟨7, 0#32⟩ ∧ writing.cs.working = some defaultImage) := by
  refine ⟨⟨heard_served ?_, ?_⟩, ⟨heard_served ?_, ?_⟩, ⟨heard_served ?_, ?_⟩, ?_⟩ <;> decide +kernel

/-! ## Witnesses: the laws every step keeps -/

/-- P1 under authority with a command waiting, the wind not yet known. -/
def waiting (c : Instr) : State := (running .permitted 9).withPending [c]

/-- A zone that is free or held by a mover of its path, with an open barrier, is sound. -/
theorem plainZone_sound {p : Path} {z : ZoneRec} (h : z.resting = [] ∧ z.waiting = [] ∧ z.clearingFor = none
    ∧ z.barrier = .opened ∧ (z.holder = none ∨ z.holder.map pathOf = some p)) : z.Sound p := by
  obtain ⟨h1, h2, h3, h4, h5⟩ := h
  simp only [ZoneRec.Sound, h1, h2, h3, h4]
  refine ⟨.inr trivial, nofun, nofun, nofun, fun m hm => ?_⟩
  obtain h | h | h | h := hm
  · simpa [h] using h5
  all_goals cases h

theorem witness_EveryStepKeepsZonesSound :
    (waiting (.positionUpdateZT .p1)).ZonesSound ∧ ∃ t, step (waiting (.positionUpdateZT .p1)) = .next t := by
  refine ⟨fun p z hz => plainZone_sound ?_, _, rfl⟩
  revert z
  cases p <;> decide +kernel

theorem witness_EveryStepKeepsMoversSound :
    (waiting (.tripTimerExpiry .p1)).MoversSound ∧ ∃ t, step (waiting (.tripTimerExpiry .p1)) = .next t := by
  refine ⟨⟨fun m => ?_, by decide +kernel, by decide +kernel⟩, _, rfl⟩
  cases m <;> refine ⟨?_, ?_, ?_⟩ <;> simp only [MoverRec.Sound, Authority.Sound, State.RelaySound] <;> decide +kernel

theorem witness_EveryStepKeepsBracesSound :
    (waiting (.operationTimerExpiry .east)).BracesSound ∧ ∃ t, step (waiting (.operationTimerExpiry .east)) = .next t := by
  refine ⟨fun b => ?_, _, rfl⟩
  cases b <;> simp only [BraceRec.Sound] <;> decide +kernel

theorem witness_EveryStepKeepsRecordsWithinBounds :
    let s := waiting .intervalClosure
    s.AxesSound ∧ s.wm.Sound ∧ s.PortsSound ∧ s.NoticesSound ∧ s.fr.Sound ∧ ∃ t, step s = .next t := by
  refine ⟨fun a => ?_, ⟨fun x => ?_, ?_⟩, ⟨fun p => ?_, ?_⟩, fun p => ?_, ?_, _, rfl⟩
  · cases a <;> simp only [AxisRec.Sound] <;> decide +kernel
  · cases x <;> decide +kernel
  · decide +kernel
  · cases p <;> simp only [PortRec.Sound] <;> decide +kernel
  · decide +kernel
  · cases p <;> simp only [NoticeQueue.Sound] <;> decide +kernel
  · simp only [Fr.Sound]
    exact ⟨by decide +kernel, by decide +kernel, by decide +kernel⟩

/-! ## The spec's worked numbers -/

/-- The state a command leads to. -/
def after (o : Host.Outcome State Fault Refusal) (s : State) : State :=
  match o with
  | .next t => t
  | .fault _ | .refused _ => s

/-- The code and body of the oldest reply a port holds. -/
def replied (p : Port) (s : State) : Option (Byte × List Byte) := (s.spu.ports.get p).output.head?.map fun f => (f.code, f.body)

/-- P4's and the Tray's parameters in the default image (R5). -/
def panel : MoverParams := defaultImage.movers.get .p4

/-- The Tray's. -/
def trayParams : MoverParams := defaultImage.movers.get .tray

/-- Section 4.7, stages 1 and 3, and the table of the approach to the parking frame. -/
theorem test_isqrt : isqrt 4920000 = 2218 ∧ isqrt 934400 = 966 ∧ isqrt 134400 = 366 ∧ isqrt 34400 = 185 ∧ isqrt 14400 = 120 := by
  decide

/-- Section 5.6, the rows of the east axis, and section 5.7, the four lines. -/
theorem test_trim_rows :
    [40, 140, 149, 150, 200, 240, 250].map (trimmed panel 200) = [200, 100, 91, 90, 40, 0, 0]
      ∧ [60, 0, 25, 90, 105, 130].map (trimmed trayParams 80) = [56, 80, 80, 32, 20, 0] := by decide

/-- Section 4.8: the descent point and the rows of the table. -/
theorem test_cap_descent :
    (startDescent panel .south 150000 200 100).point = 150600
      ∧ [150000, 150300, 150400, 150500, 150550, 150600].map (fun x =>
          (workDescent panel .south x { Authority.initial with descent := some ⟨200, 100, 150600⟩ }).capInUse)
        = [200, 200, 173, 141, 122, 100] := by decide

/-- Section 5.7: braking and G12 ahead. -/
theorem test_tray_ceilings :
    let zs := freshZones defaultImage.trayPath
    vBrake trayParams .south 110090 149500 = 1247
      ∧ vHere trayParams zs ⟨9500, 110590⟩ = 80 ∧ vAhead trayParams .south zs ⟨9500, 110590⟩ 110090 149500 80 = 598 := by
  decide +kernel

/-- Section 6.10, step 1. -/
theorem test_stop_target :
    stopTargetOf panel .south 200000 120 229500 = 200444 ∧ vBrake panel .south 200000 200444 = 120 := by decide

/-- The start of section 4.7: P4 Parked at 180,000 and 179,960, holding U13 to U22, Calm, both braces Engaged. -/
def leaving : State :=
  let s := device .armed
  let at_ := fun (x : Int) (r : AxisRec) => { r with validity := .valid, position := some x }
  let held := fun (z : ZoneRec) => if 130000 ≤ z.start ∧ z.start < 230000 then { z with holder := some .p4 } else z
  { s with
    pos := { s.pos with
      axes := (s.pos.axes.modify .a7 (at_ 180000)).modify .a8 (at_ 179960)
      movers := s.pos.movers.set .p4 ⟨some ⟨139460, 180500⟩, some 180000, some 180000, 0, true⟩ }
    zt := { s.zt with runway := s.zt.runway.map held, body := s.zt.body.set .p4 (some ⟨139460, 180500⟩) }
    brc := { s.brc with braces := .ofFn fun _ => ⟨.engaged, false, false, .stopped, true, false⟩ }
    wm := { s.wm with state := .calm } }

/-- Section 4.7: the MOVE to 260,000 is granted clamped to 229,500, and both axes have 200. -/
theorem test_move_worked_case :
    let t := after (exec .move (asked .roof 0x12 ([4, 1] ++ bytesOf 4 260000) leaving)) .reset
    t.moverState .p4 = .permitted ∧ (t.authorityOf .p4).authorityEnd = some 229500 ∧ (t.authorityOf .p4).untrimmed = 200
      ∧ (t.asu.ceilings.get .a7).ceiling = 200 ∧ (t.asu.ceilings.get .a8).ceiling = 200
      ∧ (t.msu.get .p4).relayClosed = true
      ∧ replied .roof t = some (128, [4, 1] ++ bytesOf 4 229500 ++ [0, 200]) := by
  decide +kernel

/-- Section 4.7: with the west axis 140 behind, the east axis has 100 and the west axis 200. -/
theorem test_position_update_trims :
    let s := (after (exec .move (asked .roof 0x12 ([4, 1] ++ bytesOf 4 260000) leaving)) .reset)
    let u : PositionUpdate :=
      { mover := .p4, axis := .a8, first := false
        axes := [⟨.a7, some 180000, 0, .valid, true⟩, ⟨.a8, some 179860, 0, .valid, true⟩]
        body := some ⟨139360, 180500⟩, lead := some 180000, furthest := some 180000, speed := 0, standstill := true }
    let t := after (exec (.positionUpdateASU .p4) (handed { Handovers.none with toAsu := [u] } s)) .reset
    (t.asu.ceilings.get .a7).ceiling = 100 ∧ (t.asu.ceilings.get .a8).ceiling = 200
      ∧ interventionSpeed 100 = 120 ∧ t.hand.toAsu = [] := by
  decide +kernel

/-- Section 6.10, step 1: WIND LIMIT taken at lead 200,000 and speed 120. -/
theorem test_controlled_stop_worked_case :
    let s := leaving
    let s := { s with
      pos := { s.pos with
        axes := (s.pos.axes.modify .a7 fun r => { r with position := some 200000, speed := 120 }).modify .a8 fun r =>
          { r with position := some 200000, speed := 120 }
        movers := s.pos.movers.set .p4 ⟨some ⟨159500, 200500⟩, some 200000, some 200000, 120, false⟩ } }
    let s := (moverIn .p4 .permitted s).setAuthority .p4
      { Authority.initial with direction := some .south, authorityEnd := some 229500, capInUse := 200, targetCap := 200 }
    let t := after (exec (.controlledCauseTaken 0)
      (handed { Handovers.none with causes := [⟨.windLimit, .panels, .nothing⟩] } s)) .reset
    t.moverState .p4 = .stopping ∧ (t.msu.get .p4).stopEnd = some .parked
      ∧ (t.authorityOf .p4).authorityEnd = some 200444 ∧ (t.authorityOf .p4).stopTarget = some 200444
      ∧ (t.authorityOf .p4).untrimmed = 120 := by
  decide +kernel

/-- Section 6.11, step 1 and 2: DRIVE TRIP trips the Tray, opens its relay and starts the trip timer for 10 s. -/
theorem test_immediate_cause_worked_case :
    let s := (device .armed).setMover .tray { (device .armed).msu.get .tray with state := .permitted, relayClosed := true }
    let t := after (exec (.immediateCauseTaken 0)
      (handed { Handovers.none with causes := [⟨.driveTrip, .one .tray, .nothing⟩] } s)) .reset
    t.moverState .tray = .tripped ∧ (t.msu.get .tray).relayClosed = false ∧ (t.msu.get .tray).readbackTimer = true
      ∧ (t.msu.get .tray).tripTimer.isRunning = true
      ∧ t.hand.postings.map (fun x => (x.notice.kind, x.notice.severity)) = [(.moverStopped, 6)]
      ∧ t.hand.faults.map (·.cause) = [.driveTrip] := by
  decide +kernel

/-! ## Single commands -/

/-- R122, R111: a mover BRACE LOST names that has come to rest since the switch change is halted by it. -/
theorem test_brace_lost_finds_mbodyAtparked :
    let t := after (exec (.immediateCauseTaken 0)
      (handed { Handovers.none with causes := [⟨.braceLost, .named [.p1], .nothing⟩] } (device .armed))) .reset
    t.moverState .p1 = .halted ∧ (t.msu.get .p1).haltCauses = [.braceLost] ∧ t.moverState .p2 = .parked := by decide +kernel

/-- R106: UNCOMMANDED MOTION carries the parked position. -/
theorem test_uncommanded_motion_data :
    let s := (ready .parked 0).setMover .p1 { MoverRec.initial false with parkedPosition := some 59999 }
    let t := after (exec (.positionUpdateMSU .p1) (updated (update false 60100 3 false) s)) .reset
    t.hand.faults.map (fun f => (f.cause, f.data.axis, f.data.lead, f.data.parked, f.data.speed))
      = [(.uncommandedMotion, some .a1, some 60100, some 59999, some 3)] := by decide +kernel

/-- R119: a stall is handed over with both brace states, the wind mean and the gust. -/
theorem test_stall_data :
    let s := braces engaging (atEnd true) (some .engage) (wind 20 90 .calm 0 false)
    let t := after (exec (.operationTimerExpiry .east) s) .reset
    t.hand.faults.map (·.data) = [{ CauseData.nothing with
      brace := some .east, braceStates := some (.stalled, .engaged), wind := some (90, 90) }] := by decide +kernel

/-- R123, R132: the test goes by the closure handed over, not by the wind since; the notice carries its mean. -/
theorem test_demand_on_closure_handed :
    let s := onFrame (braces (atEnd false) (atEnd false) none (wind 20 10 .calm 0 false))
    let t := after (exec .demandConditionTest
      (handed { Handovers.none with demandEvents := [.closure 95 100 .calm] } s)) .reset
    t.brc.demand = true ∧ t.hand.postings.map (·.notice.value) = [95] := by decide +kernel

/-- R125: the Tray's body leaves the portal and its hold is released, with a demand standing. BRC's update taken before
ZT's finds the zone held and overlapped, and the report starts the engage; with ZT's update taken first, the body change
waits for the report, the engage starts on the report, and the body change finds it in flight. -/
theorem test_portal_freed :
    let u : PositionUpdate := { update false 240500 0 false with
      mover := .tray, axis := .a9, axes := [], body := some ⟨140000, 241000⟩ }
    let s0 := onFrame (bodyAt .tray 139990 240990 (moverIn .tray .permitted (braces (atEnd false) (atEnd false) none
      (device .armed))))
    let s := { s0 with
      brc := { s0.brc with demand := true }
      zt := { s0.zt with tray := s0.zt.tray.modify 13 fun z => { z with holder := some .tray } }
      hand := { Handovers.none with toZt := [u], demandEvents := [.bodyChange u] } }
    let zt := fun t => after (exec (.positionUpdateZT .tray) t) .reset
    let body := fun t => after (exec (.demandConditionTest (.bodyChange .tray)) t) .reset
    let report := fun t => after (exec (.demandConditionTest .holdReport) t) .reset
    (body s).brc.operation = none ∧ (body s).brc.startPending = true ∧ (zt (body s)).hand.demandEvents = [.holdReport]
      ∧ (report (zt (body s))).brc.operation = some .engage
      ∧ (body (zt s)).brc.operation = none ∧ (report (zt s)).brc.operation = some .engage
      ∧ (body (report (zt s))).brc = (report (zt s)).brc := by decide +kernel

/-- R68, R71: after the wind has gone to Reduced, a MOVE in the mover's own direction leaves the cap as it stands, and the
next position update starts the cap descent. -/
theorem test_cap_waits_for_update :
    let s := ready .permitted 100
    let r : State := { s with wm := { s.wm with state := .reduced } }
    let t := after (exec .move (asked .roof 0x12 moveSouth r)) .reset
    (t.authorityOf .p1).authorityEnd = some 90000 ∧ (t.authorityOf .p1).targetCap = (r.authorityOf .p1).targetCap
      ∧ (t.authorityOf .p1).capInUse = 200 ∧ (t.authorityOf .p1).descent = none
      ∧ ((t.computeCeilings .p1 (motion 100) .compared).authorityOf .p1).targetCap = 100
      ∧ ((t.computeCeilings .p1 (motion 100) .compared).authorityOf .p1).descent = some ⟨200, 100, 60600⟩ := by
  decide +kernel

/-- R103, R138: a STANDBY in the close phase of relay 1 has its open command checked; in the open phase it repeats the
phase's command, and no check is started. -/
theorem test_withdrawn_arming_checks_relay :
    let t := fun ph => after (exec .standby (asked .venue 0x32 [] (((testing .p1 ph).setMover .p1
      { (testing .p1 ph).msu.get .p1 with relayClosed := ph == .close })))) .reset
    (t .close).dsu.state = .standby ∧ ((t .close).msu.get .p1).relayClosed = false
      ∧ ((t .close).msu.get .p1).readbackTimer = true ∧ ((t .close).msu.get .p2).readbackTimer = false
      ∧ (t .open).dsu.state = .standby ∧ ((t .open).msu.get .p1).relayClosed = false
      ∧ ((t .open).msu.get .p1).readbackTimer = false := by decide +kernel

/-- R158: MASK 7 sets the mask to 6 and says that it clamped. -/
theorem test_mask_clamps :
    let t := after (exec .mask (asked .pitch 0x03 [7] .reset)) .reset
    (t.spu.ports.get .pitch).mask = 6 ∧ replied .pitch t = some (128, [6]) := by decide +kernel

/-- R154: a request of an unknown code is answered BAD_REQUEST. -/
theorem test_unknown_code :
    replied .venue (after (exec .unknownRequestCode (asked .venue 0xEE [] .reset)) .reset) = some (28, []) := by decide +kernel

/-- R147: after a power-on reset the device is Unconfigured and the power flag stands; the reset line then adds its own. -/
theorem test_reset_flags :
    (after (exec .powerOnReset (device .armed)) .reset).dsu.flags = ⟨true, false, false, false⟩
      ∧ (after (exec .lineReset { State.reset with slu := { State.reset.slu with resetAsserted := true, resetFilter := true } })
        .reset).dsu.flags.line = true := by decide +kernel

/-- R168: with no record captured, FAULT READ answers DONE. -/
theorem test_fault_read_empty :
    (replied .venue (after (exec .faultRead (asked .venue 0x40 [] .reset)) .reset)).map (·.1) = some 0 := by decide +kernel

/-- R154: in Locked a RESERVE is answered LOCKED. -/
theorem test_locked_refuses :
    (replied .roof (after (exec .reserve (asked .roof 0x10 [1, 1, 2] (device .locked))) .reset)).map (·.1)
      = some (BitVec.ofNat 8 (outcomeNumber .locked)) := by decide +kernel

/-- R127: one pulse counts one; the next closure without a stuck second one clears it. -/
theorem test_pulse_counts :
    ((after (exec (.anemometerPulse .first) .reset) .reset).wm.anemometers.get .first).count = 1 := by decide +kernel

/-- On an empty queue the part idles (log 3). -/
theorem test_idle : step State.reset = .next State.reset := rfl

/-- Section 11.3, step 7: a severer notice displaces the oldest of the lowest severity, and the overflow flag is set. -/
theorem test_full_queue :
    let n := fun (k : NoticeKind) (v : Nat) => (⟨k, v, .absent, 1⟩ : Notice)
    (NoticeQueue.deliver ⟨[n .overspeedWarning 3, n .windState 4, n .braceDone 3, n .windState 4], false, true⟩ (n .eStop 7))
      = ⟨[n .windState 4, n .braceDone 3, n .windState 4, n .eStop 7], true, true⟩ := by decide

/-- Sections 2.10 and 2.11: the tolerance of the cross-check at 200 and at 80 mm/s. -/
theorem test_cross_tolerance : crossTolerance 30 200 = 38 ∧ crossTolerance 30 80 = 33 ∧ crossTolerance 30 20 = 30 := by decide

/-- Section 8.7, closure 12: mean 105 and gust 210 take Calm straight to Limit, and WIND LIMIT is raised. -/
theorem test_wind_squall :
    let s := { State.reset with
      hand := .none
      wm := { State.reset.wm with
        anemometers := ⟨⟨147, 150, 0, false⟩, ⟨140, 140, 0, false⟩⟩
        history := List.replicate 10 90 ++ [150], mean := 95, gust := 150, state := .calm } }
    let t := after (exec .intervalClosure s) .reset
    t.wm.state = .limit ∧ t.wm.mean = 105 ∧ t.wm.gust = 210 ∧ t.hand.causes.map (·.cause) = [.windLimit] := by
  decide +kernel

/-- Section 9.8, step 6: a relay that does not open under test locks the device. -/
theorem test_welded_relay :
    let s := { device .arming with dsu := { (device .arming).dsu with armingStep := some (.tray, .open) } }
    let t := after (exec .stepTimerExpiry (s.setMover .tray { s.msu.get .tray with readbackClosed := true })) .reset
    t.dsu.state = .locked ∧ t.dsu.armingStep = none ∧ t.hand.faults.map (·.cause) = [.relayStuck] := by decide +kernel

end Sys2Proof.Tests
end

section
/-! SUPPORT. The site table (chapter 1): the image's keys and entries, COMMIT's tests, normalisation and the check value, the
requests of the configuration store, and the committed image taken up. It settles O54, O53, O55 and O3. -/

namespace Sys2Proof.Machine

/-! ## The keys and their serial order (R6) -/

/-- R6: the serial order of keys, by section, then by index, then by item. -/
def Key.Before (j k : Key) : Prop :=
  j.sect < k.sect ∨ (j.sect = k.sect ∧ (j.index < k.index ∨ (j.index = k.index ∧ j.item < k.item)))

theorem mem_keyItems {k : Key} {a b n : Nat} : k ∈ keyItems a b n ↔ k.sect = a ∧ k.index = b ∧ 1 ≤ k.item ∧ k.item ≤ n := by
  simp only [keyItems, List.mem_map, List.mem_range]
  constructor
  · rintro ⟨i, hi, rfl⟩
    exact ⟨rfl, rfl, Nat.succ_pos i, hi⟩
  · obtain ⟨sect, index, item⟩ := k
    rintro ⟨rfl, rfl, h1, hn⟩
    exact ⟨item - 1, by grind⟩

theorem mem_serialKeys {k : Key} : k ∈ serialKeys ↔ (k.sect = 1 ∧ k.index = 0 ∧ 1 ≤ k.item ∧ k.item ≤ 13)
    ∨ ((k.sect = 2 ∨ k.sect = 3) ∧ k.index = 0 ∧ 1 ≤ k.item ∧ k.item ≤ 2)
    ∨ ((k.sect = 4 ∨ k.sect = 5) ∧ k.index ≤ 63 ∧ 1 ≤ k.item ∧ k.item ≤ 3)
    ∨ (k.sect = 6 ∧ 1 ≤ k.index ∧ k.index ≤ 5 ∧ 1 ≤ k.item ∧ k.item ≤ 11) := by
  have hmover : (∃ i < 5, k.sect = 6 ∧ k.index = i + 1 ∧ 1 ≤ k.item ∧ k.item ≤ 11)
      ↔ k.sect = 6 ∧ 1 ≤ k.index ∧ k.index ≤ 5 ∧ 1 ≤ k.item ∧ k.item ≤ 11 :=
    ⟨by omega, fun h => ⟨k.index - 1, by omega⟩⟩
  have hslot : ∀ a, (∃ i < 64, k.sect = a ∧ k.index = i ∧ 1 ≤ k.item ∧ k.item ≤ 3)
      ↔ k.sect = a ∧ k.index ≤ 63 ∧ 1 ≤ k.item ∧ k.item ≤ 3 :=
    fun a => ⟨by omega, fun h => ⟨k.index, by omega⟩⟩
  simp only [serialKeys, List.mem_append, List.mem_flatMap, List.mem_range, mem_keyItems, hmover, hslot]
  omega

/-- R6: the keys of the image by their section. -/
inductive Key.Placed : Key → Prop
  | general (n : Nat) : 1 ≤ n → n ≤ 13 → Key.Placed ⟨1, 0, n⟩
  | runway (n : Nat) : 1 ≤ n → n ≤ 2 → Key.Placed ⟨2, 0, n⟩
  | trayPath (n : Nat) : 1 ≤ n → n ≤ 2 → Key.Placed ⟨3, 0, n⟩
  | runwaySlot (i n : Nat) : i < 64 → 1 ≤ n → n ≤ 3 → Key.Placed ⟨4, i, n⟩
  | traySlot (i n : Nat) : i < 64 → 1 ≤ n → n ≤ 3 → Key.Placed ⟨5, i, n⟩
  | mover (m : Mover) (n : Nat) : 1 ≤ n → n ≤ 11 → Key.Placed ⟨6, moverNumber m, n⟩

theorem Key.placed_of_mem {k : Key} (hk : k ∈ serialKeys) : k.Placed := by
  obtain ⟨a, b, n⟩ := k
  simp only [mem_serialKeys] at hk
  obtain ⟨rfl, rfl, h1, h2⟩ | ⟨rfl | rfl, rfl, h1, h2⟩ | ⟨rfl | rfl, hb, h1, h2⟩ | ⟨rfl, hb1, hb2, h1, h2⟩ := hk
  · exact .general n h1 h2
  · exact .runway n h1 h2
  · exact .trayPath n h1 h2
  · exact .runwaySlot b n (by omega) h1 h2
  · exact .traySlot b n (by omega) h1 h2
  · obtain ⟨m, rfl⟩ : ∃ m, b = moverNumber m := by
      by_contra hno
      have := moverOfNumber_none.mpr fun m hm => hno ⟨m, hm⟩
      interval_cases b <;> simp [moverOfNumber] at this
    exact .mover m n h1 h2

theorem keyItems_ordered (a b n : Nat) : (keyItems a b n).Pairwise Key.Before := by
  rw [keyItems, List.pairwise_map]
  exact List.pairwise_lt_range.imp fun h => .inr ⟨rfl, .inr ⟨rfl, Nat.succ_lt_succ h⟩⟩

/-- The items of increasing indices of one section come in order. -/
theorem flatMap_keyItems_ordered (a n : Nat) {f : Nat → Nat} (hf : ∀ i j, i < j → f i < f j) (l : List Nat)
    (hl : l.Pairwise (· < ·)) : (l.flatMap fun i => keyItems a (f i) n).Pairwise Key.Before := by
  refine List.pairwise_flatMap.mpr ⟨fun i _ => keyItems_ordered a (f i) n, hl.imp fun {i j} hij x hx y hy => ?_⟩
  obtain ⟨hxs, hxi, _⟩ := mem_keyItems.mp hx
  obtain ⟨hys, hyi, _⟩ := mem_keyItems.mp hy
  exact .inr ⟨hxs.trans hys.symm, .inl (by rw [hxi, hyi]; exact hf i j hij)⟩

theorem serialKeys_ordered : serialKeys.Pairwise Key.Before := by
  have hslots : ∀ a, ((List.range 64).flatMap fun i => keyItems a i 3).Pairwise Key.Before := fun a =>
    flatMap_keyItems_ordered a 3 (f := id) (fun _ _ h => h) _ List.pairwise_lt_range
  have hmovers : ((List.range 5).flatMap fun i => keyItems 6 (i + 1) 11).Pairwise Key.Before :=
    flatMap_keyItems_ordered 6 11 (fun _ _ => Nat.succ_lt_succ) _ List.pairwise_lt_range
  simp only [serialKeys, List.pairwise_append, keyItems_ordered, hslots, hmovers, List.mem_append, List.mem_flatMap,
    mem_keyItems, true_and]
  simp only [Key.Before]
  grind

theorem Key.Before.ne {j k : Key} (h : j.Before k) : j ≠ k := by
  rintro rfl
  simp [Key.Before] at h

theorem serialKeys_nodup : serialKeys.Nodup := serialKeys_ordered.imp Key.Before.ne

theorem serialKeys_length : serialKeys.length = 456 := by
  simp [serialKeys, keyItems, List.length_flatMap]

/-! ## Entries read (R2, R4, R5) -/

@[simp] theorem moverOfNumber_moverNumber (m : Mover) : moverOfNumber (moverNumber m) = some m := moverOfNumber_iff.mpr rfl

theorem moverNumber_inj {m o : Mover} : moverNumber m = moverNumber o ↔ m = o :=
  ⟨fun h => Option.some.inj ((moverOfNumber_moverNumber m).symm.trans (h ▸ moverOfNumber_moverNumber o)), congrArg _⟩

@[simp] theorem Image.entry_general (img : Image) (n : Nat) : img.entry ⟨1, 0, n⟩ = img.general.item n := rfl
@[simp] theorem Image.entry_runway (img : Image) (n : Nat) : img.entry ⟨2, 0, n⟩ = img.runway.item n := rfl
@[simp] theorem Image.entry_trayPath (img : Image) (n : Nat) : img.entry ⟨3, 0, n⟩ = img.trayPath.item n := rfl
@[simp] theorem Image.entry_runwaySlot (img : Image) (i n : Nat) : img.entry ⟨4, i, n⟩ = img.runway.slotItem i n := rfl
@[simp] theorem Image.entry_traySlot (img : Image) (i n : Nat) : img.entry ⟨5, i, n⟩ = img.trayPath.slotItem i n := rfl
@[simp] theorem Image.entry_mover (img : Image) (m : Mover) (n : Nat) :
    img.entry ⟨6, moverNumber m, n⟩ = (img.movers.get m).item n := by
  simp [Image.entry]

theorem General.item_isSome {g : General} {n : Nat} : (g.item n).isSome = true ↔ 1 ≤ n ∧ n ≤ 13 := by
  unfold General.item
  split <;> simp
  grind

theorem MoverParams.item_isSome {p : MoverParams} {n : Nat} : (p.item n).isSome = true ↔ 1 ≤ n ∧ n ≤ 11 := by
  unfold MoverParams.item
  split <;> simp
  grind

theorem PathImage.item_isSome {p : PathImage} {n : Nat} : (p.item n).isSome = true ↔ 1 ≤ n ∧ n ≤ 2 := by
  unfold PathImage.item
  split <;> simp
  grind

theorem ZoneSlot.item_isSome {z : ZoneSlot} {n : Nat} : (z.item n).isSome = true ↔ 1 ≤ n ∧ n ≤ 3 := by
  unfold ZoneSlot.item
  split <;> simp
  grind

theorem PathImage.slotItem_eq {p : PathImage} {i : Nat} (hi : i < 64) (n : Nat) : p.slotItem i n = (p.slot i).item n := by
  simp [PathImage.slotItem, PathImage.slot, hi]

theorem PathImage.slotItem_isSome {p : PathImage} {i n : Nat} :
    (p.slotItem i n).isSome = true ↔ i ≤ 63 ∧ 1 ≤ n ∧ n ≤ 3 := by
  by_cases hi : i < 64
  · rw [PathImage.slotItem_eq hi, ZoneSlot.item_isSome]
    omega
  · simp [PathImage.slotItem, hi]
    omega

/-- The keys that name an entry are those of the serial order, in every image (R6). -/
theorem Image.entry_isSome {img : Image} {k : Key} : (img.entry k).isSome = true ↔ k ∈ serialKeys := by
  obtain ⟨a, b, n⟩ := k
  rw [mem_serialKeys]
  unfold Image.entry
  split
  · split <;> simp_all [General.item_isSome]
  · split <;> simp_all [PathImage.item_isSome]
  · split <;> simp_all [PathImage.item_isSome]
  · simp_all [PathImage.slotItem_isSome]
  · simp_all [PathImage.slotItem_isSome]
  · have hb : (moverOfNumber b).isSome = true ↔ 1 ≤ b ∧ b ≤ 5 := by
      unfold moverOfNumber
      split <;> simp
      grind
    split <;> simp_all [MoverParams.item_isSome]
  · simp only [Option.isSome_none]
    grind

theorem Key.isEntry_eq_true {k : Key} : k.isEntry = true ↔ k ∈ serialKeys := Image.entry_isSome

theorem Key.isEntry_eq_false {k : Key} : k.isEntry = false ↔ k ∉ serialKeys := by
  rw [← Key.isEntry_eq_true, Bool.not_eq_true]

/-! ## Entries replaced (R8) -/

/-- One case for each item written and, in it, one for each item read; so for the other records of the image. -/
theorem General.item_setItem (g : General) {n : Nat} (h1 : 1 ≤ n) (h2 : n ≤ 13) (v : Int) (i : Nat) :
    (g.setItem n v).item i = if i = n then some v else g.item i := by
  unfold General.item
  interval_cases n <;> split <;> simp_all [General.setItem]

theorem MoverParams.item_setItem (p : MoverParams) {n : Nat} (h1 : 1 ≤ n) (h2 : n ≤ 11) (v : Int) (i : Nat) :
    (p.setItem n v).item i = if i = n then some v else p.item i := by
  unfold MoverParams.item
  interval_cases n <;> split <;> simp_all [MoverParams.setItem]

theorem PathImage.item_setItem (p : PathImage) {n : Nat} (h1 : 1 ≤ n) (h2 : n ≤ 2) (v : Int) (i : Nat) :
    (p.setItem n v).item i = if i = n then some v else p.item i := by
  unfold PathImage.item
  interval_cases n <;> split <;> simp_all [PathImage.setItem]

theorem ZoneSlot.item_setItem (z : ZoneSlot) {n : Nat} (h1 : 1 ≤ n) (h2 : n ≤ 3) (v : Int) (i : Nat) :
    (z.setItem n v).item i = if i = n then some v else z.item i := by
  unfold ZoneSlot.item
  interval_cases n <;> split <;> simp_all [ZoneSlot.setItem]

@[simp] theorem PathImage.item_setSlotItem (p : PathImage) (i n : Nat) (v : Int) (j : Nat) :
    (p.setSlotItem i n v).item j = p.item j := rfl

@[simp] theorem PathImage.slotItem_setItem (p : PathImage) (n : Nat) (v : Int) (i j : Nat) :
    (p.setItem n v).slotItem i j = p.slotItem i j := by
  unfold PathImage.setItem
  split <;> rfl

theorem PathImage.slotItem_setSlotItem (p : PathImage) {i n : Nat} (hi : i < 64) (h1 : 1 ≤ n) (h2 : n ≤ 3) (v : Int)
    (j l : Nat) :
    (p.setSlotItem i n v).slotItem j l = if j = i ∧ l = n then some v else p.slotItem j l := by
  by_cases hj : j = i
  · subst hj
    simp [PathImage.slotItem, PathImage.setSlotItem, hi, ZoneSlot.item_setItem _ h1 h2, PathImage.slot]
  · simp [PathImage.slotItem, PathImage.setSlotItem, hj, Vector.getElem?_setIfInBounds_ne (Ne.symm hj)]

/-- R8: a write of an entry changes that entry alone. -/
theorem Image.entry_setEntry (img : Image) {k j : Key} (v : Int) (hk : k ∈ serialKeys) (hj : j ∈ serialKeys) :
    (img.setEntry k v).entry j = if j = k then some v else img.entry j := by
  cases Key.placed_of_mem hk with
  | general n h1 h2 =>
    cases Key.placed_of_mem hj <;> simp [Image.setEntry, General.item_setItem _ h1 h2]
  | runway n h1 h2 | trayPath n h1 h2 =>
    cases Key.placed_of_mem hj <;> simp [Image.setEntry, PathImage.item_setItem _ h1 h2]
  | runwaySlot i n hi h1 h2 | traySlot i n hi h1 h2 =>
    cases Key.placed_of_mem hj <;> simp [Image.setEntry, PathImage.slotItem_setSlotItem _ hi h1 h2]
  | mover m n h1 h2 =>
    cases Key.placed_of_mem hj <;> simp [Image.setEntry, PerMover.get_modify, moverNumber_inj]
    case mover o l _ _ =>
    by_cases ho : o = m
    · simp [ho, MoverParams.item_setItem _ h1 h2]
    · simp [ho]

theorem Image.value_setEntry (img : Image) {k j : Key} (v : Int) (hk : k ∈ serialKeys) (hj : j ∈ serialKeys) :
    (img.setEntry k v).value j = if j = k then v else img.value j := by
  rw [Image.value, Image.entry_setEntry img v hk hj]
  split <;> rfl

/-! ## COMMIT's test of each entry (R2, R4, R5, R10) -/

@[simp] theorem inRange_eq_true {lo hi x : Int} : inRange lo hi x = true ↔ lo ≤ x ∧ x ≤ hi := by
  simp [inRange]

@[simp] theorem Image.value_general (img : Image) (n : Nat) : img.value ⟨1, 0, n⟩ = (img.general.item n).getD 0 := rfl
@[simp] theorem Image.value_runway (img : Image) (n : Nat) : img.value ⟨2, 0, n⟩ = (img.runway.item n).getD 0 := rfl
@[simp] theorem Image.value_trayPath (img : Image) (n : Nat) : img.value ⟨3, 0, n⟩ = (img.trayPath.item n).getD 0 := rfl
@[simp] theorem Image.value_mover (img : Image) (m : Mover) (n : Nat) :
    img.value ⟨6, moverNumber m, n⟩ = ((img.movers.get m).item n).getD 0 := by
  simp [Image.value]
theorem Image.value_runwaySlot (img : Image) {i : Nat} (hi : i < 64) (n : Nat) :
    img.value ⟨4, i, n⟩ = ((img.runway.slot i).item n).getD 0 := by
  rw [← PathImage.slotItem_eq hi]; rfl
theorem Image.value_traySlot (img : Image) {i : Nat} (hi : i < 64) (n : Nat) :
    img.value ⟨5, i, n⟩ = ((img.trayPath.slot i).item n).getD 0 := by
  rw [← PathImage.slotItem_eq hi]; rfl

/-- R2: the values of a path, its length and its zone count. -/
theorem Image.value_path (img : Image) (q : Path) (n : Nat) :
    img.value ⟨if q = .runway then 2 else 3, 0, n⟩ = ((img.path q).item n).getD 0 := by
  cases q <;> rfl

/-- R2: the values of a path's zone slot. -/
theorem Image.value_slot (img : Image) (q : Path) {i : Nat} (hi : i < 64) (n : Nat) :
    img.value ⟨if q = .runway then 4 else 5, i, n⟩ = (((img.path q).slot i).item n).getD 0 := by
  cases q
  · exact img.value_runwaySlot hi n
  · exact img.value_traySlot hi n

theorem entryOk_slot (img : Image) (q : Path) (i n : Nat) :
    entryOk img ⟨if q = .runway then 4 else 5, i, n⟩ = slotOk (img.path q) i n := by
  cases q <;> rfl

@[simp] theorem entryOk_mover (img : Image) (m : Mover) (n : Nat) : entryOk img ⟨6, moverNumber m, n⟩ = moverOk img m n := by
  simp [entryOk]

/-- R2: a zone starts where the zone before it ends. -/
theorem Image.start_eq (img : Image) (q : Path) {i : Nat} (hi : i < 64) :
    (img.path q).start i = if i = 0 then 0 else img.value ⟨if q = .runway then 4 else 5, i - 1, 1⟩ := by
  rw [img.value_slot q (by omega)]
  rfl

theorem slotOk_beyond {p : PathImage} {i : Nat} (h : p.zoneCount ≤ i) (n : Nat) : slotOk p i n = true := if_pos h

theorem slotOk_end {p : PathImage} {i : Nat} (h : i < p.zoneCount) : slotOk p i 1 = true
    ↔ (2000 ≤ (p.slot i).stop - p.start i ∧ (p.slot i).stop - p.start i ≤ 50000)
      ∧ ((i : Int) + 1 = p.zoneCount → (p.slot i).stop = p.length) := by
  simp [slotOk, Int.not_le.mpr h, Decidable.imp_iff_not_or]

theorem slotOk_ceiling {p : PathImage} {i : Nat} (h : i < p.zoneCount) :
    slotOk p i 2 = true ↔ 5 ≤ (p.slot i).ceiling ∧ (p.slot i).ceiling ≤ 400 := by
  simp [slotOk, Int.not_le.mpr h]

theorem slotOk_need {p : PathImage} {i : Nat} (h : i < p.zoneCount) :
    slotOk p i 3 = true ↔ 0 ≤ (p.slot i).need ∧ (p.slot i).need ≤ 2 := by
  simp [slotOk, Int.not_le.mpr h]

/-! ## Normalisation (R11) -/

theorem slot_slotsOf (l c : Int) (f : Nat → ZoneSlot) {i : Nat} (hi : i < 64) :
    PathImage.slot ⟨l, c, slotsOf f⟩ i = f i := by
  simp [PathImage.slot, slotsOf, hi]

theorem PathImage.slot_normalise (p : PathImage) {i : Nat} (hi : i < 64) :
    p.normalise.slot i = if p.zoneCount ≤ i then ⟨0, 0, 0⟩ else p.slot i := slot_slotsOf _ _ _ hi

@[simp] theorem PathImage.item_normalise (p : PathImage) (n : Nat) : p.normalise.item n = p.item n := rfl

theorem zeroSlot_item (n : Nat) : ((⟨0, 0, 0⟩ : ZoneSlot).item n).getD 0 = 0 := by
  unfold ZoneSlot.item
  split <;> rfl

/-- R11: an entry of a slot at or beyond the zone count becomes 0. -/
theorem PathImage.normalise_slot_value (p : PathImage) {i : Nat} (hi : i < 64) (n : Nat) :
    ((p.normalise.slot i).item n).getD 0 = if p.zoneCount ≤ i then 0 else ((p.slot i).item n).getD 0 := by
  rw [p.slot_normalise hi]
  split
  · exact zeroSlot_item n
  · rfl

/-- R11: the Tray's clip gap becomes 0, and no other entry of a mover changes. -/
theorem Image.normalise_mover_value (img : Image) (m : Mover) (n : Nat) :
    ((img.normalise.movers.get m).item n).getD 0 = if m = .tray ∧ n = 6 then 0 else ((img.movers.get m).item n).getD 0 := by
  have hgap : ∀ p : MoverParams, { p with clipGap := 0 } = p.setItem 6 0 := fun _ => rfl
  simp only [Image.normalise, PerMover.get_modify, hgap]
  by_cases hm : m = .tray
  · subst hm
    rw [if_pos rfl, MoverParams.item_setItem _ (by decide) (by decide)]
    split <;> simp [*]
  · simp [hm]

@[simp] theorem Image.normalise_runway (img : Image) : img.normalise.runway = img.runway.normalise := rfl
@[simp] theorem Image.normalise_trayPath (img : Image) : img.normalise.trayPath = img.trayPath.normalise := rfl
@[simp] theorem Image.normalise_general (img : Image) : img.normalise.general = img.general := rfl

theorem Image.value_normalise (img : Image) {k : Key} (hk : k ∈ serialKeys) : img.normalise.value k
    = if (k.sect = 4 ∧ img.value ⟨2, 0, 2⟩ ≤ k.index) ∨ (k.sect = 5 ∧ img.value ⟨3, 0, 2⟩ ≤ k.index) ∨ k = ⟨6, 5, 6⟩ then 0
      else img.value k := by
  have hrunway : img.value ⟨2, 0, 2⟩ = img.runway.zoneCount := rfl
  have htray : img.value ⟨3, 0, 2⟩ = img.trayPath.zoneCount := rfl
  rw [hrunway, htray]
  cases Key.placed_of_mem hk with
  | general n _ _ | runway n _ _ | trayPath n _ _ => simp
  | runwaySlot i n hi _ _ =>
    simpa [Image.value_runwaySlot _ hi] using PathImage.normalise_slot_value img.runway hi n
  | traySlot i n hi _ _ =>
    simpa [Image.value_traySlot _ hi] using img.trayPath.normalise_slot_value hi n
  | mover m n _ _ =>
    have htrayKey : moverNumber m = 5 ↔ m = .tray := moverNumber_inj (o := .tray)
    simp [Image.normalise_mover_value, htrayKey]

/-! ## The check value (R14) -/

theorem bytesOf_length (n : Nat) (x : Int) : (bytesOf n x).length = n := by
  induction n with
  | zero => rfl
  | succ n ih => rw [bytesOf, List.length_cons, ih]

theorem Image.bytes_length (img : Image) : img.bytes.length = 1824 := by
  simp only [Image.bytes, List.length_flatMap, bytesOf_length, List.map_const', List.sum_replicate, smul_eq_mul,
    serialKeys_length, Nat.reduceMul]

/-- R14: what one shift leaves of the register. -/
theorem crc32Shift_eq (r : BitVec 32) : crc32Shift r = (r >>> 1) ^^^ (if r.getLsbD 0 then 0xEDB88320#32 else 0) := by
  unfold crc32Shift
  split <;> simp

/-- R14: the register after one more byte. -/
theorem crc32_concat (w : List Byte) (b : Byte) : ~~~ crc32 (w ++ [b]) = crc32Byte (~~~ crc32 w) b := by
  simp [crc32, List.foldl_append]

theorem crc32Byte_eq (r : BitVec 32) (b : Byte) : crc32Byte r b
    = crc32Shift (crc32Shift (crc32Shift (crc32Shift (crc32Shift (crc32Shift (crc32Shift (crc32Shift
      (r ^^^ b.setWidth 32)))))))) := rfl

/-- Settles O54: the serial order section by section, each test from the entry's own range, and the register byte by byte. -/
theorem entriesRangedNormalisedAndChecked : Obligations.EntriesRangedNormalisedAndChecked := by
  refine ⟨⟨serialKeys_ordered, fun _ => mem_serialKeys⟩, ?tests, fun img k hk => img.value_normalise hk, ?check⟩
  case tests =>
    intro img
    dsimp only
    refine ⟨?general, ?paths, ?slots, ?movers⟩
    case general => simp [entryOk, generalOk, General.item]
    case paths => simp [entryOk, PathImage.item]
    case slots =>
      intro q i hi
      rw [← img.start_eq q hi]
      simp only [img.value_path, img.value_slot q hi, entryOk_slot]
      exact ⟨fun h => ⟨slotOk_beyond h 1, slotOk_beyond h 2, slotOk_beyond h 3⟩,
        fun h => ⟨slotOk_end h, slotOk_ceiling h, slotOk_need h⟩⟩
    case movers =>
      intro m
      have hpath : img.value ⟨if m = .tray then 3 else 2, 0, 1⟩ = (img.path (pathOf m)).length := by cases m <;> rfl
      have hpanel : isPanel m = false ↔ m = .tray := by cases m <;> decide
      simp only [hpath]
      simp [moverOk, MoverParams.item, hpanel]
  case check =>
    intro img w b
    dsimp only
    simp only [← crc32Shift_eq, ← crc32Byte_eq]
    exact ⟨rfl, rfl, img.bytes_length, rfl, crc32_concat w b⟩

/-! ## CONFIG WRITE and CONFIG READ (R7 to R9) -/

theorem mem_allMovers (m : Mover) : m ∈ allMovers := by cases m <;> decide

theorem allMovers_nodup : allMovers.Nodup := by decide

/-- A mover is in motion exactly where not every mover is at rest (R93). -/
theorem State.allAtRest_eq_false {s : State} : s.allAtRest = false
    ↔ ∃ m, s.moverState m = .permitted ∨ s.moverState m = .stopping ∨ s.moverState m = .tripped := by
  have hmoving : ∀ st : MoverState, st.atRest = false ↔ st = .permitted ∨ st = .stopping ∨ st = .tripped := by
    intro st; cases st <;> decide
  simp [State.allAtRest, List.all_eq_false, mem_allMovers, hmoving]

theorem State.allAtRest_eq_true {s : State} : s.allAtRest = true
    ↔ ¬ ∃ m, s.moverState m = .permitted ∨ s.moverState m = .stopping ∨ s.moverState m = .tripped := by
  rw [← State.allAtRest_eq_false, Bool.not_eq_false]

/-- R8, step 1: in which states a CONFIG WRITE is not taken. -/
theorem State.takesConfigWrite_eq_false {s : State} (hl : s.dsu.state ≠ .locked) : s.takesConfigWrite = false
    ↔ s.dsu.state = .arming ∨ s.dsu.state = .armed ∨ s.dsu.state = .disarming
      ∨ (s.dsu.state = .standby
        ∧ ∃ m, s.moverState m = .permitted ∨ s.moverState m = .stopping ∨ s.moverState m = .tripped) := by
  rw [← State.allAtRest_eq_false]
  unfold State.takesConfigWrite
  split <;> simp_all

/-- R8, step 1: in which states a CONFIG WRITE is taken. -/
theorem State.takesConfigWrite_eq_true {s : State} : s.takesConfigWrite = true
    ↔ s.dsu.state = .configuring ∨ s.dsu.state = .unconfigured
      ∨ (s.dsu.state = .standby
        ∧ ¬ ∃ m, s.moverState m = .permitted ∨ s.moverState m = .stopping ∨ s.moverState m = .tripped) := by
  rw [← State.allAtRest_eq_true]
  unfold State.takesConfigWrite
  split <;> simp_all

theorem State.toConfiguring_of_configuring {s : State} (h : s.dsu.state = .configuring) : s.toConfiguring = s := if_pos h

theorem State.toConfiguring_of_ne {s : State} (h : s.dsu.state ≠ .configuring) :
    s.toConfiguring = s.changeDevice .configuring := if_neg h

/-- A served request's code byte names its code (R154). -/
theorem State.Served.code {s : State} {p : Port} {r : Request} {c : RequestCode} (h : s.Served p r c) :
    codeOfByte r.code = some c := by
  obtain ⟨⟨_, _, hcode, _⟩, _⟩ := h
  exact hcode

theorem requestRow_configWrite {r : Request} (h : codeOfByte r.code = some .configWrite) : requestRow r = .configWrite := by
  simp [requestRow, h]

theorem requestRow_configRead {r : Request} (h : codeOfByte r.code = some .configRead) : requestRow r = .configRead := by
  simp [requestRow, h]

theorem requestRow_commit {r : Request} (h : codeOfByte r.code = some .commit) : requestRow r = .commit := by
  simp [requestRow, h]

section
variable {s : State} {p : Port} {r : Request}

/-- A CONFIG WRITE in a state that takes none (R8, step 1). -/
theorem settleConfigWrite_untaken (hl : s.dsu.state ≠ .locked) (h : s.takesConfigWrite = false) :
    settleConfigWrite p r s = (s, some (refuse .state)) := by
  simp [settleConfigWrite, hl, h]

/-- A CONFIG WRITE of a key that names nothing (R8, step 2). -/
theorem settleConfigWrite_unnamed (hl : s.dsu.state ≠ .locked) (h : s.takesConfigWrite = true)
    (hk : ¬ (keyAt r.body 0 ∈ serialKeys ∨ keyAt r.body 0 = defaultsKey)) :
    settleConfigWrite p r s = (s, some (refuse .badRequest)) := by
  obtain ⟨hentry, hdefaults⟩ := not_or.mp hk
  simp [settleConfigWrite, hl, h, hdefaults, Key.isEntry_eq_false.mpr hentry]

/-- A CONFIG WRITE that is taken (R8, step 3). -/
theorem settleConfigWrite_named (hl : s.dsu.state ≠ .locked) (h : s.takesConfigWrite = true)
    (hk : keyAt r.body 0 ∈ serialKeys ∨ keyAt r.body 0 = defaultsKey) :
    settleConfigWrite p r s
      = ((s.withCs { s.cs with
          working := some (writeEntry s.cs.workingCopy (keyAt r.body 0) (int32At r.body 3)) }).toConfiguring,
        some (doneWith (keyField (keyAt r.body 0)
          ++ bytesOf 4 (if keyAt r.body 0 = defaultsKey then 0 else int32At r.body 3)))) := by
  have : ¬ (keyAt r.body 0 ≠ defaultsKey ∧ (keyAt r.body 0).isEntry = false) := by
    rw [Key.isEntry_eq_false]
    tauto
  simp only [settleConfigWrite, hl, h, this, if_false, Bool.true_eq_false]

end

/-- The entries from a key of the serial order on (R9). -/
theorem Image.run_eq (img : Image) {before after : List Key} {k : Key} (h : serialKeys = before ++ k :: after) (n : Nat) :
    img.run k n = ((k :: after).take n).map img.value := by
  have hbefore : ∀ x ∈ before, (x != k) = true := by
    obtain ⟨_, _, hdisjoint⟩ := List.nodup_append.mp (h ▸ serialKeys_nodup)
    intro x hx
    simpa using hdisjoint x hx k List.mem_cons_self
  rw [Image.run, h, List.dropWhile_append_of_pos hbefore, List.dropWhile_cons_of_neg (by simp)]

/-- A CONFIG READ body that R9 answers BAD_REQUEST: its source, its count or its key is none that there is. -/
def Request.MalformedRead (r : Request) : Prop :=
  1 < fieldAt r.body 0 ∨ fieldAt r.body 4 < 1 ∨ 10 < fieldAt r.body 4 ∨ keyAt r.body 1 ∉ serialKeys

theorem Request.malformedRead_iff {r : Request} : r.MalformedRead
    ↔ 1 < fieldAt r.body 0 ∨ fieldAt r.body 4 < 1 ∨ 10 < fieldAt r.body 4 ∨ (keyAt r.body 1).isEntry = false := by
  rw [Request.MalformedRead, Key.isEntry_eq_false]

section
variable {s : State} {p : Port} {r : Request}

/-- A CONFIG READ whose body is malformed (R9, log 31). -/
theorem answerConfigRead_malformed (hl : s.dsu.state ≠ .locked) (h : r.MalformedRead) :
    answerConfigRead p r s = refuse .badRequest := by
  rw [Request.malformedRead_iff] at h
  simp only [answerConfigRead, hl, h, if_true, if_false]

/-- A CONFIG READ of a source that holds no image (R9, log 31). -/
theorem answerConfigRead_sourceless (hl : s.dsu.state ≠ .locked) (h : ¬ r.MalformedRead)
    (hs : s.cs.source (fieldAt r.body 0) = none) : answerConfigRead p r s = refuse .state := by
  rw [Request.malformedRead_iff] at h
  simp only [answerConfigRead, hl, h, hs, if_false]

/-- A CONFIG READ that is answered with entries (R9). -/
theorem answerConfigRead_entries (hl : s.dsu.state ≠ .locked) (h : ¬ r.MalformedRead) {img : Image}
    (hs : s.cs.source (fieldAt r.body 0) = some img) {before after : List Key}
    (hk : serialKeys = before ++ keyAt r.body 1 :: after) :
    answerConfigRead p r s = doneWith (keyField (keyAt r.body 1)
      ++ byteField ((keyAt r.body 1 :: after).take (fieldAt r.body 4)).length
      ++ ((keyAt r.body 1 :: after).take (fieldAt r.body 4)).flatMap fun j => bytesOf 4 (img.value j)) := by
  rw [Request.malformedRead_iff] at h
  simp only [answerConfigRead, hl, h, hs, if_false, img.run_eq hk, List.length_map, List.flatMap_map]

end

theorem exec_configWrite (s : State) :
    exec .configWrite s = s.whileRunning fun s => s.serve .configWrite settleConfigWrite := rfl

theorem exec_configRead (s : State) :
    exec .configRead s = s.whileRunning fun s => s.serve .configRead (answerOnly answerConfigRead) := rfl

/-- Settles O53, by the branches of the two requests and by the entry a write changes. -/
theorem configWriteAndRead : Obligations.ConfigWriteAndRead := by
  refine ⟨?write, fun img k j v => img.value_setEntry v, ?read⟩
  case write =>
    intro s p r hr
    have hl : (s.takeHead p).dsu.state ≠ .locked := hr.not_locked rfl
    have hrow := requestRow_configWrite hr.code
    have huntaken := State.takesConfigWrite_eq_false hl
    refine ⟨fun h => ?untaken, fun h hk => ?unnamed, fun h hk => ?configuring, fun h hk => ?entering⟩
    case untaken => exact serve_answers hr hrow (settleConfigWrite_untaken hl (huntaken.mpr h))
    case unnamed =>
      have htaken := Bool.of_not_eq_false fun hf => h (huntaken.mp hf)
      exact serve_answers hr hrow (settleConfigWrite_unnamed hl htaken hk)
    case configuring =>
      have htaken : (s.takeHead p).takesConfigWrite = true := State.takesConfigWrite_eq_true.mpr (.inl h)
      rw [exec_configWrite, serve_answers hr hrow (settleConfigWrite_named hl htaken hk), State.toConfiguring_of_configuring]
      · rfl
      · exact h
    case entering =>
      have htaken : (s.takeHead p).takesConfigWrite = true := State.takesConfigWrite_eq_true.mpr (.inr h)
      have hother : s.dsu.state ≠ .configuring := by
        rcases h with h | ⟨h, _⟩ <;> simp [h]
      rw [exec_configWrite, serve_answers hr hrow (settleConfigWrite_named hl htaken hk), State.toConfiguring_of_ne]
      · rfl
      · exact hother
  case read =>
    intro s p r hr
    have hl : (s.takeHead p).dsu.state ≠ .locked := hr.not_locked rfl
    have hrow := requestRow_configRead hr.code
    have hanswer : ∀ {a}, answerConfigRead p r (s.takeHead p) = a → exec .configRead s = .next (s.answered p r a) := by
      rintro a rfl
      exact serve_answers hr hrow rfl
    refine ⟨fun h => hanswer (answerConfigRead_malformed hl h),
      fun h h1 hw => hanswer (answerConfigRead_sourceless hl h (by simp [Cs.source, h1, hw])),
      fun img before after hk h hsource => hanswer (answerConfigRead_entries hl h ?_ hk)⟩
    obtain ⟨h0, rfl⟩ | ⟨h1, hw⟩ := hsource
    · simp [Cs.source, h0]
    · simp [Cs.source, h1, hw]

/-! ## COMMIT (R10, R11) -/

/-- R10: the first entry that fails, with those before it passing. -/
theorem firstFailing_eq_some {img : Image} {before after : List Key} {k : Key} (h : serialKeys = before ++ k :: after)
    (hbefore : ∀ j ∈ before, entryOk img j = true) (hk : entryOk img k = false) : firstFailing img = some k :=
  List.find?_eq_some_iff_append.mpr ⟨by simp [hk], before, after, h, fun j hj => by simp [hbefore j hj]⟩

theorem firstFailing_eq_none {img : Image} (h : ∀ k ∈ serialKeys, entryOk img k = true) : firstFailing img = none :=
  List.find?_eq_none.mpr fun k hk => by simp [h k hk]

section
variable {s : State} {p : Port} {r : Request}

/-- A COMMIT outside Configuring, or without a working copy (R10). -/
theorem settleCommit_refused (hl : s.dsu.state ≠ .locked) (h : s.dsu.state ≠ .configuring ∨ s.cs.working = none) :
    settleCommit p r s = (s, some (refuse .state)) := by
  unfold settleCommit
  rw [if_neg hl]
  split
  · simp_all
  · rfl

/-- A COMMIT of a copy with an entry that fails its test (R10). -/
theorem settleCommit_fails {img : Image} {k : Key} (hd : s.dsu.state = .configuring) (hw : s.cs.working = some img)
    (hk : firstFailing img = some k) : settleCommit p r s = (s, some ⟨.range, false, keyField k⟩) := by
  simp [settleCommit, hd, hw, hk]

/-- A COMMIT of a copy whose entries all pass (R11). -/
theorem settleCommit_starts {img : Image} (hd : s.dsu.state = .configuring) (hw : s.cs.working = some img)
    (hk : firstFailing img = none) : settleCommit p r s = (s.startWrite r.tag img, none) := by
  simp [settleCommit, hd, hw, hk]

end

theorem exec_commit (s : State) : exec .commit s = s.whileRunning fun s => s.serve .commit settleCommit := rfl

/-! ## The committed image taken up (R12) -/

/-- The record of a mover with its geometry formed from its axis positions, where every axis has one (R30 to R32). -/
def PosMover.formed (r : PosMover) (p : MoverParams) (d : Direction) (st : MoverState) : Option (List Int) → PosMover
  | none => r
  | some xs => { r with
      body := some (bodyOf p xs), lead := some (leadOf p xs d), furthest := advanceFurthest st d (leadOf p xs d) r.furthest }

/-- A mover's record once its geometry has been formed anew. -/
def State.formedRecord (s : State) (m : Mover) : PosMover :=
  (s.pos.movers.get m).formed (s.params m) (s.directionOf m) (s.moverState m) (s.pos.positions m)

theorem State.formedRecord_of_none {s : State} {m : Mover} (h : s.pos.positions m = none) :
    s.formedRecord m = s.pos.movers.get m := by
  rw [State.formedRecord, h, PosMover.formed]

/-- Forming a mover's geometry replaces its record and nothing else. -/
theorem State.formGeometry_eq (s : State) (m : Mover) :
    s.formGeometry m = s.withPos { s.pos with movers := s.pos.movers.set m (s.formedRecord m) } := by
  unfold State.formGeometry State.formedRecord
  cases s.pos.positions m with
  | none => simp [PosMover.formed, State.withPos]
  | some xs => rfl

theorem State.formedRecord_formGeometry (s : State) {m o : Mover} (h : o ≠ m) :
    (s.formGeometry m).formedRecord o = s.formedRecord o := by
  rw [State.formGeometry_eq, State.formedRecord, State.withPos_pos, PerMover.get_set_of_ne _ _ _ _ h]
  rfl

/-- The furthest lead formed anew: a lead behind it leaves it, and only a mover under authority advances it (R32). -/
theorem advanceFurthest_eq (st : MoverState) (d : Direction) (lead : Int) (f : Option Int) : advanceFurthest st d lead f
    = f.map fun x => if (st = .permitted ∨ st = .stopping) ∧ x * d.sign < lead * d.sign then lead else x := by
  have hst : st.hasAuthority = true ↔ st = .permitted ∨ st = .stopping := by cases st <;> decide
  cases f with
  | none => rfl
  | some x => simp [advanceFurthest, moreAdvanced, hst, Int.mul_comm d.sign, apply_ite some]

theorem State.formedRecord_of_some {s : State} {m : Mover} {xs : List Int} (h : s.pos.positions m = some xs) :
    s.formedRecord m = { s.pos.movers.get m with
      body := some (bodyOf (s.params m) xs), lead := some (leadOf (s.params m) xs (s.directionOf m))
      furthest := (s.pos.movers.get m).furthest.map fun x =>
        if (s.moverState m = .permitted ∨ s.moverState m = .stopping)
            ∧ x * (s.directionOf m).sign < leadOf (s.params m) xs (s.directionOf m) * (s.directionOf m).sign then
          leadOf (s.params m) xs (s.directionOf m)
        else x } := by
  rw [State.formedRecord, h, PosMover.formed, advanceFurthest_eq]

/-- MSU's record of a mover with its parked position taken anew, where it is at rest (R12). -/
def MoverRec.reparked (r : MoverRec) (lead : Option Int) : MoverRec :=
  if r.state.atRest then { r with parkedPosition := lead } else r

/-- MSU's record of a mover once it has taken its parked position anew. -/
def State.reparkedRecord (s : State) (m : Mover) : MoverRec := (s.msu.get m).reparked (s.pos.movers.get m).lead

theorem State.repark_msu (s : State) (m : Mover) : (s.repark m).msu = s.msu.set m (s.reparkedRecord m) := by
  unfold State.repark State.reparkedRecord MoverRec.reparked State.moverState
  split
  · rfl
  · simp

theorem State.reparkedRecord_repark (s : State) {m o : Mover} (h : o ≠ m) :
    (s.repark m).reparkedRecord o = s.reparkedRecord o := by
  have hmsu : (s.repark m).msu.get o = s.msu.get o := by rw [State.repark_msu, PerMover.get_set_of_ne _ _ _ _ h]
  simp [State.reparkedRecord, hmsu]

theorem MoverRec.reparked_moving {r : MoverRec} (h : r.state = .permitted ∨ r.state = .stopping ∨ r.state = .tripped)
    (lead : Option Int) : r.reparked lead = r := by
  rcases h with h | h | h <;> simp [MoverRec.reparked, h, MoverState.atRest]

theorem MoverRec.reparked_atRest {r : MoverRec} (h : r.state = .parked ∨ r.state = .halted) (lead : Option Int) :
    r.reparked lead = { r with parkedPosition := lead } := by
  rcases h with h | h <;> simp [MoverRec.reparked, h, MoverState.atRest]

/-- An operation done once for each of several movers, which for each replaces a record by one that the operation on
another mover leaves as it is. -/
theorem foldl_each {α : Type} (view : State → PerMover α) (f : State → Mover → State) (new : State → Mover → α)
    (hview : ∀ s m, view (f s m) = (view s).set m (new s m)) (hnew : ∀ s m o, o ≠ m → new (f s m) o = new s o)
    (l : List Mover) (hl : l.Nodup) (s : State) (o : Mover) :
    (view (l.foldl f s)).get o = if o ∈ l then new s o else (view s).get o := by
  induction l generalizing s with
  | nil => simp
  | cons x xs ih =>
    obtain ⟨hx, hxs⟩ := List.nodup_cons.mp hl
    rw [List.foldl_cons, ih hxs, hview, PerMover.get_set]
    by_cases ho : o = x
    · subst ho
      simp [hx]
    · simp [ho, hnew s x o ho]

/-- R12, POS: the record of every mover after its geometry has been formed anew. -/
theorem State.reformBodies_movers (s : State) (m : Mover) : s.reformBodies.pos.movers.get m = s.formedRecord m := by
  have h := foldl_each (·.pos.movers) State.formGeometry State.formedRecord
    (fun s m => by rw [State.formGeometry_eq, State.withPos_pos]) (fun s _ _ => s.formedRecord_formGeometry) allMovers
    allMovers_nodup s m
  rwa [if_pos (mem_allMovers m)] at h

/-- R12, POS: readers and axes stay as they are. -/
theorem State.reformBodies_pos (s : State) : s.reformBodies.pos.axes = s.pos.axes
    ∧ s.reformBodies.pos.primary = s.pos.primary ∧ s.reformBodies.pos.check = s.pos.check :=
  ⟨foldl_keeps (·.pos.axes) _ (fun s m => by rw [State.formGeometry_eq, State.withPos_pos]) allMovers s,
    foldl_keeps (·.pos.primary) _ (fun s m => by rw [State.formGeometry_eq, State.withPos_pos]) allMovers s,
    foldl_keeps (·.pos.check) _ (fun s m => by rw [State.formGeometry_eq, State.withPos_pos]) allMovers s⟩

/-- R12, POS: what is in flight is formed anew by the image and the directions alone. -/
theorem State.refreshUpdate_congr {s t : State} (hcs : s.cs = t.cs) (hasu : s.asu = t.asu) :
    s.refreshUpdate = t.refreshUpdate := by
  funext u
  simp only [State.refreshUpdate, State.params, State.directionOf, State.authorityOf, hcs, hasu]

theorem State.reformBodies_hand (s : State) : s.reformBodies.hand = { s.hand with
    toZt := s.hand.toZt.map s.refreshUpdate
    toAsu := s.hand.toAsu.map s.refreshUpdate
    toMsu := s.hand.toMsu.map s.refreshUpdate
    demandEvents := s.hand.demandEvents.map s.refreshEvent } := by
  have hcs : (allMovers.foldl State.formGeometry s).cs = s.cs := foldl_keeps (·.cs) _ (by simp) _ _
  have hasu : (allMovers.foldl State.formGeometry s).asu = s.asu := foldl_keeps (·.asu) _ (by simp) _ _
  have hhand : (allMovers.foldl State.formGeometry s).hand = s.hand := foldl_keeps (·.hand) _ (by simp) _ _
  have hupdate := State.refreshUpdate_congr hcs hasu
  have hevent : (allMovers.foldl State.formGeometry s).refreshEvent = s.refreshEvent := by
    funext e
    cases e <;> simp [State.refreshEvent, hupdate]
  simp only [State.reformBodies, State.withHand_hand, hhand, hupdate, hevent]

/-- R12, MSU: the record of every mover after the reparking. -/
theorem State.foldl_repark_msu (s : State) (m : Mover) :
    (allMovers.foldl State.repark s).msu.get m = s.reparkedRecord m := by
  rw [foldl_each (·.msu) State.repark State.reparkedRecord State.repark_msu (fun s _ _ => s.reparkedRecord_repark) allMovers
    allMovers_nodup, if_pos (mem_allMovers m)]

theorem State.foldl_repark_pos (s : State) : (allMovers.foldl State.repark s).pos = s.pos :=
  foldl_keeps (·.pos) _ (by simp) _ _

theorem State.takeUpImage_pos (s : State) : s.takeUpImage.pos = s.reformBodies.pos := by
  simp [State.takeUpImage, State.foldl_repark_pos]

theorem State.takeUpImage_movers (s : State) (m : Mover) : s.takeUpImage.pos.movers.get m = s.formedRecord m := by
  rw [State.takeUpImage_pos, State.reformBodies_movers]

theorem State.takeUpImage_msu (s : State) (m : Mover) : s.takeUpImage.msu.get m
    = (s.msu.get m).reparked (s.takeUpImage.pos.movers.get m).lead := by
  have hmsu : s.reformBodies.msu = s.msu := by simp
  rw [State.takeUpImage_pos]
  simp only [State.takeUpImage, State.handDemand_msu, State.rebuildZones, State.withZt_msu,
    State.foldl_repark_msu, State.reparkedRecord, hmsu]

theorem State.takeUpImage_hand (s : State) : s.takeUpImage.hand = { s.hand with
    toZt := s.hand.toZt.map s.refreshUpdate
    toAsu := s.hand.toAsu.map s.refreshUpdate
    toMsu := s.hand.toMsu.map s.refreshUpdate
    demandEvents := s.hand.demandEvents.map s.refreshEvent ++ [.commit] } := by
  have hhand : (allMovers.foldl State.repark s.reformBodies).hand = s.reformBodies.hand :=
    foldl_keeps (·.hand) _ (by simp) _ _
  simp [State.takeUpImage, hhand, State.reformBodies_hand]

/-- R12, Zone Table: the records are built from the image and the bodies formed anew. -/
theorem State.takeUpImage_zt (s : State) : s.takeUpImage.zt
    = ⟨restingZones s.cs.active s.takeUpImage.bodies .runway, restingZones s.cs.active s.takeUpImage.bodies .tray,
      s.takeUpImage.bodies⟩ := by
  have hcs : (allMovers.foldl State.repark s.reformBodies).cs = s.cs :=
    (foldl_keeps (·.cs) _ (by simp) _ _).trans (by simp)
  have hbodies : (allMovers.foldl State.repark s.reformBodies).bodies = s.takeUpImage.bodies := by
    simp only [State.bodies, State.takeUpImage_pos, State.foldl_repark_pos]
  rw [← hbodies, ← hcs]
  rfl

theorem State.takeUpImage_body (s : State) (m : Mover) :
    s.takeUpImage.zt.body.get m = (s.takeUpImage.pos.movers.get m).body := by
  rw [State.takeUpImage_zt, State.bodies_get]

theorem State.takeUpImage_zones (s : State) (q : Path) :
    s.takeUpImage.zt.zones q = restingZones s.cs.active s.takeUpImage.bodies q := by
  rw [State.takeUpImage_zt]
  cases q <;> rfl

@[simp] theorem freshZones_length (p : PathImage) : (freshZones p).length = p.zoneCount.toNat := by simp [freshZones]

theorem restingZones_length (img : Image) (body : PerMover (Option Extent)) (q : Path) :
    (restingZones img body q).length = (img.path q).zoneCount.toNat := by simp [restingZones]

/-- Whether a body overlaps a zone depends on where the zone lies alone. -/
theorem bodyOverlaps_congr (b : Option Extent) {y z : ZoneRec} (hstart : y.start = z.start) (hstop : y.stop = z.stop) :
    bodyOverlaps b y = bodyOverlaps b z := by
  cases b <;> simp [bodyOverlaps, Extent.overlaps, hstart, hstop]

theorem eq_of_restingZones_getElem? {img : Image} {body : PerMover (Option Extent)} {q : Path} {k : Nat} {z : ZoneRec}
    (h : (restingZones img body q)[k]? = some z) : z = { freshZone (img.path q) k with
      resting := (moversOn q).filter fun m => bodyOverlaps (body.get m) z } := by
  simp only [restingZones, freshZones, List.map_map, List.getElem?_map, Option.map_eq_some_iff,
    List.getElem?_eq_some_iff] at h
  obtain ⟨i, ⟨hi, hik⟩, rfl⟩ := h
  rw [List.getElem_range] at hik
  subst hik
  simp only [Function.comp_apply, ZoneRec.mk.injEq, true_and, and_true]
  exact List.filter_congr fun m _ => bodyOverlaps_congr _ rfl rfl

/-- R12: the blocks that take up the image are POS, ZT and MSU, and hand-overs change. -/
theorem State.takeUpImage_eq (s : State) : s.takeUpImage = { s with
    pos := s.takeUpImage.pos, zt := s.takeUpImage.zt, msu := s.takeUpImage.msu, hand := s.takeUpImage.hand } := by
  have hframe := s.takeUpImage_frame
  generalize s.takeUpImage = t at hframe
  obtain ⟨⟩ := t
  simp_all

/-! ## STORAGE_WRITE_COMPLETE (R11, R13) -/

/-- The state on which the blocks take up a committed image: CS holds it stored and active (R11). -/
def State.imageStored (s : State) (c : CommitRec) (img : Image) : State :=
  s.withCs ⟨⟨img, c.check⟩, true, img, none, none⟩

@[simp] theorem State.imageStored_hand (s : State) (c : CommitRec) (img : Image) : (s.imageStored c img).hand = s.hand := rfl

section
variable {s : State} {c : CommitRec} {img : Image}

theorem exec_storageWriteComplete (hr : s.slu.heldInReset = false) (ok : Bool) :
    exec (.storageWriteComplete ok) s = .next (s.endWrite ok) := by
  have : exec (.storageWriteComplete ok) s = s.whileRunning fun s => s.endWrite ok := rfl
  simp only [this, State.whileRunning, hr, Bool.false_eq_true, if_false]

theorem endWrite_matching (hc : s.cs.commit = some c) (hw : s.cs.working = some img) : s.endWrite true
    = ((s.imageStored c img).takeUpImage.changeDevice .standby).reply .venue c.tag
      (doneWith (bytesOf 4 c.check.toNat)) := by
  simp only [State.endWrite, hc, hw, if_true, State.writeSucceeds, State.imageStored]

theorem endWrite_failing (hc : s.cs.commit = some c) (hw : s.cs.working = some img) : s.endWrite false = s.writeFails c := by
  simp only [State.endWrite, hc, hw, Bool.false_eq_true, if_false]

end

/-- Settles O55, by the branches of COMMIT and of the end of the write, and block by block for the image taken up. -/
theorem commitValidatesAndWrites : Obligations.CommitValidatesAndWrites := by
  refine ⟨?commit, ?complete⟩
  case commit =>
    intro s p r hr
    have hl : (s.takeHead p).dsu.state ≠ .locked := hr.not_locked rfl
    have hrow := requestRow_commit hr.code
    refine ⟨fun h => serve_answers hr hrow (settleCommit_refused hl h),
      fun img hd hw => ⟨fun before k after h hb hk => ?_, fun hall => ?_⟩⟩
    · exact serve_answers hr hrow (settleCommit_fails hd hw (firstFailing_eq_some h hb hk))
    · have hstarts := settleCommit_starts (s := s.takeHead p) (p := p) (r := r) hd hw (firstFailing_eq_none hall)
      rw [exec_commit, serve_of_served hr _ _ hrow, hstarts]
      rfl
  case complete =>
    intro s c img hr hc hw anew
    rw [exec_storageWriteComplete hr, exec_storageWriteComplete hr, endWrite_matching hc hw, endWrite_failing hc hw]
    refine ⟨⟨(s.imageStored c img).takeUpImage, rfl, State.takeUpImage_eq _, ?axes,
      fun m => ⟨fun hx => ?bodyless, fun xs hx => ?body⟩, State.takeUpImage_body _, fun m hm => ?moving,
      fun m hm => ?atRest, fun q k z hz => ?zones, fun q => ?count, ?hand⟩,
      tornStore s.freeCount, tornStore_fails _, rfl⟩
    case axes =>
      rw [State.takeUpImage_pos]
      exact State.reformBodies_pos _
    case bodyless =>
      rw [State.takeUpImage_movers]
      exact State.formedRecord_of_none hx
    case body =>
      rw [State.takeUpImage_movers]
      exact State.formedRecord_of_some hx
    case moving =>
      rw [State.takeUpImage_msu]
      exact MoverRec.reparked_moving hm _
    case atRest =>
      rw [State.takeUpImage_msu]
      exact MoverRec.reparked_atRest hm _
    case zones =>
      rw [State.takeUpImage_zones] at hz
      have h := eq_of_restingZones_getElem? hz
      simp only [State.bodies_get] at h
      exact h
    case count =>
      rw [State.takeUpImage_zones]
      exact restingZones_length img _ q
    case hand =>
      have hupdate : (s.imageStored c img).refreshUpdate = anew := by
        funext u
        simp only [State.refreshUpdate, anew]
        cases allPresent (u.axes.map (·.position)) <;> rfl
      rw [State.takeUpImage_hand, hupdate, State.imageStored_hand]
      dsimp only
      congr 3
      funext e
      cases e <;> simp [State.refreshEvent, hupdate]

/-! ## The part after its first power-on reset (R16) -/

/-- Settles O3: the fields of the reset state, its store by `deliveredStore_fails`. -/
theorem resetIsUnconfiguredOnDefaults : Obligations.ResetIsUnconfiguredOnDefaults := by
  have hrunway : State.reset.zt.runway.length = 36 := freshZones_length defaultRunway
  have htray : State.reset.zt.tray.length = 25 := freshZones_length defaultTrayPath
  exact ⟨rfl, rfl, deliveredStore_fails, rfl, rfl, rfl, ZoneTable.initial_zones defaultImage, ⟨hrunway, htray⟩,
    fun m => by cases m <;> exact ⟨rfl, rfl⟩, rfl, rfl, fun p => by cases p <;> rfl⟩

end Sys2Proof.Machine
end

section
/-! SUPPORT. The Position Unit (chapter 2): what a good reading does to its axis, the readings set aside, the expiries of the
gap and loss timers and what POS hands on. It settles O41, O40 and O42. -/

namespace Sys2Proof.Machine

/-! ## The window, the speed and the standstill count (R25 to R27) -/

/-- The count after an accepted reading that leaves the axis at a speed (R27). -/
def standstillStep (count : Nat) (v : Int) : Nat := if absInt v ≤ 5 then min 5 (count + 1) else 0

theorem standstillStep_le (count : Nat) (v : Int) : standstillStep count v ≤ 5 := by
  unfold standstillStep
  split <;> omega

theorem AxisRec.afterAccepted_eq (r : AxisRec) : r.afterAccepted = { r with
    speed := speedFrom r.window r.speed
    standstillCount := standstillStep r.standstillCount (speedFrom r.window r.speed) } := rfl

/-- R25: an entry whose sequence number follows the newest one's by 1 to 4 joins the window, and any other starts it
again. -/
theorem enterWindow_concat (w : List WindowEntry) (n e : WindowEntry) : enterWindow (w ++ [n]) e =
    if 1 ≤ (e.sequence - n.sequence).toNat ∧ (e.sequence - n.sequence).toNat ≤ 4 then
      if 8 < w.length then (w ++ [n, e]).drop 1 else w ++ [n, e]
    else [e] := by
  have hfull : 10 < (w ++ [n, e]).length ↔ 8 < w.length := by
    rw [List.length_append]
    simp only [List.length_cons, List.length_nil]
    omega
  simp only [enterWindow, List.getLast?_concat, List.append_assoc, List.cons_append, List.nil_append, hfull]

/-- R25: a window holds at most ten entries. -/
theorem enterWindow_length_le {w : List WindowEntry} (h : w.length ≤ 10) (e : WindowEntry) :
    (enterWindow w e).length ≤ 10 := by
  rcases List.eq_nil_or_concat w with rfl | ⟨v, n, rfl⟩
  · simp [enterWindow]
  · simp only [List.concat_eq_append, List.length_append, List.length_singleton] at h ⊢
    rw [enterWindow_concat]
    split
    · split <;> simp <;> omega
    · simp

@[simp] theorem speedFrom_singleton (e : WindowEntry) (kept : Int) : speedFrom [e] kept = kept := rfl

/-- R26: the speed over a window of two or more entries. -/
theorem speedFrom_span (w : List WindowEntry) (o n : WindowEntry) (kept : Int) : speedFrom (o :: w ++ [n]) kept =
    saturate 9999 (((n.position - o.position) * 1000).tdiv (20 * (totalSpan (o :: w ++ [n]) : Int))) := by
  have hlast : (o :: w ++ [n]).getLast? = some n := List.getLast?_concat
  have hlength : 2 ≤ (o :: w ++ [n]).length := by simp
  unfold speedFrom
  rw [hlast]
  exact if_pos hlength

theorem absInt_saturate_le (limit x : Int) (h : 0 ≤ limit) : absInt (saturate limit x) ≤ limit := by
  simp only [absInt, saturate]
  omega

/-- R26: a speed taken over a window is saturated at 9,999. -/
theorem absInt_speedFrom_le {kept : Int} (h : absInt kept ≤ 9999) (w : List WindowEntry) :
    absInt (speedFrom w kept) ≤ 9999 := by
  unfold speedFrom
  split
  · split
    · exact absInt_saturate_le _ _ (by decide)
    · exact h
  · exact h

/-- R26: an entry that joins a window adds its step to the span. -/
theorem totalSpan_concat (w : List WindowEntry) (n e : WindowEntry) :
    totalSpan (w ++ [n, e]) = totalSpan (w ++ [n]) + (e.sequence - n.sequence).toNat := by
  induction w with
  | nil => simp [totalSpan]
  | cons x xs ih =>
    cases xs with
    | nil => simp [totalSpan]
    | cons y ys =>
      simp only [List.cons_append, totalSpan] at ih ⊢
      rw [ih, Nat.add_assoc]

/-! ## The axis after a good reading (R20 to R27) -/

section
variable {k : AxisRec} (e : WindowEntry)

/-- R20, R22, R23: a good primary reading of an axis that does not follow its primary starts the window again. -/
theorem AxisRec.afterGood_primary_anew (h : k.validity = .unknown ∨ k.validity = .substituted ∨ k.validity = .holding) :
    k.afterGood .primary e = { k with
      validity := .valid, position := some e.position, window := [e], source := some .primary, lossRunning := true
      standstillCount := standstillStep k.standstillCount k.speed } := by
  obtain h | h | h := h <;>
    simp [AxisRec.afterGood, AxisRec.onPrimary, AxisRec.restart, isAccepted, AxisRec.afterAccepted_eq, h]

/-- R21: a good primary reading of a Valid axis. -/
theorem AxisRec.afterGood_primary_valid (h : k.validity = .valid) : k.afterGood .primary e = { k with
    position := some e.position, window := enterWindow k.window e, source := some .primary
    speed := speedFrom (enterWindow k.window e) k.speed, lossRunning := true
    standstillCount := standstillStep k.standstillCount (speedFrom (enterWindow k.window e) k.speed) } := by
  simp [AxisRec.afterGood, AxisRec.onPrimary, AxisRec.accept, isAccepted, AxisRec.afterAccepted_eq, h]

/-- R24: a reading of a recovery chain short of its fifth. -/
theorem AxisRec.afterGood_primary_chain (h : k.validity = .invalid) (hr : k.recovery < 4) :
    k.afterGood .primary e = { k with
      position := some e.position, window := enterWindow k.window e, source := some .primary
      speed := speedFrom (enterWindow k.window e) k.speed, lossRunning := true
      standstillCount := standstillStep k.standstillCount (speedFrom (enterWindow k.window e) k.speed)
      recovery := k.recovery + 1 } := by
  have hlast : ¬ 4 ≤ k.recovery := by omega
  simp [AxisRec.afterGood, AxisRec.onPrimary, AxisRec.accept, isAccepted, AxisRec.afterAccepted_eq, h, hlast]

/-- R24: the fifth reading of a recovery chain. -/
theorem AxisRec.afterGood_primary_recovered (h : k.validity = .invalid) (hr : 4 ≤ k.recovery) :
    k.afterGood .primary e = { k with
      validity := .valid, position := some e.position, window := enterWindow k.window e, source := some .primary
      speed := speedFrom (enterWindow k.window e) k.speed, lossRunning := true
      standstillCount := standstillStep k.standstillCount (speedFrom (enterWindow k.window e) k.speed)
      recovery := 0 } := by
  simp [AxisRec.afterGood, AxisRec.onPrimary, AxisRec.accept, isAccepted, AxisRec.afterAccepted_eq, h, hr]

/-- R20, R21, R24: a good check reading of an axis that does not follow its check reader only waits to be compared. -/
theorem AxisRec.afterGood_check_marked (h : k.validity = .unknown ∨ k.validity = .valid ∨ k.validity = .invalid) :
    k.afterGood .check e = { k with freshCheck := true, lossRunning := true } := by
  obtain h | h | h := h <;> simp [AxisRec.afterGood, AxisRec.onCheck, isAccepted, h]

/-- R22: a good check reading of a Substituted axis. -/
theorem AxisRec.afterGood_check_substituted (h : k.validity = .substituted) : k.afterGood .check e = { k with
    position := some e.position, window := enterWindow k.window e, source := some .check
    speed := speedFrom (enterWindow k.window e) k.speed, freshCheck := true, lossRunning := true
    standstillCount := standstillStep k.standstillCount (speedFrom (enterWindow k.window e) k.speed) } := by
  simp [AxisRec.afterGood, AxisRec.onCheck, AxisRec.accept, isAccepted, AxisRec.afterAccepted_eq, h]

/-- R23: a good check reading of a Holding axis. -/
theorem AxisRec.afterGood_check_holding (h : k.validity = .holding) : k.afterGood .check e = { k with
    validity := .substituted, position := some e.position, window := [e], source := some .check, freshCheck := true
    lossRunning := true, standstillCount := standstillStep k.standstillCount k.speed } := by
  simp [AxisRec.afterGood, AxisRec.onCheck, AxisRec.restart, isAccepted, AxisRec.afterAccepted_eq, h]

end

/-- Settles O41: the axis by reader and validity state, then the window and the speed over it. -/
theorem axisFollowsGoodReadings : Obligations.AxisFollowsGoodReadings := by
  refine ⟨fun k e => ⟨AxisRec.afterGood_primary_anew e, AxisRec.afterGood_primary_valid e,
    AxisRec.afterGood_primary_chain e, AxisRec.afterGood_primary_recovered e, AxisRec.afterGood_check_marked e,
    AxisRec.afterGood_check_substituted e, AxisRec.afterGood_check_holding e⟩, ?_⟩
  intro w o n e kept step
  refine ⟨rfl, rfl, fun hstep hw => ?_, fun hstep hw => ?_, fun hstep => ?_, speedFrom_span w o n kept,
    totalSpan_concat w n e, rfl⟩
  · rw [enterWindow_concat, if_pos hstep, if_neg (by omega)]
  · rw [enterWindow_concat, if_pos hstep, if_pos (by simp [hw])]
    rfl
  · rw [enterWindow_concat, if_neg (by omega)]

/-! ## Which reader a reading is of, and its class (R17, R18) -/

theorem axisOfNumber_axisNumber (a : Axis) : axisOfNumber (axisNumber a) = some a := by cases a <;> rfl

theorem axisOfNumber_eq_none {n : Nat} (h : n < 1 ∨ 12 < n) : axisOfNumber n = none := by
  rw [axisOfNumber, List.find?_eq_none]
  intro a _
  have hrange : 1 ≤ axisNumber a ∧ axisNumber a ≤ 12 := by cases a <;> decide
  rw [beq_iff_eq]
  omega

/-- R17: a frame that names no reader of its bus, or whose check fails, is of no reader. -/
theorem addressee_eq_none {bus : ReaderBus} {f : ReadingFrame} (h : f.checkMatches = false ∨ f.address < 1
    ∨ 24 < f.address ∨ (bus = .a ∧ 13 ≤ f.address) ∨ (bus = .b ∧ f.address ≤ 12)) : addressee bus f = none := by
  unfold addressee
  split
  · next hcheck =>
    have haddress := h.resolve_left (by simp [hcheck])
    cases bus with
    | a =>
      simp only [true_and, reduceCtorEq, false_and, or_false] at haddress
      rw [axisOfNumber_eq_none (by omega)]
      rfl
    | b =>
      simp only [true_and, reduceCtorEq, false_and, false_or] at haddress
      dsimp only
      split
      · rw [axisOfNumber_eq_none (by omega)]
        rfl
      · rfl
  · rfl

/-- R17: the reader at an address of its own bus. -/
theorem addressee_eq_some {bus : ReaderBus} {f : ReadingFrame} {a : Axis} {role : ReaderRole}
    (hcheck : f.checkMatches = true) (hbus : bus = (if role = .primary then .a else .b))
    (haddress : f.address = readerAddress a role) : addressee bus f = some (a, role) := by
  subst hbus
  cases role with
  | primary => simp [addressee, hcheck, haddress, readerAddress, axisOfNumber_axisNumber]
  | check =>
    have hfirst : 13 ≤ axisNumber a + 12 := by cases a <;> decide
    simp [addressee, hcheck, haddress, readerAddress, axisOfNumber_axisNumber, hfirst]

section
variable {s : State} {bus : ReaderBus} {f : ReadingFrame} {a : Axis} {role : ReaderRole}

theorem exec_readingArrival (hr : s.slu.heldInReset = false) (bus : ReaderBus) (f : ReadingFrame) :
    exec (.readingArrival bus f) s = .next (s.takeReading bus f) := by
  simp [exec, execReadingArrival, State.whileRunning, hr]

theorem exec_gapTimerExpiry (hr : s.slu.heldInReset = false) (a : Axis) (role : ReaderRole) :
    exec (.gapTimerExpiry a role) s = .next (s.takeGapExpiry a role) := by
  simp [exec, execGapTimerExpiry, State.whileRunning, hr]

theorem exec_lossTimerExpiry (hr : s.slu.heldInReset = false) (a : Axis) :
    exec (.lossTimerExpiry a) s = .next (s.takeLossExpiry a) := by
  simp [exec, execLossTimerExpiry, State.whileRunning, hr]

theorem State.takeReading_of_none (h : addressee bus f = none) : s.takeReading bus f = s := by
  simp [State.takeReading, h]

theorem State.takeReading_of_missing (h : addressee bus f = some (a, role))
    (hm : f.status = .fault ∨ f.position < 0 ∨ s.pathLengthOf a < f.position) :
    s.takeReading bus f = if role = .primary then s.setAxis a (s.pos.axes.get a).breakChain else s := by
  simp [State.takeReading, h, classify, hm]

theorem State.takeReading_of_duplicate (h : addressee bus f = some (a, role))
    (hm : ¬ (f.status = .fault ∨ f.position < 0 ∨ s.pathLengthOf a < f.position))
    (hd : (s.pos.reader a role).lastSequence = some f.sequence) : s.takeReading bus f = s := by
  simp [State.takeReading, h, classify, hm, hd]

theorem State.takeReading_of_good (h : addressee bus f = some (a, role))
    (hm : ¬ (f.status = .fault ∨ f.position < 0 ∨ s.pathLengthOf a < f.position))
    (hd : (s.pos.reader a role).lastSequence ≠ some f.sequence) :
    s.takeReading bus f = s.goodReading a role f (if f.status = .warn then .warn else .ok) := by
  simp [State.takeReading, h, classify, hm, hd]

end

/-! ## Readers and axes replaced -/

@[simp] theorem Pos.setReader_axes (p : Pos) (a : Axis) (role : ReaderRole) (r : ReaderRec) :
    (p.setReader a role r).axes = p.axes := by cases role <;> rfl

@[simp] theorem Pos.setReader_movers (p : Pos) (a : Axis) (role : ReaderRole) (r : ReaderRec) :
    (p.setReader a role r).movers = p.movers := by cases role <;> rfl

@[simp] theorem Pos.setReader_primary_check (p : Pos) (a : Axis) (r : ReaderRec) :
    (p.setReader a .primary r).check = p.check := rfl

@[simp] theorem State.setAxis_pos (s : State) (a : Axis) (r : AxisRec) :
    (s.setAxis a r).pos = { s.pos with axes := s.pos.axes.set a r } := rfl

theorem State.setAxis_get_self (s : State) (a : Axis) : s.setAxis a (s.pos.axes.get a) = s := by
  simp [State.setAxis, State.withPos]

@[simp] theorem State.formGeometry_axes (s : State) (m : Mover) : (s.formGeometry m).pos.axes = s.pos.axes := by
  rw [State.formGeometry_eq]
  rfl

theorem State.handValidityChange_same {s : State} {a : Axis} {before : Validity}
    (h : before = (s.pos.axes.get a).validity) : s.handValidityChange a before = s := if_pos h

theorem State.handValidityChange_changed {s : State} {a : Axis} {before : Validity}
    (h : before ≠ (s.pos.axes.get a).validity) :
    s.handValidityChange a before = s.handValidity ⟨a, before, (s.pos.axes.get a).validity⟩ := if_neg h

/-! ## Timer expiries (R19, R21 to R24) -/

/-- A missing primary reading and a gap break the recovery chain of an Invalid axis alone (R24). -/
theorem AxisRec.breakChain_of_ne {k : AxisRec} (h : k.validity ≠ .invalid) : k.breakChain = k := if_neg h

theorem AxisRec.breakChain_of_invalid {k : AxisRec} (h : k.validity = .invalid) :
    k.breakChain = { k with recovery := 0, window := [], source := none } := if_pos h

/-- R21: an axis whose primary reader falls silent follows its check reader, where that still reads. -/
theorem AxisRec.onGapExpiry_toCheck {k : AxisRec} {c : ReaderRec} {x : Int} {n : Byte} (h : k.validity = .valid)
    (hgap : c.gapRunning = true) (hx : c.lastPosition = some x) (hn : c.lastSequence = some n) :
    k.onGapExpiry .primary c = { k with
      validity := .substituted, position := some x, window := [⟨x, n⟩], source := some .check } := by
  simp [AxisRec.onGapExpiry, AxisRec.restart, h, hgap, hx, hn]

/-- R21: with its check reader silent as well, the axis holds. -/
theorem AxisRec.onGapExpiry_toHolding {k : AxisRec} {c : ReaderRec} (h : k.validity = .valid)
    (hgap : c.gapRunning = false) : k.onGapExpiry .primary c = { k with validity := .holding } := by
  simp [AxisRec.onGapExpiry, h, hgap]

/-- R22: a Substituted axis whose check reader falls silent holds. -/
theorem AxisRec.onGapExpiry_substituted {k : AxisRec} (h : k.validity = .substituted) (c : ReaderRec) :
    k.onGapExpiry .check c = { k with validity := .holding } := by
  simp [AxisRec.onGapExpiry, h]

/-- R24. -/
theorem AxisRec.onGapExpiry_invalid {k : AxisRec} (h : k.validity = .invalid) (c : ReaderRec) :
    k.onGapExpiry .primary c = { k with recovery := 0, window := [], source := none } := by
  simp [AxisRec.onGapExpiry, h, AxisRec.breakChain_of_invalid]

/-- The gap of a reader that an axis does not follow leaves the axis as it is. -/
theorem AxisRec.onGapExpiry_unfollowed {k : AxisRec} {role : ReaderRole}
    (hprimary : role = .primary → k.validity ≠ .valid ∧ k.validity ≠ .invalid)
    (hcheck : role = .check → k.validity ≠ .substituted) (c : ReaderRec) : k.onGapExpiry role c = k := by
  cases role with
  | primary =>
    obtain ⟨hvalid, hinvalid⟩ := hprimary rfl
    unfold AxisRec.onGapExpiry
    split <;> simp_all
  | check =>
    have hv := hcheck rfl
    unfold AxisRec.onGapExpiry
    split <;> simp_all

/-- The gap of a check reader does not go by the check reader's record. -/
theorem AxisRec.onGapExpiry_check (k : AxisRec) (c d : ReaderRec) : k.onGapExpiry .check c = k.onGapExpiry .check d := by
  unfold AxisRec.onGapExpiry
  cases k.validity <;> rfl

/-- A reader's gap timer marked expired (R19). -/
def State.gapStopped (s : State) (a : Axis) (role : ReaderRole) : State :=
  s.withPos (s.pos.setReader a role { s.pos.reader a role with gapRunning := false })

theorem State.takeGapExpiry_stopped {s : State} {a : Axis} {role : ReaderRole}
    (h : (s.pos.reader a role).gapRunning = false) : s.takeGapExpiry a role = s := by
  simp [State.takeGapExpiry, h]

/-- What the expiry of a running gap timer makes of an axis, and that a change of its validity is handed on (R33). -/
theorem State.takeGapExpiry_running {s : State} {a : Axis} {role : ReaderRole} {k : AxisRec}
    (h : (s.pos.reader a role).gapRunning = true)
    (hk : (s.pos.axes.get a).onGapExpiry role (s.pos.check.get a) = k) : s.takeGapExpiry a role =
      (((s.gapStopped a role).setAxis a k).formGeometry (moverOfAxis a)).handValidityChange a
        (s.pos.axes.get a).validity := by
  have haxis : (s.pos.axes.get a).onGapExpiry role ((s.gapStopped a role).pos.check.get a) = k := by
    rw [← hk]
    cases role with
    | primary => rfl
    | check => exact AxisRec.onGapExpiry_check _ _ _
  have hbefore : (s.gapStopped a role).pos.axes = s.pos.axes := by simp [State.gapStopped]
  unfold State.takeGapExpiry
  rw [if_pos h]
  change (((s.gapStopped a role).setAxis a (((s.gapStopped a role).pos.axes.get a).onGapExpiry role
    ((s.gapStopped a role).pos.check.get a))).formGeometry (moverOfAxis a)).handValidityChange a
      ((s.gapStopped a role).pos.axes.get a).validity = _
  rw [hbefore, haxis]

theorem State.takeGapExpiry_changed {s : State} {a : Axis} {role : ReaderRole} {k : AxisRec}
    (h : (s.pos.reader a role).gapRunning = true)
    (hk : (s.pos.axes.get a).onGapExpiry role (s.pos.check.get a) = k) (hv : (s.pos.axes.get a).validity ≠ k.validity) :
    s.takeGapExpiry a role = (((s.gapStopped a role).setAxis a k).formGeometry (moverOfAxis a)).handValidity
      ⟨a, (s.pos.axes.get a).validity, k.validity⟩ := by
  rw [State.takeGapExpiry_running h hk, State.handValidityChange_changed (by simpa using hv)]
  simp

theorem State.takeGapExpiry_unchanged {s : State} {a : Axis} {role : ReaderRole} {k : AxisRec}
    (h : (s.pos.reader a role).gapRunning = true)
    (hk : (s.pos.axes.get a).onGapExpiry role (s.pos.check.get a) = k) (hv : (s.pos.axes.get a).validity = k.validity) :
    s.takeGapExpiry a role = ((s.gapStopped a role).setAxis a k).formGeometry (moverOfAxis a) := by
  rw [State.takeGapExpiry_running h hk, State.handValidityChange_same (by simpa using hv)]

theorem State.takeLossExpiry_stopped {s : State} {a : Axis} (h : (s.pos.axes.get a).lossRunning = false) :
    s.takeLossExpiry a = s := by
  simp [State.takeLossExpiry, h]

theorem State.takeLossExpiry_followed {s : State} {a : Axis} (h : (s.pos.axes.get a).lossRunning = true)
    (hv : (s.pos.axes.get a).validity ≠ .holding) :
    s.takeLossExpiry a = s.setAxis a { s.pos.axes.get a with lossRunning := false } := by
  simp [State.takeLossExpiry, h, hv]

/-- R24: a Holding axis goes Invalid, and READER LOSS is raised with the data R33 gives. -/
theorem State.takeLossExpiry_holding {s : State} {a : Axis} (h : (s.pos.axes.get a).lossRunning = true)
    (hv : (s.pos.axes.get a).validity = .holding) : s.takeLossExpiry a =
      (((s.setAxis a { s.pos.axes.get a with
        validity := .invalid, standstillCount := 0, window := [], source := none, recovery := 0
        lossRunning := false }).formMotion (moverOfAxis a)).raise ⟨.readerLoss, .one (moverOfAxis a),
          { CauseData.nothing with
            axis := some a, lead := (s.pos.movers.get (moverOfAxis a)).lead
            primary := (s.pos.primary.get a).lastPosition, check := (s.pos.check.get a).lastPosition
            speed := some (s.pos.axes.get a).speed }⟩).handValidity ⟨a, .holding, .invalid⟩ := by
  unfold State.takeLossExpiry
  rw [if_pos h, if_pos hv, State.handValidityChange_changed] <;>
    simp [State.raiseAgainstAxis, State.posData, State.formMotion, AxisRec.enterInvalid]

/-- Settles O40: readings by their addressee and class, gap expiries by what they make of the axis, loss expiries by its
validity. -/
theorem readingsSetAsideAndTimersExpire : Obligations.ReadingsSetAsideAndTimersExpire := by
  refine ⟨fun s bus f hr => ⟨fun h => ?none, fun a role hcheck hbus haddress => ?reading⟩, fun s a role hr => ?gap,
    fun s a hr => ?loss⟩
  case none => rw [exec_readingArrival hr, State.takeReading_of_none (addressee_eq_none h)]
  case reading =>
    have hsome := addressee_eq_some hcheck hbus haddress
    rw [exec_readingArrival hr]
    refine ⟨fun hm hk => ?_, fun hm hrole hk => ?_, fun hm hd => ?_⟩
    · rw [State.takeReading_of_missing hsome hm]
      split
      · next hrole =>
        subst hrole
        rw [AxisRec.breakChain_of_ne (hk.resolve_left nofun), State.setAxis_get_self]
      · rfl
    · rw [State.takeReading_of_missing hsome hm, if_pos hrole, AxisRec.breakChain_of_invalid hk]
    · rw [State.takeReading_of_duplicate hsome hm hd]
  case gap =>
    rw [exec_gapTimerExpiry hr]
    refine ⟨fun h => by rw [State.takeGapExpiry_stopped h], fun h => ⟨fun x n hrole hv hgap hx hn => ?_,
      fun hrole hv hgap => ?_, fun hrole hv => ?_, fun hrole hv => ?_, fun hprimary hcheck => ?_⟩⟩
    · subst hrole
      rw [State.takeGapExpiry_changed h (AxisRec.onGapExpiry_toCheck hv hgap hx hn) (by rw [hv]; nofun), hv]
      rfl
    · subst hrole
      rw [State.takeGapExpiry_changed h (AxisRec.onGapExpiry_toHolding hv hgap) (by rw [hv]; nofun), hv]
      rfl
    · subst hrole
      rw [State.takeGapExpiry_changed h (AxisRec.onGapExpiry_substituted hv _) (by rw [hv]; nofun), hv]
      rfl
    · subst hrole
      rw [State.takeGapExpiry_unchanged h (AxisRec.onGapExpiry_invalid hv _) rfl]
      rfl
    · rw [State.takeGapExpiry_unchanged h (AxisRec.onGapExpiry_unfollowed hprimary hcheck _) rfl]
      have hkept : (s.gapStopped a role).setAxis a (s.pos.axes.get a) = s.gapStopped a role := by
        conv_rhs => rw [← State.setAxis_get_self (s.gapStopped a role) a]
        simp [State.gapStopped]
      rw [hkept]
      rfl
  case loss =>
    rw [exec_lossTimerExpiry hr]
    exact ⟨fun h => by rw [State.takeLossExpiry_stopped h], fun h hv => by rw [State.takeLossExpiry_followed h hv],
      fun h hv => by rw [State.takeLossExpiry_holding h hv]⟩

/-! ## The cross-check of a good reading (R28) -/

/-- R28: a comparison fails where the check reader's last good position is further away than the tolerance. -/
theorem comparisonFails_eq_true (tolerance speed primary : Int) (check : Option Int) :
    comparisonFails (crossTolerance tolerance speed) primary check = true ↔ ∃ c, check = some c
      ∧ tolerance + max speed (-speed) * 40 / 1000 < max (primary - c) (c - primary) := by
  cases check with
  | none => simp [comparisonFails]
  | some c => simp [comparisonFails, crossTolerance, absInt]

/-- An axis after a good reading of a reader, compared where a fresh check reading waits, and whether it is the third
failure in a row (R28). -/
def AxisRec.compared (w : AxisRec) (role : ReaderRole) (fails : Bool) : AxisRec × Bool :=
  if role = .primary ∧ w.freshCheck = true then w.crossCheck fails else (w, false)

section
variable {w : AxisRec} {role : ReaderRole}

theorem AxisRec.compared_not (h : ¬ (role = .primary ∧ w.freshCheck = true)) (fails : Bool) :
    w.compared role fails = (w, false) := if_neg h

theorem AxisRec.compared_passes (h : role = .primary ∧ w.freshCheck = true) :
    w.compared role false = ({ w with freshCheck := false, discrepancies := 0 }, false) := by
  rw [AxisRec.compared, if_pos h]
  rfl

theorem AxisRec.compared_fails (h : role = .primary ∧ w.freshCheck = true) (hd : w.discrepancies < 2) :
    w.compared role true = ({ w with freshCheck := false, discrepancies := w.discrepancies + 1 }, false) := by
  rw [AxisRec.compared, if_pos h, AxisRec.crossCheck, if_pos rfl, if_neg (by omega)]

theorem AxisRec.compared_fails_third (h : role = .primary ∧ w.freshCheck = true) (hd : 2 ≤ w.discrepancies) :
    w.compared role true = ({ w with freshCheck := false, discrepancies := 0 }, true) := by
  rw [AxisRec.compared, if_pos h, AxisRec.crossCheck, if_pos rfl, if_pos (by omega)]

/-- A comparison touches the fresh check and the failure count alone. -/
theorem AxisRec.compared_keeps (w : AxisRec) (role : ReaderRole) (fails : Bool) :
    (w.compared role fails).1.validity = w.validity ∧ (w.compared role fails).1.speed = w.speed := by
  unfold AxisRec.compared AxisRec.crossCheck
  (repeat' split) <;> exact ⟨rfl, rfl⟩

end

/-- A good reading leaves the failure count to the comparison, and a primary one the fresh check too. -/
theorem AxisRec.afterGood_discrepancies (k : AxisRec) (role : ReaderRole) (e : WindowEntry) :
    (k.afterGood role e).discrepancies = k.discrepancies := by
  unfold AxisRec.afterGood AxisRec.onPrimary AxisRec.onCheck
  cases role <;> dsimp only <;> (repeat' split) <;> rfl

theorem AxisRec.afterGood_primary_freshCheck (k : AxisRec) (e : WindowEntry) :
    (k.afterGood .primary e).freshCheck = k.freshCheck := by
  unfold AxisRec.afterGood AxisRec.onPrimary
  dsimp only
  (repeat' split) <;> rfl

theorem isAccepted_eq_true (v : Validity) (role : ReaderRole) :
    isAccepted v role = true ↔ role = .primary ∨ v = .substituted ∨ v = .holding := by
  cases role <;> simp [isAccepted]

/-! ## What a good reading makes of POS and of what is in flight (R18, R29 to R33) -/

/-- The axis of a good reading, compared where a fresh check reading waits (R19 to R28). -/
def State.readAxis (s : State) (a : Axis) (role : ReaderRole) (f : ReadingFrame) : AxisRec × Bool :=
  let w := (s.pos.axes.get a).afterGood role ⟨f.position, f.sequence⟩
  w.compared role (comparisonFails (crossTolerance s.cs.active.general.readerTolerance w.speed) f.position
    (s.pos.check.get a).lastPosition)

/-- The state once a good reading stands in its reader's record and its axis (R18 to R29). -/
def State.readingEntered (s : State) (a : Axis) (role : ReaderRole) (f : ReadingFrame) (st : GoodStatus) : State :=
  (s.recordReading a role f st).setAxis a (s.readAxis a role f).1

/-- A mover's record formed anew from its axes: body, leads, speed and standstill (R27, R30 to R32). -/
def State.formMover (s : State) (m : Mover) : State := (s.formGeometry m).formMotion m

/-- The state once an accepted reading has formed its mover's record anew. -/
def State.readingFormed (s : State) (a : Axis) (role : ReaderRole) (f : ReadingFrame) (st : GoodStatus) : State :=
  if isAccepted (s.pos.axes.get a).validity role then (s.readingEntered a role f st).formMover (moverOfAxis a)
  else s.readingEntered a role f st

theorem State.recordReading_pos (s : State) (a : Axis) (role : ReaderRole) (f : ReadingFrame) (st : GoodStatus) :
    (s.recordReading a role f st).pos
      = s.pos.setReader a role ⟨some f.sequence, some f.position, some st, st == .warn, true⟩ := by
  unfold State.recordReading
  dsimp only
  split <;> rfl

/-- R29: a WARN that opens a run posts READER DEGRADED. -/
theorem State.recordReading_hand (s : State) (a : Axis) (role : ReaderRole) (f : ReadingFrame) (st : GoodStatus) :
    (s.recordReading a role f st).hand = { s.hand with
      postings := s.hand.postings ++ if st = .warn ∧ (s.pos.reader a role).warnRun = false then
        [⟨.pos, ownerAndVenue (moverOfAxis a), ⟨.readerDegraded, 4, .mover (moverOfAxis a), readerAddress a role⟩⟩]
        else [] } := by
  unfold State.recordReading
  dsimp only
  split
  · rfl
  · simp

/-- The comparison of the axis as it stands (R28). -/
theorem State.crossCheckAxis_eq (s : State) (a : Axis) (role : ReaderRole) (position : Int) :
    s.crossCheckAxis a role position =
      let x := (s.pos.axes.get a).compared role (comparisonFails (crossTolerance s.cs.active.general.readerTolerance
        (s.pos.axes.get a).speed) position (s.pos.check.get a).lastPosition)
      (s.setAxis a x.1, x.2) := by
  unfold State.crossCheckAxis
  dsimp only
  by_cases h : role = .primary ∧ (s.pos.axes.get a).freshCheck = true
  · rw [if_pos h, AxisRec.compared, if_pos h]
  · rw [if_neg h, AxisRec.compared_not h, State.setAxis_get_self]

theorem State.setAxis_setAxis (s : State) (a : Axis) (x y : AxisRec) : (s.setAxis a x).setAxis a y = s.setAxis a y := by
  simp [State.setAxis, State.withPos]

theorem State.crossCheckAxis_entered (s : State) (a : Axis) (role : ReaderRole) (f : ReadingFrame) (st : GoodStatus) :
    ((s.recordReading a role f st).setAxis a
        ((s.pos.axes.get a).afterGood role ⟨f.position, f.sequence⟩)).crossCheckAxis a role f.position
      = (s.readingEntered a role f st, (s.readAxis a role f).2) := by
  rw [State.crossCheckAxis_eq]
  unfold State.readingEntered State.readAxis
  cases role with
  | primary => simp [State.setAxis_setAxis, State.recordReading_pos]
  | check =>
    have hcheck : ∀ (x : AxisRec) fails, x.compared .check fails = (x, false) :=
      fun x => AxisRec.compared_not (fun h => nomatch h.1)
    simp [State.setAxis_setAxis, hcheck]

/-- A good reading taken, as what is handed on of the state with the mover's record formed (R33). -/
theorem State.goodReading_eq (s : State) (a : Axis) (role : ReaderRole) (f : ReadingFrame) (st : GoodStatus) :
    s.goodReading a role f st =
      let s3 := s.readingFormed a role f st
      let s4 := if (s.readAxis a role f).2 then s3.raiseAgainstAxis .readerDiscrepancy a else s3
      let s5 := s4.handValidityChange a (s.pos.axes.get a).validity
      if isAccepted (s.pos.axes.get a).validity role then
        s5.handUpdate (s5.positionUpdate (moverOfAxis a) a (!(s.pos.movers.get (moverOfAxis a)).body.isSome
          && (s5.pos.movers.get (moverOfAxis a)).body.isSome))
      else s5 := by
  unfold State.goodReading
  dsimp only
  rw [State.crossCheckAxis_entered]
  rfl

theorem State.formMover_pos (s : State) (m : Mover) : (s.formMover m).pos = { s.pos with
    movers := s.pos.movers.set m { s.formedRecord m with
      speed := greatest ((axesOf m).map fun x => absInt (s.pos.axes.get x).speed)
      standstill := (axesOf m).all fun x => (s.pos.axes.get x).standstill } } := by
  simp [State.formMover, State.formMotion, State.formGeometry_eq]

theorem State.readingEntered_pos (s : State) (a : Axis) (role : ReaderRole) (f : ReadingFrame) (st : GoodStatus) :
    (s.readingEntered a role f st).pos =
      { s.pos.setReader a role ⟨some f.sequence, some f.position, some st, st == .warn, true⟩ with
        axes := s.pos.axes.set a (s.readAxis a role f).1 } := by
  simp [State.readingEntered, State.recordReading_pos]

theorem State.readingFormed_hand (s : State) (a : Axis) (role : ReaderRole) (f : ReadingFrame) (st : GoodStatus) :
    (s.readingFormed a role f st).hand = (s.recordReading a role f st).hand := by
  unfold State.readingFormed State.formMover State.readingEntered
  split <;> simp

theorem State.posData_congr {s t : State} (h : s.pos = t.pos) (a : Axis) : s.posData a = t.posData a := by
  simp [State.posData, h]

theorem State.positionUpdate_congr {s t : State} (h : s.pos = t.pos) (m : Mover) (a : Axis) (first : Bool) :
    s.positionUpdate m a first = t.positionUpdate m a first := by
  simp [State.positionUpdate, h]

theorem State.raiseIf_hand (s : State) (third : Bool) (c : Cause) (a : Axis) :
    (if third then s.raiseAgainstAxis c a else s).hand = { s.hand with
      causes := s.hand.causes ++ if third then [⟨c, .one (moverOfAxis a), s.posData a⟩] else [] } := by
  cases third
  · simp
  · rfl

theorem State.handValidityChange_hand (s : State) (a : Axis) (before : Validity) :
    (s.handValidityChange a before).hand = { s.hand with validity := s.hand.validity
      ++ if before = (s.pos.axes.get a).validity then [] else [⟨a, before, (s.pos.axes.get a).validity⟩] } := by
  unfold State.handValidityChange
  dsimp only
  split
  · simp
  · rfl

theorem State.handUpdate_hand (s : State) (u : PositionUpdate) : (s.handUpdate u).hand = { s.hand with
    toZt := s.hand.toZt ++ [u], toAsu := s.hand.toAsu ++ [u], toMsu := s.hand.toMsu ++ [u]
    demandEvents := s.hand.demandEvents ++ [.bodyChange u] } := rfl

section
variable (s : State) (a : Axis) (role : ReaderRole) (f : ReadingFrame) (st : GoodStatus)

theorem State.goodReading_pos : (s.goodReading a role f st).pos = (s.readingFormed a role f st).pos := by
  rw [State.goodReading_eq]
  dsimp only
  (repeat' split) <;> simp

theorem State.goodReading_reader : (s.goodReading a role f st).pos.reader a role
    = ⟨some f.sequence, some f.position, some st, st == .warn, true⟩ := by
  rw [State.goodReading_pos, State.readingFormed]
  split <;> cases role <;> simp [State.formMover_pos, State.readingEntered_pos, Pos.reader, Pos.setReader]

theorem State.goodReading_otherReader {b : Axis} {other : ReaderRole} (h : b ≠ a ∨ other ≠ role) :
    (s.goodReading a role f st).pos.reader b other = s.pos.reader b other := by
  rw [State.goodReading_pos, State.readingFormed]
  split <;> cases role <;> cases other <;> simp only [ne_eq, reduceCtorEq, not_true, not_false_eq_true, or_false,
      or_true] at h <;>
    simp [State.formMover_pos, State.readingEntered_pos, Pos.reader, Pos.setReader, PerAxis.get_set_of_ne, h]

theorem State.goodReading_axes :
    (s.goodReading a role f st).pos.axes = s.pos.axes.set a (s.readAxis a role f).1 := by
  rw [State.goodReading_pos, State.readingFormed]
  split <;> simp [State.formMover_pos, State.readingEntered_pos]

end

section
variable (s : State) (a : Axis) (role : ReaderRole) (f : ReadingFrame) (st : GoodStatus)

theorem State.goodReading_movers_of_not (h : ¬ isAccepted (s.pos.axes.get a).validity role = true) :
    (s.goodReading a role f st).pos.movers = s.pos.movers := by
  rw [State.goodReading_pos, State.readingFormed, if_neg h, State.readingEntered_pos]
  simp

/-- The other movers' records stay as they are. -/
theorem State.goodReading_otherMover {q : Mover} (h : q ≠ moverOfAxis a) :
    (s.goodReading a role f st).pos.movers.get q = s.pos.movers.get q := by
  rw [State.goodReading_pos, State.readingFormed]
  split <;> simp [State.formMover_pos, State.readingEntered_pos, PerMover.get_set_of_ne, h]

theorem Pos.positions_congr {p q : Pos} (h : p.axes = q.axes) (m : Mover) : p.positions m = q.positions m := by
  simp [Pos.positions, h]

/-- An accepted reading forms its mover's record anew (R27, R30 to R32). -/
theorem State.goodReading_mover (h : isAccepted (s.pos.axes.get a).validity role = true) :
    (s.goodReading a role f st).pos.movers.get (moverOfAxis a) =
      { (s.pos.movers.get (moverOfAxis a)).formed (s.params (moverOfAxis a)) (s.directionOf (moverOfAxis a))
          (s.moverState (moverOfAxis a)) ((s.goodReading a role f st).pos.positions (moverOfAxis a)) with
        speed := greatest ((axesOf (moverOfAxis a)).map fun x =>
          absInt ((s.goodReading a role f st).pos.axes.get x).speed)
        standstill := (axesOf (moverOfAxis a)).all fun x => ((s.goodReading a role f st).pos.axes.get x).standstill } := by
  have haxes : (s.readingEntered a role f st).pos.axes = (s.goodReading a role f st).pos.axes := by
    rw [State.readingEntered_pos, State.goodReading_axes]
  have hformed : (s.readingEntered a role f st).formedRecord (moverOfAxis a) =
      (s.pos.movers.get (moverOfAxis a)).formed (s.params (moverOfAxis a)) (s.directionOf (moverOfAxis a))
        (s.moverState (moverOfAxis a)) ((s.goodReading a role f st).pos.positions (moverOfAxis a)) := by
    rw [State.formedRecord, Pos.positions_congr haxes]
    simp [State.readingEntered, State.recordReading_pos, State.params, State.directionOf, State.authorityOf,
      State.moverState]
  rw [← haxes, ← hformed, State.goodReading_pos, State.readingFormed, if_pos h, State.formMover_pos,
    PerMover.get_set_self]

/-- What a good reading adds to what is in flight (R28, R29, R33). -/
theorem State.goodReading_hand :
    let t := s.goodReading a role f st
    let before := (s.pos.axes.get a).validity
    let u := t.positionUpdate (moverOfAxis a) a (!(s.pos.movers.get (moverOfAxis a)).body.isSome
      && (t.pos.movers.get (moverOfAxis a)).body.isSome)
    let updates := if isAccepted before role then [u] else []
    t.hand = { s.hand with
      toZt := s.hand.toZt ++ updates, toAsu := s.hand.toAsu ++ updates, toMsu := s.hand.toMsu ++ updates
      demandEvents := s.hand.demandEvents ++ updates.map .bodyChange
      causes := s.hand.causes ++ if (s.readAxis a role f).2 then
        [⟨.readerDiscrepancy, .one (moverOfAxis a), t.posData a⟩] else []
      validity := s.hand.validity ++ if before = (t.pos.axes.get a).validity then []
        else [⟨a, before, (t.pos.axes.get a).validity⟩]
      postings := s.hand.postings ++ if st = .warn ∧ (s.pos.reader a role).warnRun = false then
        [⟨.pos, ownerAndVenue (moverOfAxis a), ⟨.readerDegraded, 4, .mover (moverOfAxis a), readerAddress a role⟩⟩]
        else [] } := by
  intro t before u updates
  have hpos : (s.readingFormed a role f st).pos = t.pos := (s.goodReading_pos a role f st).symm
  have hraised : (if (s.readAxis a role f).2 then (s.readingFormed a role f st).raiseAgainstAxis .readerDiscrepancy a
      else s.readingFormed a role f st).pos = t.pos := by
    rw [← hpos]
    split <;> simp
  have hhand : t.hand = _ := congrArg State.hand (s.goodReading_eq a role f st)
  dsimp only at hhand
  rw [hhand]
  by_cases hacc : isAccepted (s.pos.axes.get a).validity role = true
  · have hu : updates = [u] := if_pos hacc
    rw [if_pos hacc, State.handUpdate_hand, State.handValidityChange_hand, State.raiseIf_hand,
      State.readingFormed_hand, State.recordReading_hand, hraised, State.posData_congr hpos, hu,
      State.positionUpdate_congr (t := t) (by rw [(State.handValidityChange_frame _ _ _).2.1, hraised]),
      (State.handValidityChange_frame _ _ _).2.1, hraised]
    rfl
  · have hu : updates = [] := if_neg hacc
    rw [if_neg hacc, State.handValidityChange_hand, State.raiseIf_hand, State.readingFormed_hand,
      State.recordReading_hand, hraised, State.posData_congr hpos, hu]
    simp only [List.append_nil, List.map_nil]
    rfl

/-- A good reading changes POS and what is in flight alone. -/
theorem State.goodReading_state : s.goodReading a role f st = { s with
    pos := (s.goodReading a role f st).pos, hand := (s.goodReading a role f st).hand } := by
  have hframe := s.goodReading_frame a role f st
  generalize s.goodReading a role f st = t at hframe
  obtain ⟨⟩ := t
  simp_all

end

section
variable (s : State) (a : Axis) (role : ReaderRole) (f : ReadingFrame)

theorem State.readAxis_keeps : (s.readAxis a role f).1.validity
      = ((s.pos.axes.get a).afterGood role ⟨f.position, f.sequence⟩).validity
    ∧ (s.readAxis a role f).1.speed = ((s.pos.axes.get a).afterGood role ⟨f.position, f.sequence⟩).speed :=
  AxisRec.compared_keeps _ _ _

/-- When a reading is compared, in the words of the axis before it (R28). -/
theorem AxisRec.afterGood_compared_iff (k : AxisRec) (role : ReaderRole) (e : WindowEntry) :
    role = .primary ∧ (k.afterGood role e).freshCheck = true ↔ role = .primary ∧ k.freshCheck = true := by
  refine and_congr_right fun h => ?_
  subst h
  rw [AxisRec.afterGood_primary_freshCheck]

end

/-- R32: the furthest lead against the lead formed anew. -/
theorem PosMover.formed_furthest {r : PosMover} {p : MoverParams} {d : Direction} {st : MoverState} {xs : List Int}
    {x l : Int} (hf : r.furthest = some x) (hl : (r.formed p d st (some xs)).lead = some l) :
    (r.formed p d st (some xs)).furthest
      = some (if (st = .permitted ∨ st = .stopping) ∧ x * d.sign < l * d.sign then l else x) := by
  obtain rfl : leadOf p xs d = l := Option.some.inj hl
  simp [PosMover.formed, advanceFurthest_eq, hf]

/-- A position update of a state, field by field (R33). -/
theorem State.positionUpdate_eq (t : State) (m : Mover) (a : Axis) (first : Bool) : t.positionUpdate m a first =
    { mover := m, axis := a, first := first
      axes := (axesOf m).map fun x => ⟨x, (t.pos.axes.get x).position, (t.pos.axes.get x).speed,
        (t.pos.axes.get x).validity, decide ((t.pos.axes.get x).standstillCount = 5)⟩
      body := (t.pos.movers.get m).body, lead := (t.pos.movers.get m).lead
      furthest := (t.pos.movers.get m).furthest, speed := (t.pos.movers.get m).speed
      standstill := (t.pos.movers.get m).standstill } := rfl

/-- R33: the data of READER DISCREPANCY, which only a good primary reading raises. -/
theorem State.goodReading_posData (s : State) (a : Axis) (f : ReadingFrame) (st : GoodStatus) :
    (s.goodReading a .primary f st).posData a = { CauseData.nothing with
      axis := some a, lead := ((s.goodReading a .primary f st).pos.movers.get (moverOfAxis a)).lead
      primary := some f.position, check := (s.pos.check.get a).lastPosition
      speed := some ((s.pos.axes.get a).afterGood .primary ⟨f.position, f.sequence⟩).speed } := by
  have hprimary : (s.goodReading a .primary f st).pos.primary.get a = _ := s.goodReading_reader a .primary f st
  have hcheck : (s.goodReading a .primary f st).pos.check.get a = s.pos.check.get a :=
    s.goodReading_otherReader a .primary f st (b := a) (other := .check) (.inr nofun)
  rw [State.posData, hprimary, hcheck, State.goodReading_axes, PerAxis.get_set_self, (s.readAxis_keeps a .primary f).2]

section
variable {s : State} {a : Axis} {role : ReaderRole} {f : ReadingFrame}

/-- R28: the comparison of a good reading fails, in the words of the state before it. -/
def State.ComparisonFails (s : State) (a : Axis) (role : ReaderRole) (f : ReadingFrame) : Prop :=
  ∃ c, (s.pos.check.get a).lastPosition = some c ∧ s.cs.active.general.readerTolerance
    + max ((s.pos.axes.get a).afterGood role ⟨f.position, f.sequence⟩).speed
      (-((s.pos.axes.get a).afterGood role ⟨f.position, f.sequence⟩).speed) * 40 / 1000
    < max (f.position - c) (c - f.position)

theorem State.readAxis_uncompared (h : ¬ (role = .primary ∧ (s.pos.axes.get a).freshCheck = true)) :
    s.readAxis a role f = ((s.pos.axes.get a).afterGood role ⟨f.position, f.sequence⟩, false) :=
  AxisRec.compared_not (mt (AxisRec.afterGood_compared_iff _ role _).mp h) _

theorem State.readAxis_passes (h : role = .primary ∧ (s.pos.axes.get a).freshCheck = true)
    (hp : ¬ s.ComparisonFails a role f) : s.readAxis a role f =
      ({ (s.pos.axes.get a).afterGood role ⟨f.position, f.sequence⟩ with freshCheck := false, discrepancies := 0 },
        false) := by
  have hfails := Bool.eq_false_iff.mpr (mt (comparisonFails_eq_true _ _ _ _).mp hp)
  rw [State.readAxis, hfails, AxisRec.compared_passes ((AxisRec.afterGood_compared_iff _ role _).mpr h)]

theorem State.readAxis_fails (h : role = .primary ∧ (s.pos.axes.get a).freshCheck = true)
    (hf : s.ComparisonFails a role f) (hd : (s.pos.axes.get a).discrepancies < 2) : s.readAxis a role f =
      ({ (s.pos.axes.get a).afterGood role ⟨f.position, f.sequence⟩ with
        freshCheck := false, discrepancies := (s.pos.axes.get a).discrepancies + 1 }, false) := by
  have hfails := (comparisonFails_eq_true _ _ _ _).mpr hf
  rw [State.readAxis, hfails, AxisRec.compared_fails ((AxisRec.afterGood_compared_iff _ role _).mpr h)
    (by rwa [AxisRec.afterGood_discrepancies]), AxisRec.afterGood_discrepancies]

theorem State.readAxis_fails_third (h : role = .primary ∧ (s.pos.axes.get a).freshCheck = true)
    (hf : s.ComparisonFails a role f) (hd : 2 ≤ (s.pos.axes.get a).discrepancies) : s.readAxis a role f =
      ({ (s.pos.axes.get a).afterGood role ⟨f.position, f.sequence⟩ with freshCheck := false, discrepancies := 0 },
        true) := by
  have hfails := (comparisonFails_eq_true _ _ _ _).mpr hf
  rw [State.readAxis, hfails, AxisRec.compared_fails_third ((AxisRec.afterGood_compared_iff _ role _).mpr h)
    (by rwa [AxisRec.afterGood_discrepancies])]

/-- R28: no cause is raised short of the third failure in a row. -/
theorem State.readAxis_quiet (h : ¬ (role = .primary ∧ (s.pos.axes.get a).freshCheck = true)
    ∨ ¬ s.ComparisonFails a role f ∨ (s.pos.axes.get a).discrepancies < 2) : (s.readAxis a role f).2 = false := by
  by_cases hc : role = .primary ∧ (s.pos.axes.get a).freshCheck = true
  · by_cases hf : s.ComparisonFails a role f
    · rw [State.readAxis_fails hc hf ((h.resolve_left (not_not_intro hc)).resolve_left (not_not_intro hf))]
    · rw [State.readAxis_passes hc hf]
  · rw [State.readAxis_uncompared hc]

end

/-- Settles O42: the reading's place in POS by the `goodReading_…` lemmas, the comparison by the `readAxis_…` lemmas,
what is handed on by `State.goodReading_hand` and the mover's record by `State.goodReading_mover`. -/
theorem goodReadingTaken : Obligations.GoodReadingTaken := by
  intro s bus f a role hr hcheck hbus haddress hfault hlow hhigh hseq m g k w compared fails accepted
  have hmissing : ¬ (f.status = .fault ∨ f.position < 0 ∨ s.pathLengthOf a < f.position) := by
    rintro (h | h | h)
    · exact hfault h
    · omega
    · omega
  let st : GoodStatus := if f.status = .warn then .warn else .ok
  have hst : st = .warn ↔ f.status = .warn := by
    by_cases h : f.status = .warn <;> simp [st, h]
  have hwarn : (st == .warn) = (f.status == .warn) := by rw [Bool.eq_iff_iff, beq_iff_eq, beq_iff_eq, hst]
  have haccepted : isAccepted k.validity role = true ↔ accepted := isAccepted_eq_true _ _
  have hhand := s.goodReading_hand a role f st
  have haxis : (s.goodReading a role f st).pos.axes.get a = (s.readAxis a role f).1 := by
    rw [State.goodReading_axes, PerAxis.get_set_self]
  refine ⟨s.goodReading a role f st, ?taken, ?rest, ?reader, fun a' role' h => s.goodReading_otherReader a role f st h,
    fun a' h => ?otherAxis, fun q h => s.goodReading_otherMover a role f st h, fun hc => ?uncompared,
    fun hc hp => ?passes, fun hc hf hd => ?fails, fun hc hf hd => ⟨?thirdAxis, ?thirdCause⟩, fun hc => ?noCause,
    ?validity, ?postings, fun hacc => ?unaccepted, fun hacc => ?accepted⟩
  case taken =>
    rw [exec_readingArrival hr, State.takeReading_of_good (addressee_eq_some hcheck hbus haddress) hmissing hseq]
  case rest =>
    conv_lhs => rw [State.goodReading_state, hhand]
    rw [hhand]
  case reader => rw [State.goodReading_reader, hwarn]
  case otherAxis => rw [State.goodReading_axes, PerAxis.get_set_of_ne _ _ _ _ h]
  case uncompared => rw [haxis, State.readAxis_uncompared hc]
  case passes => rw [haxis, State.readAxis_passes hc hp]
  case fails => rw [haxis, State.readAxis_fails hc hf hd]
  case thirdAxis => rw [haxis, State.readAxis_fails_third hc hf hd]
  case thirdCause =>
    have hthird := State.readAxis_fails_third hc hf hd
    obtain ⟨rfl, _⟩ := hc
    rw [hhand, State.goodReading_posData, hthird]
    rfl
  case noCause =>
    rw [hhand, State.readAxis_quiet hc]
    simp
  case validity =>
    rw [hhand, haxis, (s.readAxis_keeps a role f).1]
  case postings =>
    rw [hhand, haddress]
    simp only [hst]
    rfl
  case unaccepted =>
    have hnot : ¬ isAccepted (s.pos.axes.get a).validity role = true := mt haccepted.mp hacc
    rw [hhand, State.goodReading_movers_of_not s a role f st hnot]
    simp [hnot]
  case accepted =>
    have hacc' : isAccepted (s.pos.axes.get a).validity role = true := haccepted.mpr hacc
    have hmover := s.goodReading_mover a role f st hacc'
    rw [hhand]
    simp only [hacc', if_true, List.map_cons, List.map_nil]
    generalize s.goodReading a role f st = t at hmover
    refine ⟨_, rfl, rfl, rfl, rfl, ?update, ?speed, ?standstill, fun hx => ?bodiless, fun xs hx => ⟨?body, fun hd => ?south,
      fun hd => ?north, fun x l hf hl => ?furthest⟩⟩
    case update => rw [State.positionUpdate_eq, Option.not_isSome]
    case speed =>
      rw [hmover]
      rfl
    case standstill =>
      rw [hmover]
      simp only [List.all_eq_true, AxisRec.standstill, beq_iff_eq]
      rfl
    case bodiless =>
      rw [hmover, hx]
      exact ⟨rfl, rfl⟩
    case body =>
      rw [hmover, hx]
      rfl
    case south =>
      rw [hmover, hx, hd]
      rfl
    case north =>
      rw [hmover, hx, hd]
      rfl
    case furthest =>
      rw [hmover, hx] at hl ⊢
      exact PosMover.formed_furthest hf hl

end Sys2Proof.Machine
end

section
/-! SUPPORT. The bounds of windows and counts, of the wind history, of request queues, reply outputs, masks and notice
queues, and the order in the fault record: each operation on one record keeps its record's law, and every command keeps
the laws of all records. It settles O59. -/

namespace Sys2Proof.Machine

/-! ## Axis records (R20 to R28) -/

section
variable {k : AxisRec}

theorem AxisRec.sound_initial : AxisRec.initial.Sound := by
  simp [AxisRec.Sound, AxisRec.initial, absInt]

/-- A good reading keeps an axis within its bounds, by reader and validity state. -/
theorem AxisRec.Sound.afterGood (h : k.Sound) (role : ReaderRole) (e : WindowEntry) : (k.afterGood role e).Sound := by
  obtain ⟨hwindow, hcount, hdisc, hrecovery, hspeed, hposition⟩ := h
  have hwin : (enterWindow k.window e).length ≤ 10 := enterWindow_length_le hwindow e
  have hv : absInt (speedFrom (enterWindow k.window e) k.speed) ≤ 9999 := absInt_speedFrom_le hspeed _
  have hstep : ∀ v, standstillStep k.standstillCount v ≤ 5 := standstillStep_le _
  cases role with
  | primary =>
    cases hk : k.validity with
    | unknown | substituted | holding =>
      rw [AxisRec.afterGood_primary_anew e (by simp [hk])]
      simp [AxisRec.Sound, hstep, hdisc, hrecovery, hspeed]
    | valid =>
      rw [AxisRec.afterGood_primary_valid e hk]
      simp [AxisRec.Sound, hk, hwin, hv, hstep, hdisc, hrecovery]
    | invalid =>
      by_cases hr : k.recovery < 4
      · rw [AxisRec.afterGood_primary_chain e hk hr]
        simp [AxisRec.Sound, hk, hwin, hv, hstep, hdisc, Nat.succ_le_of_lt hr]
      · rw [AxisRec.afterGood_primary_recovered e hk (Nat.le_of_not_lt hr)]
        simp [AxisRec.Sound, hwin, hv, hstep, hdisc]
  | check =>
    cases hk : k.validity with
    | unknown | valid | invalid =>
      rw [AxisRec.afterGood_check_marked e (by simp [hk])]
      exact ⟨hwindow, hcount, hdisc, hrecovery, hspeed, hposition⟩
    | substituted =>
      rw [AxisRec.afterGood_check_substituted e hk]
      simp [AxisRec.Sound, hk, hwin, hv, hstep, hdisc, hrecovery]
    | holding =>
      rw [AxisRec.afterGood_check_holding e hk]
      simp [AxisRec.Sound, hstep, hdisc, hrecovery, hspeed]

/-- A comparison keeps the failure count below 3 (R28). -/
theorem AxisRec.Sound.compared (h : k.Sound) (role : ReaderRole) (fails : Bool) : (k.compared role fails).1.Sound := by
  obtain ⟨hwindow, hcount, hdisc, hrest⟩ := h
  unfold AxisRec.compared AxisRec.crossCheck
  split
  · split
    · split
      · exact ⟨hwindow, hcount, Nat.zero_le _, hrest⟩
      · next hthird => exact ⟨hwindow, hcount, Nat.le_of_lt_succ (Nat.lt_of_not_le hthird), hrest⟩
    · exact ⟨hwindow, hcount, Nat.zero_le _, hrest⟩
  · exact ⟨hwindow, hcount, hdisc, hrest⟩

theorem AxisRec.Sound.breakChain (h : k.Sound) : k.breakChain.Sound := by
  obtain ⟨_, hcount, hdisc, _, hrest⟩ := id h
  unfold AxisRec.breakChain
  split
  · exact ⟨Nat.zero_le _, hcount, hdisc, Nat.zero_le _, hrest⟩
  · exact h

/-- The expiry of a gap timer starts or empties the window, or changes a validity other than Unknown. -/
theorem AxisRec.Sound.onGapExpiry (h : k.Sound) (role : ReaderRole) (c : ReaderRec) : (k.onGapExpiry role c).Sound := by
  obtain ⟨hwindow, hcount, hdisc, hrecovery, hspeed, hposition⟩ := id h
  unfold AxisRec.onGapExpiry
  split
  · next hk =>
    have hheld : k.position ≠ none := by simp [hposition, hk]
    split
    · exact ⟨by simp [AxisRec.restart], hcount, hdisc, hrecovery, hspeed, by simp [AxisRec.restart]⟩
    · exact ⟨hwindow, hcount, hdisc, hrecovery, hspeed, by simp [hheld]⟩
  · exact h.breakChain
  · next hk =>
    have hheld : k.position ≠ none := by simp [hposition, hk]
    exact ⟨hwindow, hcount, hdisc, hrecovery, hspeed, by simp [hheld]⟩
  · exact h

/-- R24: a Holding axis that goes Invalid keeps its position. -/
theorem AxisRec.Sound.enterInvalid (h : k.Sound) (hk : k.validity = .holding) : k.enterInvalid.Sound := by
  obtain ⟨_, _, hdisc, _, hspeed, hposition⟩ := h
  exact ⟨Nat.zero_le _, Nat.zero_le _, hdisc, Nat.zero_le _, hspeed, by simp [AxisRec.enterInvalid, hposition, hk]⟩

end

/-! ## The wind (R127 to R131) -/

theorem Wm.sound_initial : Wm.initial.Sound := by
  refine ⟨fun x => ?_, by decide, fun _ => rfl, fun _ => rfl⟩
  cases x <;> decide

/-- R127: a pulse counted. -/
theorem Wm.Sound.pulse {w : Wm} (h : w.Sound) (which : Anemometer) :
    Wm.Sound { w with anemometers := w.anemometers.modify which AnemometerRec.count1 } := by
  obtain ⟨hanemometers, hrest⟩ := h
  refine ⟨fun x => ?_, hrest⟩
  dsimp only
  rw [PerAnemometer.get_modify]
  split
  · exact ⟨Nat.min_le_left _ _, (hanemometers which).2⟩
  · exact hanemometers x

/-- R129: a closure takes the count and bounds the stuck count. -/
theorem AnemometerRec.close_bounds (a : AnemometerRec) (value otherValue : Int) (otherFailed : Bool) :
    (a.close value otherValue otherFailed).count ≤ 65535 ∧ (a.close value otherValue otherFailed).stuck ≤ 30 := by
  unfold AnemometerRec.close
  split
  · exact ⟨Nat.zero_le _, Nat.zero_le _⟩
  · split
    · exact ⟨Nat.zero_le _, Nat.min_le_left _ _⟩
    · exact ⟨Nat.zero_le _, Nat.zero_le _⟩

/-- R130: the history holds at most 60 values. -/
theorem enterHistory_length_le {h : List Int} (hh : h.length ≤ 60) (v : Option Int) : (enterHistory h v).length ≤ 60 := by
  cases v with
  | none => exact Nat.zero_le _
  | some x =>
    simp only [enterHistory]
    split <;> simp at * <;> omega

/-- R131: the calm count runs in Limit alone. -/
theorem settleWind_calmCount {g : General} {mean gust : Int} {st : WindState} {calm : Nat}
    (h : (settleWind g mean gust st calm).1 ≠ .limit) : (settleWind g mean gust st calm).2 = 0 := by
  unfold settleWind at h ⊢
  (repeat' split) <;> simp_all

/-- R131: a closure leaves WM within its bounds. -/
theorem Wm.Sound.close {w : Wm} (h : w.Sound) (g : General) : (w.close g).Sound := by
  obtain ⟨_, hhistory, _, _⟩ := h
  refine ⟨fun x => ?_, enterHistory_length_le hhistory _, ?_, fun hshort => ?_⟩
  · simp only [Wm.close, closeAnemometers, PerAnemometer.get_ofFn]
    exact AnemometerRec.close_bounds _ _ _ _
  · simp only [Wm.close]
    split
    · exact fun _ => rfl
    · exact settleWind_calmCount
  · simp only [Wm.close] at hshort ⊢
    rw [if_pos (.inl hshort)]

/-! ## Ports (R149 to R158) -/

theorem PortRec.sound_initial : PortRec.initial.Sound := by
  simp [PortRec.Sound, PortRec.initial, servedReplies, busyReplies, Timer.isRunning]

theorem servedReplies_concat (out : List ReplyFrame) (f : ReplyFrame) :
    servedReplies (out ++ [f]) = servedReplies out + if f.kind = .busy then 0 else 1 := by
  by_cases h : f.kind = .busy <;> simp [servedReplies, h]

theorem busyReplies_concat (out : List ReplyFrame) (f : ReplyFrame) :
    busyReplies (out ++ [f]) = busyReplies out + if f.kind = .busy then 1 else 0 := by
  by_cases h : f.kind = .busy <;> simp [busyReplies, h]

/-- Sending a frame leaves no more of either kind (R152). -/
theorem replies_cons_le (f : ReplyFrame) (out : List ReplyFrame) :
    servedReplies out ≤ servedReplies (f :: out) ∧ busyReplies out ≤ busyReplies (f :: out) :=
  ⟨((List.sublist_cons_self f out).filter _).length_le, ((List.sublist_cons_self f out).filter _).length_le⟩

section
variable {r : PortRec}

/-- The receiver and the complete frames stand outside the bounds of a port. -/
theorem PortRec.Sound.withReceiver (h : r.Sound) (x : Receiver) (fs : List (List Byte)) :
    PortRec.Sound { r with receiver := x, complete := fs } := h

theorem PortRec.byte_keeps (r : PortRec) (b : Byte) (framingError : Bool) :
    ∃ x fs, r.byte b framingError = { r with receiver := x, complete := fs } := by
  unfold PortRec.byte PortRec.receive
  dsimp only
  (repeat' split) <;> exact ⟨_, _, rfl⟩

theorem PortRec.Sound.byte (h : r.Sound) (b : Byte) (framingError : Bool) : (r.byte b framingError).Sound := by
  obtain ⟨x, fs, heq⟩ := r.byte_keeps b framingError
  rw [heq]
  exact h.withReceiver x fs

theorem PortRec.byte_served (r : PortRec) (b : Byte) (framingError : Bool) :
    servedReplies (r.byte b framingError).output = servedReplies r.output := by
  obtain ⟨x, fs, heq⟩ := r.byte_keeps b framingError
  rw [heq]

/-- R151, step 1, R157. -/
theorem PortRec.Sound.hear (h : r.Sound) (timeout : Int) : (r.hear timeout).Sound := by
  obtain ⟨hqueue, hserved, hbusy, _, hmask⟩ := h
  exact ⟨hqueue, hserved, hbusy, by simp [PortRec.hear, Timer.isRunning], hmask⟩

/-- R151, steps 2 and 3: a request joins a queue of fewer than two, and a BUSY reply an output with fewer than two. -/
theorem PortRec.Sound.arrive (h : r.Sound) (p : Port) (q : Request) : (r.arrive p q).Sound := by
  obtain ⟨hqueue, hserved, hbusy, hlink, hmask⟩ := id h
  unfold PortRec.arrive
  split
  · next hroom => exact ⟨by simp; omega, hserved, hbusy, hlink, hmask⟩
  · split
    · next hroom =>
      refine ⟨hqueue, ?_, ?_, hlink, hmask⟩
      · simpa [servedReplies_concat] using hserved
      · simp [busyReplies_concat]
        omega
    · exact h

/-- R150: a frame that fails its tests changes nothing. -/
theorem PortRec.Sound.takeFrame (h : r.Sound) (p : Port) (frame : List Byte) (timeout : Int) :
    (r.takeFrame p frame timeout).Sound := by
  unfold PortRec.takeFrame
  split
  · exact (h.hear timeout).arrive p _
  · exact h

/-- A frame taken leaves the replies to served requests as they are (R151). -/
theorem PortRec.takeFrame_served (r : PortRec) (p : Port) (frame : List Byte) (timeout : Int) :
    servedReplies (r.takeFrame p frame timeout).output = servedReplies r.output := by
  unfold PortRec.takeFrame PortRec.arrive PortRec.hear
  dsimp only
  (repeat' split) <;> simp [servedReplies_concat]

theorem PortRec.Sound.goSilent (h : r.Sound) : PortRec.Sound { r with link := .silent, silence := .stopped } := by
  obtain ⟨hqueue, hserved, hbusy, _, hmask⟩ := h
  exact ⟨hqueue, hserved, hbusy, by simp [Timer.isRunning], hmask⟩

theorem PortRec.Sound.withMask (h : r.Sound) {v : Nat} (hv : v ≤ 6) : PortRec.Sound { r with mask := v } := by
  obtain ⟨hqueue, hserved, hbusy, hlink, _⟩ := h
  exact ⟨hqueue, hserved, hbusy, hlink, hv⟩

theorem PortRec.Sound.tail (h : r.Sound) : PortRec.Sound { r with queue := r.queue.tail } := by
  obtain ⟨hqueue, hrest⟩ := h
  exact ⟨by simp; omega, hrest⟩

/-- The last byte of the oldest reply leaves (R152). -/
theorem PortRec.Sound.sent (h : r.Sound) {f : ReplyFrame} {rest : List ReplyFrame} (hout : r.output = f :: rest) :
    PortRec.Sound { r with output := rest } := by
  obtain ⟨hqueue, hserved, hbusy, hrest⟩ := h
  rw [hout] at hserved hbusy
  obtain ⟨hs, hb⟩ := replies_cons_le f rest
  exact ⟨hqueue, hs.trans hserved, hb.trans hbusy, hrest⟩

/-- A reply to a served request joins an output that has room for it (R152, R153). -/
theorem PortRec.Sound.replied (h : r.Sound) (hroom : servedReplies r.output < 2) {f : ReplyFrame} (hf : f.kind ≠ .busy) :
    PortRec.Sound { r with output := r.output ++ [f] } := by
  obtain ⟨hqueue, _, hbusy, hrest⟩ := h
  refine ⟨hqueue, ?_, ?_, hrest⟩
  · rw [servedReplies_concat, if_neg hf]
    exact hroom
  · rw [busyReplies_concat, if_neg hf]
    exact hbusy

end

/-! ## Notice queues (R164 to R166) -/

/-- The attention line follows the queue (R165). -/
theorem NoticeQueue.withQueue_sound (x : NoticeQueue) {q : List Notice} {overflow : Bool} (hq : q.length ≤ 4)
    (ho : overflow = true → q ≠ []) : (x.withQueue q overflow).Sound :=
  ⟨hq, by simp [NoticeQueue.withQueue], ho⟩

theorem takeSeverity_length {v : Nat} {q rest : List Notice} {n : Notice} (h : takeSeverity v q = some (n, rest)) :
    q.length = rest.length + 1 := by
  obtain ⟨before, after, rfl, _, _, rfl⟩ := taken_of_takeNth h
  simp
  omega

/-- R164: a full queue stays as long as it is. -/
theorem displace_length (q : List Notice) (n : Notice) : (displace q n).length = q.length := by
  unfold displace
  split
  · split
    · next htaken => simp [takeSeverity_length htaken]
    · rfl
  · rfl

theorem NoticeQueue.Sound.deliver {x : NoticeQueue} (h : x.Sound) (n : Notice) : (x.deliver n).Sound := by
  obtain ⟨hlength, _, _⟩ := h
  unfold NoticeQueue.deliver
  split
  · exact x.withQueue_sound (by simp; omega) (by simp)
  · next hfull =>
    have hdisplaced := displace_length x.queue n
    exact x.withQueue_sound (by omega) fun _ hempty => by simp [hempty] at hdisplaced; omega

theorem NoticeQueue.Sound.fetch {x : NoticeQueue} (h : x.Sound) : x.fetch.1.Sound := by
  unfold NoticeQueue.fetch
  split
  · next htaken =>
    have hlength := takeSeverity_length htaken
    exact x.withQueue_sound (by have := h.1; omega) (by simp)
  · exact h

theorem NoticeQueue.sound_restarted (f : ResetFlags) : (NoticeQueue.restarted f).Sound := by
  simp [NoticeQueue.Sound, NoticeQueue.restarted]

theorem NoticeQueue.sound_cleared : NoticeQueue.cleared.Sound := by
  simp [NoticeQueue.Sound, NoticeQueue.cleared]

/-! ## The fault record (R167, R168) -/

theorem Fr.sound_initial : Fr.initial.Sound := ⟨by simp [Fr.initial], .nil, nofun⟩

/-- R167: a cause is entered once; entered again, it is marked. -/
theorem enterSummary_causes (c : Cause) (es : List SummaryEntry) :
    (enterSummary c es).map (·.cause)
      = if c ∈ es.map (·.cause) then es.map (·.cause) else es.map (·.cause) ++ [c] := by
  have hany : (es.any fun e => e.cause == c) = true ↔ c ∈ es.map (·.cause) := by simp
  have hmarked : ∀ e : SummaryEntry, (if e.cause = c then { e with repeated := true } else e).cause = e.cause := by
    intro e
    split <;> rfl
  unfold enterSummary
  simp only [hany]
  split
  · simp [hmarked]
  · simp

/-- The causes of the summary, each recorded and once, determine whether a record is sound (R167). -/
theorem Fr.sound_iff (f : Fr) : f.Sound ↔ (f.record = none ↔ f.summary.map (·.cause) = [])
    ∧ (f.summary.map (·.cause)).Nodup ∧ ∀ c ∈ f.summary.map (·.cause), isRecorded c = true := by
  simp [Fr.Sound]

theorem Fr.Sound.entered {f : Fr} (h : f.Sound) {r : Captured} (hr : f.record = some r) {c : Cause}
    (hc : isRecorded c = true) : Fr.Sound { f with summary := enterSummary c f.summary } := by
  rw [Fr.sound_iff] at h ⊢
  obtain ⟨hempty, hnodup, hrecorded⟩ := h
  simp only [enterSummary_causes]
  have hne : f.summary.map (·.cause) ≠ [] := by simp [← hempty, hr]
  split
  · exact ⟨hempty, hnodup, hrecorded⟩
  · next hnew =>
    refine ⟨by simp [hr], ?_, ?_⟩
    · rw [List.nodup_append]
      exact ⟨hnodup, List.nodup_singleton c, fun x hx y hy hxy => hnew (List.mem_singleton.mp hy ▸ hxy ▸ hx)⟩
    · intro x hx
      rcases List.mem_append.mp hx with hx | hx
      · exact hrecorded x hx
      · rw [List.mem_singleton.mp hx, hc]

theorem Fr.sound_captured (r : Captured) {c : Cause} (hc : isRecorded c = true) : Fr.Sound ⟨some r, [⟨c, false⟩]⟩ := by
  simp [Fr.Sound, hc]

/-! ## The laws of all records together -/

/-- The bounds of every axis, of the wind, of every port and notice queue, and the order of the fault record. -/
structure State.RecordsSound (s : State) : Prop where
  axes : s.AxesSound
  wm : s.wm.Sound
  ports : s.PortsSound
  notices : s.NoticesSound
  fr : s.fr.Sound

/-- Two states agree in all that those laws read. -/
def State.SameRecords (s t : State) : Prop :=
  t.pos.axes = s.pos.axes ∧ t.wm = s.wm ∧ t.spu.ports = s.spu.ports ∧ t.nu = s.nu ∧ t.fr = s.fr
    ∧ t.cs.commit = s.cs.commit

/-- A port has room for the reply to a served request, and where it is the Venue port no storage write keeps that room
for its own reply (R153). -/
def State.RoomFor (s : State) (p : Port) : Prop :=
  servedReplies (s.spu.ports.get p).output < 2 ∧ (p = .venue → s.cs.commit = none)

section
variable {s t : State}

theorem State.SameRecords.sound (hs : s.SameRecords t) (h : s.RecordsSound) : t.RecordsSound := by
  obtain ⟨haxes, hwm, hports, hnu, hfr, hcommit⟩ := hs
  obtain ⟨a, w, p, n, f⟩ := h
  refine ⟨?_, hwm ▸ w, ?_, ?_, hfr ▸ f⟩
  · simpa only [State.AxesSound, haxes] using a
  · simpa only [State.PortsSound, hports, hcommit] using p
  · simpa only [State.NoticesSound, hnu] using n

theorem State.SameRecords.roomFor (hs : s.SameRecords t) {p : Port} (h : s.RoomFor p) : t.RoomFor p := by
  obtain ⟨_, _, hports, _, _, hcommit⟩ := hs
  simpa only [State.RoomFor, hports, hcommit] using h

/-- A command whose frame names all that the laws read keeps them. -/
theorem State.RecordsSound.of_frame (h : s.RecordsSound) {o : Host.Outcome State Fault Refusal} {Q : State → Prop}
    (hframe : ∃ t, o = .next t ∧ Q t)
    (hsame : ∀ t, Q t → s.SameRecords t := by intro t ht; simp [State.SameRecords, ht]) :
    ∃ t, o = .next t ∧ t.RecordsSound := by
  obtain ⟨t, ho, ht⟩ := hframe
  exact ⟨t, ho, (hsame t ht).sound h⟩

/-- A command that the part takes only while it runs keeps the laws where its effect does. -/
theorem State.RecordsSound.whileRunning (h : s.RecordsSound) {f : State → State} (hf : (f s).RecordsSound) :
    ∃ t, s.whileRunning f = .next t ∧ t.RecordsSound := by
  refine ⟨_, rfl, ?_⟩
  split
  · exact h
  · exact hf

/-! ## One block replaced -/

theorem State.RecordsSound.withPos (h : s.RecordsSound) {x : Pos} (hx : ∀ a, (x.axes.get a).Sound) :
    (s.withPos x).RecordsSound := ⟨hx, h.wm, h.ports, h.notices, h.fr⟩

theorem State.RecordsSound.setAxis (h : s.RecordsSound) (a : Axis) {k : AxisRec} (hk : k.Sound) :
    (s.setAxis a k).RecordsSound := h.withPos fun b => by
  rw [PerAxis.get_set]
  split
  · exact hk
  · exact h.axes b

theorem State.RecordsSound.withWm (h : s.RecordsSound) {x : Wm} (hx : x.Sound) : (s.withWm x).RecordsSound :=
  ⟨h.axes, hx, h.ports, h.notices, h.fr⟩

theorem State.RecordsSound.withNu (h : s.RecordsSound) (p : Port) {x : NoticeQueue} (hx : x.Sound) :
    (s.withNu (s.nu.set p x)).RecordsSound := by
  refine ⟨h.axes, h.wm, h.ports, fun q => ?_, h.fr⟩
  rw [State.withNu_nu, PerPort.get_set]
  split
  · exact hx
  · exact h.notices q

theorem State.RecordsSound.withFr (h : s.RecordsSound) {x : Fr} (hx : x.Sound) : (s.withFr x).RecordsSound :=
  ⟨h.axes, h.wm, h.ports, h.notices, hx⟩

/-- A port's record replaced by a sound one that keeps the room a storage write needs (R153). -/
theorem State.RecordsSound.setPort (h : s.RecordsSound) (p : Port) {r : PortRec} (hr : r.Sound)
    (hroom : p = .venue → s.cs.commit.isSome = true → servedReplies r.output < 2) : (s.setPort p r).RecordsSound := by
  refine ⟨h.axes, h.wm, ⟨fun q => ?_, fun hcommit => ?_⟩, h.notices, h.fr⟩
  · rw [State.setPort_spu, PerPort.get_set]
    split
    · exact hr
    · exact h.ports.1 q
  · rw [State.setPort_spu, PerPort.get_set]
    split
    · next hp => exact hroom hp.symm hcommit
    · exact h.ports.2 hcommit

/-- A port's record replaced by one with no more replies to served requests. -/
theorem State.RecordsSound.setPort_le (h : s.RecordsSound) (p : Port) {r : PortRec} (hr : r.Sound)
    (hle : servedReplies r.output ≤ servedReplies (s.spu.ports.get p).output) : (s.setPort p r).RecordsSound :=
  h.setPort p hr fun hp hcommit => hle.trans_lt (hp ▸ h.ports.2 hcommit)

end

/-! ## The request handler (R152, R153) -/

section
variable {s : State} {p : Port} {r : Request}

/-- A granted request's port has room for its reply (R153). -/
theorem State.roomFor_of_grant (h : s.grant = some (p, r)) : s.RoomFor p := by
  unfold State.grant at h
  split at h
  · obtain ⟨q, _, hq⟩ := List.exists_of_findSome?_eq_some h
    obtain ⟨x, hhead, hx⟩ := Option.map_eq_some_iff.mp hq
    obtain ⟨rfl, rfl⟩ := Prod.mk.inj hx
    unfold State.grantableHead at hhead
    split at hhead
    · cases hhead
    · split at hhead
      · next hgrant =>
        simp only [Bool.and_eq_true, decide_eq_true_eq, Bool.not_eq_true', Bool.and_eq_false_iff, beq_eq_false_iff_ne,
          ne_eq, Option.isSome_eq_false_iff, Option.isNone_iff_eq_none] at hgrant
        exact ⟨hgrant.1.2, fun hp => hgrant.2.resolve_left (not_not_intro hp)⟩
      · cases hhead
  · cases h

theorem State.RecordsSound.takeHead (h : s.RecordsSound) (p : Port) : (s.takeHead p).RecordsSound := by
  have hsame : (s.setPort p { s.spu.ports.get p with queue := (s.spu.ports.get p).queue.tail }).SameRecords
      (s.takeHead p) := ⟨rfl, rfl, rfl, rfl, rfl, rfl⟩
  exact hsame.sound (h.setPort_le p (h.ports.1 p).tail le_rfl)

theorem State.RoomFor.takeHead (h : s.RoomFor p) : (s.takeHead p).RoomFor p := by
  simpa [State.RoomFor, State.takeHead] using h

/-- A reply goes into a port that has room for it (R152). -/
theorem State.RecordsSound.reply (h : s.RecordsSound) (hroom : s.RoomFor p) (tag : Byte) (a : Answer) :
    (s.reply p tag a).RecordsSound := by
  obtain ⟨hserved, hcommit⟩ := hroom
  refine h.setPort p ((h.ports.1 p).replied hserved ?_) fun hp hwrite => ?_
  · dsimp only
    split <;> nofun
  · simp [hcommit hp] at hwrite

/-- What a request's settlement must do for serving it to keep the laws: keep them itself, and where it answers leave
the port room for the reply. -/
def Settlement.KeepsRecords (row : Instr) (settle : Settlement) : Prop :=
  ∀ p r (s : State), requestRow r = row → s.handlerRefusal p r = none → s.RecordsSound → s.RoomFor p →
    (settle p r s).1.RecordsSound ∧ ((settle p r s).2.isSome = true → (settle p r s).1.RoomFor p)

theorem Settlement.keepsRecords_of_same {settle : Settlement} (h : ∀ p r (s : State), s.SameRecords (settle p r s).1)
    (row : Instr) : settle.KeepsRecords row :=
  fun p r s _ _ hs hroom => ⟨(h p r s).sound hs, fun _ => (h p r s).roomFor hroom⟩

theorem answerOnly_keepsRecords (f : Port → Request → State → Answer) (row : Instr) :
    Settlement.KeepsRecords row (answerOnly f) :=
  Settlement.keepsRecords_of_same (fun _ _ _ => ⟨rfl, rfl, rfl, rfl, rfl, rfl⟩) row

/-- The handler serves a request whose settlement keeps the laws (R153, R154). -/
theorem State.RecordsSound.serve (h : s.RecordsSound) {row : Instr} {settle : Settlement}
    (hsettle : settle.KeepsRecords row) : (s.serve row settle).RecordsSound := by
  unfold State.serve
  split
  · next p r hgrant =>
    have htaken := h.takeHead p
    have hroom := (State.roomFor_of_grant hgrant).takeHead
    split
    · next hrow =>
      unfold State.handle
      dsimp only
      split
      · exact htaken.reply hroom _ _
      · next hpass =>
        obtain ⟨hkept, hanswered⟩ := hsettle p r _ hrow hpass htaken hroom
        split
        · next heq =>
          rw [heq] at hkept hanswered
          exact hkept.reply (hanswered rfl) _ _
        · next heq =>
          rw [heq] at hkept
          exact hkept
    · exact h
  · exact h

end

/-! ## The settlements that touch a record (R152, R158, R165, R168) -/

theorem settleMask_keepsRecords (row : Instr) : Settlement.KeepsRecords row settleMask := by
  intro p r s _ _ h hroom
  refine ⟨h.setPort_le p ((h.ports.1 p).withMask (Nat.min_le_right _ _)) le_rfl, fun _ => ?_⟩
  simpa [State.RoomFor, settleMask, State.modifyPort] using hroom

theorem settleReset_keepsRecords (row : Instr) : Settlement.KeepsRecords row settleReset :=
  Settlement.keepsRecords_of_same (fun p r s => by
    unfold settleReset
    (repeat' split) <;> exact ⟨rfl, rfl, rfl, rfl, rfl, rfl⟩) row

theorem settleNotice_keepsRecords (row : Instr) : Settlement.KeepsRecords row settleNotice :=
  fun p _ _ _ _ h hroom => ⟨h.withNu p (h.notices p).fetch, fun _ => hroom⟩

theorem settleFaultClear_keepsRecords (row : Instr) : Settlement.KeepsRecords row settleFaultClear := by
  intro p r s _ _ h hroom
  unfold settleFaultClear
  split
  · exact ⟨h, fun _ => hroom⟩
  · have hsame : (s.withFr .initial).SameRecords
        ((s.withFr .initial).withDsu { s.dsu with flags := ⟨false, false, false, false⟩ }) :=
      ⟨rfl, rfl, rfl, rfl, rfl, rfl⟩
    exact ⟨hsame.sound (h.withFr Fr.sound_initial), fun _ => hroom⟩

theorem settleConfigWrite_keepsRecords (row : Instr) : Settlement.KeepsRecords row settleConfigWrite :=
  Settlement.keepsRecords_of_same (fun p r s => by
    have hcommit : (settleConfigWrite p r s).1.cs.commit = s.cs.commit := by
      unfold settleConfigWrite State.toConfiguring
      dsimp only
      (repeat' split) <;> simp
    exact ⟨by simp, by simp, by simp, by simp, by simp, hcommit⟩) row

/-- R65: a granted MOVE forms leads of POS anew, and no axis. -/
theorem State.grantMove_axes (s : State) (port : Port) (m : Mover) (d : Direction) (position : Int) :
    (s.grantMove port m d position).pos.axes = s.pos.axes := by
  unfold State.grantMove State.restartFurthest
  dsimp only
  (repeat' split) <;> simp

theorem State.askMove_axes (s : State) (port : Port) (m : Mover) (d : Direction) (target : Int) :
    (s.askMove port m d target).1.pos.axes = s.pos.axes := by
  unfold State.askMove
  split
  · rfl
  · rfl
  · dsimp only
    split
    · rfl
    · exact State.grantMove_axes _ _ _ _ _

theorem settleMove_axes (p : Port) (r : Request) (s : State) : (settleMove p r s).1.pos.axes = s.pos.axes := by
  unfold settleMove
  split
  · split
    · exact State.askMove_axes _ _ _ _ _
    · rfl
  · rfl

/-- The row of COMMIT is its code's alone (R154). -/
theorem code_of_requestRow_commit {r : Request} (h : requestRow r = .commit) : codeOfByte r.code = some .commit := by
  unfold requestRow at h
  (repeat' split at h) <;> simp_all

/-- A request that passes the handler's checks comes from a role that may send it (R154). -/
theorem State.roleMaySend_of_passes {s : State} {p : Port} {r : Request} {c : RequestCode}
    (hpass : s.handlerRefusal p r = none) (hcode : codeOfByte r.code = some c) : roleMaySend c p = true := by
  by_contra hrole
  simp only [State.handlerRefusal, hcode, Bool.eq_false_iff.mpr hrole, if_true] at hpass
  split at hpass <;> cases hpass

/-- A COMMIT whose write starts leaves its reply for the end of the write, and so leaves the Venue port, which alone may
send it, room for it (R11, R153, R154). -/
theorem settleCommit_keepsRecords : Settlement.KeepsRecords .commit settleCommit := by
  intro p r s hrow hpass h hroom
  have hvenue : p = .venue := by
    simpa [roleMaySend] using State.roleMaySend_of_passes hpass (code_of_requestRow_commit hrow)
  unfold settleCommit
  split
  · exact ⟨h, fun _ => hroom⟩
  · split
    · split
      · exact ⟨h, fun _ => hroom⟩
      · refine ⟨⟨h.axes, h.wm, ⟨h.ports.1, fun _ => hvenue ▸ hroom.1⟩, h.notices, h.fr⟩, nofun⟩
    · exact ⟨h, fun _ => hroom⟩

/-! ## The commands that touch a record -/

section
variable {s : State}

/-- R17 to R33. -/
theorem State.RecordsSound.takeReading (h : s.RecordsSound) (bus : ReaderBus) (f : ReadingFrame) :
    (s.takeReading bus f).RecordsSound := by
  unfold State.takeReading
  split
  · exact h
  · next a role _ =>
    split
    · split
      · exact h.setAxis a (h.axes a).breakChain
      · exact h
    · exact h
    · next st _ =>
      have hsame : (s.setAxis a (s.readAxis a role f).1).SameRecords (s.goodReading a role f st) := by
        simp [State.SameRecords, State.goodReading_axes]
      exact hsame.sound (h.setAxis a (((h.axes a).afterGood role _).compared role _))

/-- R19, R21 to R24. -/
theorem State.RecordsSound.takeGapExpiry (h : s.RecordsSound) (a : Axis) (role : ReaderRole) :
    (s.takeGapExpiry a role).RecordsSound := by
  cases hgap : (s.pos.reader a role).gapRunning with
  | false => rwa [State.takeGapExpiry_stopped hgap]
  | true =>
    rw [State.takeGapExpiry_running hgap rfl]
    have hsame : (s.setAxis a ((s.pos.axes.get a).onGapExpiry role (s.pos.check.get a))).SameRecords
        ((((s.gapStopped a role).setAxis a ((s.pos.axes.get a).onGapExpiry role (s.pos.check.get a))).formGeometry
          (moverOfAxis a)).handValidityChange a (s.pos.axes.get a).validity) := by
      simp [State.SameRecords, State.gapStopped]
    exact hsame.sound (h.setAxis a ((h.axes a).onGapExpiry role _))

/-- R24. -/
theorem State.RecordsSound.takeLossExpiry (h : s.RecordsSound) (a : Axis) : (s.takeLossExpiry a).RecordsSound := by
  unfold State.takeLossExpiry
  dsimp only
  split
  · split
    · next hk =>
      have hsame : (s.setAxis a { (s.pos.axes.get a).enterInvalid with lossRunning := false }).SameRecords
          ((((s.setAxis a { (s.pos.axes.get a).enterInvalid with lossRunning := false }).formMotion
            (moverOfAxis a)).raiseAgainstAxis .readerLoss a).handValidityChange a .holding) := by
        simp [State.SameRecords, State.formMotion]
      exact hsame.sound (h.setAxis a ((h.axes a).enterInvalid hk))
    · exact h.setAxis a (h.axes a)
  · exact h

/-- R127 to R132. -/
theorem State.RecordsSound.intervalClosure (h : s.RecordsSound) :
    ((s.withWm (s.wm.close s.cs.active.general)).handClosure s.wm.state).RecordsSound := by
  have hsame : (s.withWm (s.wm.close s.cs.active.general)).SameRecords
      ((s.withWm (s.wm.close s.cs.active.general)).handClosure s.wm.state) := by simp [State.SameRecords]
  exact hsame.sound (h.withWm (h.wm.close _))

/-- R150, R151. -/
theorem State.RecordsSound.testFrame (h : s.RecordsSound) (p : Port) : (s.testFrame p).RecordsSound := by
  unfold State.testFrame
  dsimp only
  split
  · exact h.setPort_le p (((h.ports.1 p).withReceiver _ _).takeFrame p _ _) (PortRec.takeFrame_served _ p _ _).le
  · exact h

/-- R148, R152. -/
theorem State.RecordsSound.sendReply (h : s.RecordsSound) (p : Port) : (s.sendReply p).RecordsSound := by
  unfold State.sendReply
  dsimp only
  split
  · next f rest htaken =>
    have hout : (s.spu.ports.get p).output = f :: rest := by
      cases hcase : (s.spu.ports.get p).output with
      | nil => simp [hcase, takeOldest] at htaken
      | cons x xs => simpa [hcase, takeOldest] using htaken
    have hsent := h.setPort_le p ((h.ports.1 p).sent hout) (hout ▸ (replies_cons_le f rest).1)
    split
    · have hsame : (s.setPort p { s.spu.ports.get p with output := rest }).SameRecords
          ((s.setPort p { s.spu.ports.get p with output := rest }).withSpu
            { (s.setPort p { s.spu.ports.get p with output := rest }).spu with handler := .resetDue }) :=
        ⟨rfl, rfl, rfl, rfl, rfl, rfl⟩
      exact hsame.sound hsent
    · exact hsent
  · exact h

/-- R157. -/
theorem State.RecordsSound.goSilent (h : s.RecordsSound) (p : Port) : (s.goSilent p).RecordsSound := by
  have hsame : (s.setPort p { s.spu.ports.get p with link := .silent, silence := .stopped }).SameRecords
      (s.goSilent p) := ⟨rfl, rfl, rfl, rfl, rfl, rfl⟩
  exact hsame.sound (h.setPort_le p (h.ports.1 p).goSilent le_rfl)

/-- R163, R164. -/
theorem State.RecordsSound.deliverTo (h : s.RecordsSound) (n : Notice) (p : Port) : (s.deliverTo n p).RecordsSound := by
  unfold State.deliverTo
  split
  · exact h.withNu p ((h.notices p).deliver n)
  · exact h

/-- R163, R164. -/
theorem State.RecordsSound.takePosting (h : s.RecordsSound) (src : Block) : (s.takePosting src).RecordsSound := by
  unfold State.takePosting
  split
  · next x rest _ =>
    have hsame : s.SameRecords (s.withHand { s.hand with postings := rest }) := ⟨rfl, rfl, rfl, rfl, rfl, rfl⟩
    exact foldl_preserves State.RecordsSound _ (fun _ p ht => ht.deliverTo x.notice p) _ _ (hsame.sound h)
  · exact h

/-- R167. -/
theorem State.RecordsSound.recordFault (h : s.RecordsSound) (f : FaultMessage) : (s.recordFault f).RecordsSound := by
  unfold State.recordFault
  split
  · next hrecorded =>
    split
    · exact h.withFr (Fr.sound_captured _ hrecorded)
    · next hr => exact h.withFr (h.fr.entered hr hrecorded)
  · exact h

/-- R167. -/
theorem State.RecordsSound.takeFault (h : s.RecordsSound) (n : Nat) : (s.takeFault n).RecordsSound := by
  unfold State.takeFault
  split
  · next f rest _ =>
    have hsame : s.SameRecords (s.withHand { s.hand with faults := rest }) := ⟨rfl, rfl, rfl, rfl, rfl, rfl⟩
    exact (hsame.sound h).recordFault f
  · exact h

/-- The reply at the end of the write in flight takes the room that the Venue port has kept for it (R153). -/
theorem State.RecordsSound.replyAtEnd (h : s.RecordsSound) (hwrite : s.cs.commit.isSome = true) {t : State}
    (hsame : (s.withCs { s.cs with commit := none }).SameRecords t) (tag : Byte) (a : Answer) :
    (t.reply .venue tag a).RecordsSound := by
  have hended : (s.withCs { s.cs with commit := none }).RecordsSound :=
    ⟨h.axes, h.wm, ⟨h.ports.1, nofun⟩, h.notices, h.fr⟩
  have hroom : (s.withCs { s.cs with commit := none }).RoomFor .venue := ⟨h.ports.2 hwrite, fun _ => rfl⟩
  exact (hsame.sound hended).reply (hsame.roomFor hroom) tag a

/-- The write in flight ends, and is answered (R11, R13). -/
theorem State.RecordsSound.endWrite (h : s.RecordsSound) (readbackMatches : Bool) :
    (s.endWrite readbackMatches).RecordsSound := by
  unfold State.endWrite
  split
  · next c img hcommit _ =>
    have hwrite : s.cs.commit.isSome = true := by simp [hcommit]
    split
    · exact h.replyAtEnd hwrite (by simp [State.SameRecords, State.takeUpImage_pos, State.reformBodies_pos]) _ _
    · exact h.replyAtEnd hwrite (by simp [State.SameRecords]) _ _
  · exact h

/-- Every reset sets every record within its bounds (R34, R134, R161, R166, R168). -/
theorem State.resetTo_recordsSound (s : State) {k : ResetKind} (hfr : k.fr.Sound) : (s.resetTo k).RecordsSound := by
  refine ⟨fun a => ?_, Wm.sound_initial, ⟨fun p => ?_, fun _ => ?_⟩, fun p => ?_, hfr⟩
  · simpa [Pos.initial] using AxisRec.sound_initial
  · simpa [Spu.initial] using PortRec.sound_initial
  · simp [Spu.initial, PortRec.initial, servedReplies]
  · rw [State.resetTo_nu, PerPort.get_ofFn]
    split
    · exact NoticeQueue.sound_cleared
    · exact NoticeQueue.sound_restarted _

end

/-! ## Every command keeps the laws -/

/-- A request command whose settlement keeps the laws. -/
theorem State.RecordsSound.served {s : State} (h : s.RecordsSound) {row : Instr} {settle : Settlement}
    (hsettle : settle.KeepsRecords row) :
    ∃ t, (s.whileRunning fun s => s.serve row settle) = .next t ∧ t.RecordsSound :=
  h.whileRunning (f := (·.serve row settle)) (h.serve hsettle)

/-- A request command whose settlement touches none of what the laws read. -/
theorem State.RecordsSound.served_same {s : State} (h : s.RecordsSound) (row : Instr) {settle : Settlement}
    (hsame : ∀ p r (t : State), t.SameRecords (settle p r t).1 := by intros; simp [State.SameRecords]) :
    ∃ t, (s.whileRunning fun s => s.serve row settle) = .next t ∧ t.RecordsSound :=
  h.served (Settlement.keepsRecords_of_same hsame row)

/-- Every command keeps the laws, by the kind of command: resets, frames and replies, requests, readings, hand-overs
taken, and lines. -/
theorem exec_keeps_recordsSound {s : State} (h : s.RecordsSound) (i : Instr) :
    ∃ t, exec i s = .next t ∧ t.RecordsSound := by
  cases i with
  | powerOnReset => exact ⟨_, rfl, s.resetTo_recordsSound Fr.sound_initial⟩
  | resetLineAssertion => exact h.of_frame (execResetLineAssertion_frame s)
  | lineReset =>
    refine h.whileRunning ?_
    split
    · exact s.resetTo_recordsSound h.fr
    · exact h
  | resetLineRelease =>
    refine ⟨_, rfl, ?_⟩
    split
    · exact s.lineReleased.resetTo_recordsSound h.fr
    · exact ⟨h.axes, h.wm, h.ports, h.notices, h.fr⟩
  | commandedReset =>
    refine h.whileRunning ?_
    split
    · exact s.resetTo_recordsSound h.fr
    · exact h
  | completeFrame p => exact h.whileRunning (f := (·.testFrame p)) (h.testFrame p)
  | frameTimerExpiry p =>
    exact h.whileRunning (f := (·.modifyPort p fun r => { r with receiver := .hunting }))
      (h.setPort_le p ((h.ports.1 p).withReceiver _ _) le_rfl)
  | replyFrameSent p => exact h.whileRunning (f := (·.sendReply p)) (h.sendReply p)
  | silenceTimerExpiry p =>
    refine h.whileRunning ?_
    split
    · exact h.goSilent p
    · exact h
  | unknownRequestCode => exact h.served (answerOnly_keepsRecords _ _)
  | status => exact h.served (answerOnly_keepsRecords _ _)
  | moverStatus => exact h.served_same _
  | notice => exact h.served (settleNotice_keepsRecords _)
  | mask => exact h.served (settleMask_keepsRecords _)
  | reserve => exact h.served_same _
  | release => exact h.served_same _
  | move => exact h.served_same _ fun p r t => by simp [State.SameRecords, settleMove_axes]
  | stop => exact h.served_same _
  | clear => exact h.served_same _
  | braceEngage | braceWithdraw => exact h.served_same _
  | braceClear => exact h.served_same _
  | barrierClose | barrierOpen => exact h.served_same _
  | permitsOff | permitsOn => exact h.served_same _
  | arm => exact h.served_same _
  | standby => exact h.served_same _
  | reset => exact h.served (settleReset_keepsRecords _)
  | faultRead => exact h.served (answerOnly_keepsRecords _ _)
  | faultClear => exact h.served (settleFaultClear_keepsRecords _)
  | configRead => exact h.served (answerOnly_keepsRecords _ _)
  | configWrite => exact h.served (settleConfigWrite_keepsRecords _)
  | commit => exact h.served settleCommit_keepsRecords
  | storageWriteComplete ok => exact h.whileRunning (f := (·.endWrite ok)) (h.endWrite ok)
  | readingArrival bus f => exact h.whileRunning (f := (·.takeReading bus f)) (h.takeReading bus f)
  | gapTimerExpiry a role => exact h.whileRunning (f := (·.takeGapExpiry a role)) (h.takeGapExpiry a role)
  | lossTimerExpiry a => exact h.whileRunning (f := (·.takeLossExpiry a)) (h.takeLossExpiry a)
  | validityChange a => exact h.of_frame (execValidityChange_frame a s)
  | positionUpdateZT m => exact h.of_frame (execPositionUpdateZT_frame m s)
  | positionUpdateASU m => exact h.of_frame (execPositionUpdateASU_frame m s)
  | authorityConsumed m => exact h.of_frame (execAuthorityConsumed_frame m s)
  | positionUpdateMSU m => exact h.of_frame (execPositionUpdateMSU_frame m s)
  | immediateCauseTaken n => exact h.of_frame (execImmediateCauseTaken_frame n s)
  | controlledCauseTaken n => exact h.of_frame (execControlledCauseTaken_frame n s)
  | holdCauseTaken n => exact h.of_frame (execHoldCauseTaken_frame n s)
  | deviceStateChangeMSU => exact h.of_frame (execDeviceStateChangeMSU_frame s)
  | tripTimerExpiry m => exact h.of_frame (execTripTimerExpiry_frame m s)
  | readbackTimerExpiry m => exact h.of_frame (execReadbackTimerExpiry_frame m s)
  | readbackContactChange m closed => exact h.of_frame (execReadbackContactChange_frame m closed s)
  | stepTimerExpiry => exact h.of_frame (execStepTimerExpiry_frame s)
  | moverStateChange => exact h.of_frame (execMoverStateChange_frame s)
  | loopChannelChange c closed => exact h.of_frame (execLoopChannelChange_frame c closed s)
  | loopFilterExpiry c => exact h.of_frame (execLoopFilterExpiry_frame c s)
  | discrepancyTimerExpiry => exact h.of_frame (execDiscrepancyTimerExpiry_frame s)
  | driveTripInputChange m active => exact h.of_frame (execDriveTripInputChange_frame m active s)
  | driveTripFilterExpiry m => exact h.of_frame (execDriveTripFilterExpiry_frame m s)
  | braceSwitchChange b engaged withdrawn => exact h.of_frame (execBraceSwitchChange_frame b engaged withdrawn s)
  | braceSwitchLoss => exact h.of_frame (execBraceSwitchLoss_frame s)
  | operationTimerExpiry b => exact h.of_frame (execOperationTimerExpiry_frame b s)
  | cutShort => exact h.of_frame (execCutShort_frame s)
  | demandConditionTest src => exact h.of_frame (execDemandConditionTest_frame s src)
  | anemometerPulse which =>
    exact h.whileRunning
      (f := fun s => s.withWm { s.wm with anemometers := s.wm.anemometers.modify which AnemometerRec.count1 })
      (h.withWm (h.wm.pulse which))
  | intervalClosure =>
    exact h.whileRunning (f := fun s => (s.withWm (s.wm.close s.cs.active.general)).handClosure s.wm.state)
      h.intervalClosure
  | noticePosting src => exact h.whileRunning (f := (·.takePosting src)) (h.takePosting src)
  | causeHandover n => exact h.whileRunning (f := (·.takeFault n)) (h.takeFault n)
  | stationPortByte p b framingError =>
    exact h.whileRunning (f := (·.modifyPort p (·.byte b framingError)))
      (h.setPort_le p ((h.ports.1 p).byte b framingError) (PortRec.byte_served _ b framingError).le)

/-- Settles O59: the command taken off the queue keeps the laws, and the queue is none of theirs. -/
theorem everyStepKeepsRecordsWithinBounds : Obligations.EveryStepKeepsRecordsWithinBounds := by
  intro s t haxes hwm hports hnotices hfr hstep
  have hs : s.RecordsSound := ⟨haxes, hwm, hports, hnotices, hfr⟩
  have ht : t.RecordsSound := by
    unfold step at hstep
    split at hstep
    · cases hstep
      exact hs
    · next c rest _ =>
      have hrest : (s.withPending rest).RecordsSound := ⟨haxes, hwm, hports, hnotices, hfr⟩
      obtain ⟨u, hu, hsound⟩ := exec_keeps_recordsSound hrest c
      obtain rfl : u = t := Host.Outcome.next.inj (hu.symm.trans hstep)
      exact hsound
  exact ⟨ht.axes, ht.wm, ht.ports, ht.notices, ht.fr⟩

end Sys2Proof.Machine
end

section
/-! SUPPORT. The Zone Table (chapter 3): the laws of its records, which every zone operation, every Zone Table event and
so every step keeps. It settles O56 and O60. -/

namespace Sys2Proof.Machine

/-! ## Paths, ranges and sets of movers -/

@[simp] theorem ZoneTable.zones_setZones_self (t : ZoneTable) (p : Path) (zs : List ZoneRec) :
    (t.setZones p zs).zones p = zs := by cases p <;> rfl

theorem ZoneTable.zones_setZones_of_ne (t : ZoneTable) {p q : Path} (h : q ≠ p) (zs : List ZoneRec) :
    (t.setZones p zs).zones q = t.zones q := by
  cases p <;> cases q <;> simp_all [ZoneTable.setZones, ZoneTable.zones]

/-- A zone of a range changed by a function, or one outside the range as it was. -/
theorem mem_mapRange {zs : List ZoneRec} {r : ZoneRange} {f : ZoneRec → ZoneRec} {z : ZoneRec}
    (h : z ∈ mapRange zs r f) : ∃ k y, zs[k]? = some y ∧ z = if r.has k then f y else y := by
  obtain ⟨⟨y, k⟩, hy, rfl⟩ := List.mem_map.mp h
  exact ⟨k, y, List.mem_zipIdx_iff_getElem?.mp hy, rfl⟩

theorem mem_addMover {q m : Mover} {ms : List Mover} : q ∈ addMover m ms ↔ q = m ∨ q ∈ ms := by
  simp [addMover, mem_allMovers]

theorem mem_dropMover {q m : Mover} {ms : List Mover} : q ∈ dropMover m ms ↔ q ∈ ms ∧ q ≠ m := by
  simp [dropMover]

theorem pathOf_of_mem_moversOn {m : Mover} {p : Path} (h : m ∈ moversOn p) : pathOf m = p := by
  cases p <;> cases m <;> simp_all [moversOn, panels, pathOf, isPanel]

/-- What a Zone Table event changes: the records and the bodies, the notices and the reports in flight (R45, R56). -/
theorem State.commitZones_eq (s : State) (t : ZoneTable) : s.commitZones t = { s with
    zt := { t with runway := emptyFreed s.zt t .runway, tray := emptyFreed s.zt t .tray }
    hand := { s.hand with
      postings := s.hand.postings ++ (freedPostings s.zt t .runway ++ freedPostings s.zt t .tray)
      demandEvents := s.hand.demandEvents
        ++ if holdChanged s.zt t .runway || holdChanged s.zt t .tray then [.holdReport] else [] } } := by
  unfold State.commitZones
  split
  · rfl
  · rw [List.append_nil]
    rfl

theorem State.commitZones_zones (s : State) (t : ZoneTable) (p : Path) :
    (s.commitZones t).zt.zones p = emptyFreed s.zt t p := by
  rw [State.commitZones_eq]
  cases p <;> rfl

/-- R45: the records an event leaves are those it made, but for the waiting sets of zones that became Free. -/
theorem State.mem_commitZones {s : State} {t : ZoneTable} {p : Path} {z : ZoneRec}
    (h : z ∈ (s.commitZones t).zt.zones p) : ∃ y ∈ t.zones p, z = y ∨ z = { y with waiting := [] } := by
  rw [State.commitZones_zones] at h
  obtain ⟨⟨x, y⟩, hxy, rfl⟩ := List.mem_map.mp h
  refine ⟨y, (List.of_mem_zip hxy).2, ?_⟩
  dsimp only
  split
  · exact .inr rfl
  · exact .inl rfl

/-! ## The laws of one record (R35, R36, R37, R55) -/

section
variable {p : Path} {z : ZoneRec} {m : Mover}

/-- A record without holder, clearing or movers, and its barrier Open, is sound (R58). -/
theorem freshZone_sound (img : PathImage) (k : Nat) : (freshZone img k).Sound p := by
  simp [ZoneRec.Sound, freshZone]

/-- R55: settling the barrier is what the law of Pending barriers asks; the other laws must hold before it. -/
theorem ZoneRec.settleBarrier_sound (hone : z.holder = none ∨ z.clearingFor = none)
    (hclosed : z.barrier = .closed → z.holder = none ∧ z.clearingFor = none)
    (hrest : ∀ q, z.holder = some q → q ∉ z.resting)
    (hpath : ∀ q, z.holder = some q ∨ z.clearingFor = some q ∨ q ∈ z.resting ∨ q ∈ z.waiting → pathOf q = p) :
    z.settleBarrier.Sound p := by
  unfold ZoneRec.settleBarrier
  split
  · next hfree => exact ⟨hone, fun _ => ⟨hfree.1, hfree.2.1⟩, nofun, hrest, hpath⟩
  · next hkept =>
    refine ⟨hone, hclosed, fun hpending => ?_, hrest, hpath⟩
    by_contra hfree
    push Not at hfree
    exact hkept ⟨hfree.1, hfree.2, hpending⟩

namespace ZoneRec.Sound

theorem emptied (h : z.Sound p) : ZoneRec.Sound p { z with waiting := [] } := by
  obtain ⟨hone, hclosed, hpending, hrest, hpath⟩ := h
  exact ⟨hone, hclosed, hpending, hrest, fun q hq => hpath q (hq.imp_right (·.imp_right (·.imp_right nofun)))⟩

/-- A hold given up; whether the mover then rests in the zone or is Clearing it the rules settle (R44, R48, R49, R53,
R57). -/
theorem holdLost (h : z.Sound p) (hholder : z.holder = some m) {rest : List Mover} {clears : Option Mover}
    (hrest : ∀ q ∈ rest, q = m ∨ q ∈ z.resting) (hclears : ∀ q, clears = some q → q = m ∨ z.clearingFor = some q) :
    ({ z with holder := none, resting := rest, clearingFor := clears } : ZoneRec).settleBarrier.Sound p := by
  obtain ⟨hone, hclosed, hpending, _, hpath⟩ := h
  have hm : pathOf m = p := hpath m (.inl hholder)
  refine ZoneRec.settleBarrier_sound (.inl rfl) (fun hc => ?_) nofun fun q hq => ?_
  · rw [(hclosed hc).1] at hholder; cases hholder
  · rcases hq with hq | hq | hq | hq
    · cases hq
    · rcases hclears q hq with rfl | hq
      · exact hm
      · exact hpath q (.inr (.inl hq))
    · rcases hrest q hq with rfl | hq
      · exact hm
      · exact hpath q (.inr (.inr (.inl hq)))
    · exact hpath q (.inr (.inr (.inr hq)))

/-- A mover of the path that does not hold the zone is put into its resting set, or any is taken out of it (R37). -/
theorem setResting (h : z.Sound p) {rests : Bool} (hm : rests = true → pathOf m = p ∧ z.holder ≠ some m) :
    (z.setResting m rests).Sound p := by
  obtain ⟨hone, hclosed, hpending, hrest, hpath⟩ := h
  have hmem : ∀ q ∈ (z.setResting m rests).resting, (rests = true ∧ q = m) ∨ q ∈ z.resting := by
    intro q hq
    cases rests with
    | true => exact (mem_addMover.mp hq).imp_left (⟨rfl, ·⟩)
    | false => exact .inr (mem_dropMover.mp hq).1
  refine ⟨hone, hclosed, hpending, fun q hholder hq => ?_, fun q hq => ?_⟩
  · rcases hmem q hq with ⟨hr, rfl⟩ | hq
    · exact (hm hr).2 hholder
    · exact hrest q hholder hq
  · rcases hq with hq | hq | hq | hq
    · exact hpath q (.inl hq)
    · exact hpath q (.inr (.inl hq))
    · rcases hmem q hq with ⟨hr, rfl⟩ | hq
      · exact (hm hr).1
      · exact hpath q (.inr (.inr (.inl hq)))
    · exact hpath q (.inr (.inr (.inr hq)))

/-- R51. -/
theorem endClearing (h : z.Sound p) : (z.endClearing m).Sound p := by
  unfold ZoneRec.endClearing
  split
  · obtain ⟨hone, hclosed, _, hrest, hpath⟩ := h
    exact ZoneRec.settleBarrier_sound (.inr rfl) (fun hc => ⟨(hclosed hc).1, rfl⟩) hrest
      fun q hq => hpath q (hq.imp_right (·.imp_left nofun))
  · exact h

/-- R42: a zone that is not taken by another mover and whose barrier is Open is granted. -/
theorem grantTo (h : z.Sound p) (hm : pathOf m = p) (hother : z.takenByOther m = false)
    (hbarrier : z.barrier = .opened) : (z.grantTo m).Sound p := by
  obtain ⟨_, _, _, _, hpath⟩ := h
  have hclears : (z.grantTo m).clearingFor = none := by
    cases hc : z.clearingFor <;> simp_all [ZoneRec.grantTo, ZoneRec.takenByOther]
  have hopen : (z.grantTo m).barrier = .opened := hbarrier
  refine ⟨.inr hclears, by simp [hopen], by simp [hopen], fun q hq => ?_, fun q hq => ?_⟩
  · obtain rfl : m = q := Option.some.inj hq
    simp [ZoneRec.grantTo, mem_dropMover]
  · rcases hq with hq | hq | hq | hq
    · obtain rfl : m = q := Option.some.inj hq
      exact hm
    · rw [hclears] at hq; cases hq
    · exact hpath q (.inr (.inr (.inl (mem_dropMover.mp hq).1)))
    · exact hpath q (.inr (.inr (.inr (mem_dropMover.mp hq).1)))

/-- R43. -/
theorem enterWaiting (h : z.Sound p) (hm : pathOf m = p) : (z.enterWaiting m).Sound p := by
  unfold ZoneRec.enterWaiting
  split
  · obtain ⟨hone, hclosed, hpending, hrest, hpath⟩ := h
    refine ⟨hone, hclosed, hpending, hrest, fun q hq => ?_⟩
    by_cases hqm : q = m
    · rwa [hqm]
    · exact hpath q (hq.imp_right (·.imp_right (·.imp_right fun hw => (mem_addMover.mp hw).resolve_left hqm)))
  · exact h

/-- R48. -/
theorem releaseAtRest (h : z.Sound p) (body : Option Extent) : (z.releaseAtRest m body).Sound p := by
  unfold ZoneRec.releaseAtRest
  split
  · next hholder =>
    refine h.holdLost hholder (fun q hq => ?_) fun q hq => .inr hq
    split at hq
    · exact mem_addMover.mp hq
    · exact .inr hq
  · exact h

/-- R49. -/
theorem releaseMoving (h : z.Sound p) (e : Option Envelope) : (z.releaseMoving m e).Sound p := by
  unfold ZoneRec.releaseMoving
  split
  · next hholder =>
    refine h.holdLost hholder (fun q hq => .inr hq) fun q hq => ?_
    split at hq
    · exact .inl (Option.some.inj hq).symm
    · exact .inr hq
  · exact h

/-- R55, the Close column. -/
theorem close (h : z.Sound p) : z.close.Sound p := by
  unfold ZoneRec.close
  split
  · obtain ⟨hone, _, _, hrest, hpath⟩ := h
    refine ⟨hone, ?_, ?_, hrest, hpath⟩ <;> cases hh : z.holder <;> cases hc : z.clearingFor <;> simp
  · exact h

/-- R55, the Open column. -/
theorem unbar (h : z.Sound p) : z.unbar.Sound p := by
  obtain ⟨hone, _, _, hrest, hpath⟩ := h
  exact ⟨hone, nofun, nofun, hrest, hpath⟩

/-- R37. -/
theorem restUpdate (h : z.Sound p) (hm : pathOf m = p) (body : Option Extent) : (restUpdate m body z).Sound p :=
  h.setResting fun hr => ⟨hm, by simpa using (Bool.and_eq_true_iff.mp hr).2⟩

/-- R44, R51. -/
theorem movingUpdate (h : z.Sound p) (d : Direction) (before after : Option Extent) (e : Option Envelope) :
    (movingUpdate m d before after e z).Sound p := by
  have hout : (z.setResting m false).Sound p := h.setResting nofun
  unfold Sys2Proof.Machine.movingUpdate
  dsimp only
  split
  · next hleft =>
    have hholder : (z.setResting m false).holder = some m := by
      unfold releasedBehind at hleft
      split at hleft <;> simp_all [ZoneRec.setResting]
    exact hout.holdLost hholder (fun q hq => .inr hq) fun q hq => .inr hq
  · split
    · exact hout
    · exact hout.endClearing

/-- R57. -/
theorem loseHold (h : z.Sound p) (s : State) : (s.loseHold z).Sound p := by
  unfold State.loseHold
  split
  · next m hholder =>
    split
    · exact h
    · split
      · refine h.holdLost hholder (fun q hq => ?_) fun q hq => .inr hq
        split at hq
        · exact mem_addMover.mp hq
        · exact .inr hq
      · refine h.holdLost hholder (fun q hq => .inr hq) fun q hq => ?_
        split at hq
        · exact .inl (Option.some.inj hq).symm
        · exact .inr hq
  · exact h

/-- R53. -/
theorem convertZone (h : z.Sound p) (hm : pathOf m = p) (body : Option Extent) : (convertZone m body z).Sound p := by
  unfold Sys2Proof.Machine.convertZone
  split
  · next hholder =>
    split
    · exact h.holdLost hholder (fun q => mem_addMover.mp) fun q hq => .inr hq
    · exact h
  · next hholder =>
    refine h.endClearing.setResting fun _ => ⟨hm, ?_⟩
    unfold ZoneRec.endClearing ZoneRec.settleBarrier
    (repeat' split) <;> exact hholder

end ZoneRec.Sound

end

/-! ## The laws of the whole table -/

/-- Every record of a table is sound. -/
def ZoneTable.Sound (t : ZoneTable) : Prop := ∀ p, ∀ z ∈ t.zones p, z.Sound p

theorem State.zonesSound_iff (s : State) : s.ZonesSound ↔ s.zt.Sound := Iff.rfl

theorem ZoneTable.Sound.setZones {t : ZoneTable} (h : t.Sound) {p : Path} {zs : List ZoneRec}
    (hzs : ∀ z ∈ zs, z.Sound p) : (t.setZones p zs).Sound := by
  intro q z hz
  by_cases hq : q = p
  · subst hq
    exact hzs z (by simpa using hz)
  · exact h q z (by rwa [ZoneTable.zones_setZones_of_ne t hq] at hz)

/-- A function that keeps the laws of a path's records, run over the path or a range of it. -/
theorem ZoneTable.Sound.map {t : ZoneTable} (h : t.Sound) {p : Path} {f : ZoneRec → ZoneRec}
    (hf : ∀ z, z.Sound p → (f z).Sound p) : ∀ z ∈ (t.zones p).map f, z.Sound p := by
  intro z hz
  obtain ⟨y, hy, rfl⟩ := List.mem_map.mp hz
  exact hf y (h p y hy)

theorem ZoneTable.Sound.mapRange {t : ZoneTable} (h : t.Sound) {p : Path} {r : ZoneRange} {f : ZoneRec → ZoneRec}
    (hf : ∀ k z, (t.zones p)[k]? = some z → r.has k = true → z.Sound p → (f z).Sound p) :
    ∀ z ∈ mapRange (t.zones p) r f, z.Sound p := by
  intro z hz
  obtain ⟨k, y, hy, rfl⟩ := mem_mapRange hz
  have hsound : y.Sound p := h p y (List.mem_of_getElem? hy)
  split
  · next hk => exact hf k y hy hk hsound
  · exact hsound

/-- R58. -/
theorem ZoneTable.sound_initial (img : Image) : (ZoneTable.initial img).Sound := by
  intro p z hz
  rw [ZoneTable.initial_zones] at hz
  obtain ⟨k, _, rfl⟩ := List.mem_map.mp hz
  exact freshZone_sound _ k

section
variable {s : State}

/-- R45, R56. -/
theorem State.commitZones_sound {t : ZoneTable} (h : t.Sound) : (s.commitZones t).ZonesSound := by
  intro p z hz
  obtain ⟨y, hy, rfl | rfl⟩ := State.mem_commitZones hz
  · exact h p _ hy
  · exact (h p y hy).emptied

/-- An event over a range of a path keeps the laws where its change of a zone does. -/
theorem State.ZonesSound.commitRange (h : s.ZonesSound) {p : Path} {r : ZoneRange} {f : ZoneRec → ZoneRec}
    (hf : ∀ k z, (s.zt.zones p)[k]? = some z → r.has k = true → z.Sound p → (f z).Sound p) :
    (s.commitZones (s.zt.setZones p (mapRange (s.zt.zones p) r f))).ZonesSound :=
  State.commitZones_sound (ZoneTable.Sound.setZones h (ZoneTable.Sound.mapRange h hf))

/-- R53. -/
theorem State.ZonesSound.parkingConversion (h : s.ZonesSound) (m : Mover) : (s.parkingConversion m).ZonesSound := by
  have hbody : ZoneTable.Sound { s.zt with body := s.zt.body.set m (s.pos.movers.get m).body } := h
  exact State.commitZones_sound (hbody.setZones (hbody.map fun z hz => hz.convertZone rfl _))

/-- R12. -/
theorem State.takeUpImage_sound (s : State) : s.takeUpImage.ZonesSound := by
  intro p z hz
  rw [State.takeUpImage_zones] at hz
  obtain ⟨k, hk⟩ := List.mem_iff_getElem?.mp hz
  rw [eq_of_restingZones_getElem? hk]
  refine ⟨.inl rfl, fun _ => ⟨rfl, rfl⟩, nofun, nofun, fun q hq => ?_⟩
  rcases hq with hq | hq | hq | hq
  · cases hq
  · cases hq
  · exact pathOf_of_mem_moversOn (List.mem_of_mem_filter hq)
  · cases hq

/-! ## The operations of other blocks that lead to parking conversion (R53) -/

/-- An operation that leaves the Zone Table alone keeps the laws. -/
theorem State.ZonesSound.of_zt {t : State} (h : s.ZonesSound) (hzt : t.zt = s.zt) : t.ZonesSound := by
  rw [State.zonesSound_iff, hzt]
  exact h

/-- What is in flight is none of the laws' concern: so a notice posted or a cause handed on keeps them. -/
theorem State.ZonesSound.withHand (h : s.ZonesSound) (x : Handovers) : (s.withHand x).ZonesSound := h

/-- R95 to R99: of the effects of a cause, only the halt of a Parked mover reaches the zones. -/
theorem State.ZonesSound.applyCause (h : s.ZonesSound) (c : Cause) (m : Mover) : (s.applyCause c m).ZonesSound := by
  have hcontrolled : (s.applyControlled c m).ZonesSound := by
    unfold State.applyControlled
    split <;> exact h.of_zt (by simp)
  have himmediate : (s.applyImmediate c m).ZonesSound := by
    unfold State.applyImmediate
    split
    · exact h.of_zt (by simp)
    · exact h.of_zt (by simp)
    · refine State.ZonesSound.withHand (State.ZonesSound.parkingConversion ?_ m) _
      exact h.of_zt (by simp)
    · exact h.of_zt (by simp)
    · exact h.of_zt (by simp)
  unfold State.applyCause
  split
  · exact himmediate
  · exact hcontrolled
  · exact h
  · exact h

/-- R94. -/
theorem State.ZonesSound.takeCause (h : s.ZonesSound) (c : CauseMessage) : (s.takeCause c).ZonesSound := by
  have hcauses : (c.scope.movers.foldl (fun t m => t.applyCause c.cause m) s).ZonesSound :=
    foldl_preserves State.ZonesSound _ (fun _ m ht => ht.applyCause c.cause m) _ _ h
  exact hcauses.withHand _

/-- R97, R79. -/
theorem State.ZonesSound.comeToRest (h : s.ZonesSound) (m : Mover) (stopEnd : StopEnd) (lead : Int) :
    (s.comeToRest m stopEnd lead).ZonesSound := by
  unfold State.comeToRest
  dsimp only
  split
  · refine State.ZonesSound.parkingConversion ?_ m
    exact h.of_zt (by simp)
  · refine State.ZonesSound.withHand (State.ZonesSound.parkingConversion ?_ m) _
    exact h.of_zt (by simp)

/-- R79. -/
theorem State.ZonesSound.takeConsumption (h : s.ZonesSound) (m : Mover) : (s.takeConsumption m).ZonesSound := by
  have hconsume : ∀ {t : State}, t.ZonesSound → (t.consume m).ZonesSound := by
    intro t ht
    unfold State.consume
    dsimp only
    split
    · split
      · exact ht.comeToRest m _ _
      · exact ht
    · exact ht
  unfold State.takeConsumption
  split
  · exact hconsume (h.of_zt rfl)
  · exact h

/-- R106. -/
theorem State.ZonesSound.watchRest (h : s.ZonesSound) (u : PositionUpdate) : (s.watchRest u).ZonesSound := by
  unfold State.watchRest
  dsimp only
  split
  · split
    · refine State.ZonesSound.takeCause ?_ _
      exact h.of_zt rfl
    · exact h.of_zt rfl
  · exact h

/-- R97, R100, R106. -/
theorem State.ZonesSound.followMover (h : s.ZonesSound) (u : PositionUpdate) : (s.followMover u).ZonesSound := by
  unfold State.followMover
  split
  · exact h.watchRest u
  · exact h.watchRest u
  · split
    · exact h.comeToRest _ _ _
    · exact h
  · split
    · exact State.ZonesSound.parkingConversion (h.of_zt (by simp)) _
    · exact h
  all_goals exact h

/-- R97, R100, R105, R106. -/
theorem State.ZonesSound.takeUpdateMsu (h : s.ZonesSound) (m : Mover) : (s.takeUpdateMsu m).ZonesSound := by
  unfold State.takeUpdateMsu
  split
  · exact State.ZonesSound.followMover (h.of_zt (by simp)) _
  · exact h

/-- R94. -/
theorem State.ZonesSound.takeCauseOf (h : s.ZonesSound) (c : CauseClass) (n : Nat) :
    (s.takeCauseOf c n).ZonesSound := by
  unfold State.takeCauseOf
  split
  · exact (h.withHand _).takeCause _
  · exact h

/-! ## The events of the Zone Table itself -/

/-- R37, R44, R51. -/
theorem State.ZonesSound.takeUpdateZt (h : s.ZonesSound) (m : Mover) : (s.takeUpdateZt m).ZonesSound := by
  have hupdate : ∀ {t : State} (u : PositionUpdate), t.ZonesSound → (t.updateZones u).ZonesSound := by
    intro t u ht
    have hbody : ZoneTable.Sound { t.zt with body := t.zt.body.set u.mover u.body } := ht
    refine State.commitZones_sound (hbody.setZones (hbody.map fun z hz => ?_))
    split
    · exact hz.restUpdate rfl _
    · exact hz.movingUpdate _ _ _ _
  unfold State.takeUpdateZt
  split
  · exact hupdate _ (h.of_zt rfl)
  · exact h

/-- R57. -/
theorem State.ZonesSound.takeSwitchLoss (h : s.ZonesSound) : s.takeSwitchLoss.ZonesSound := by
  have hlose : ∀ {t : State}, t.ZonesSound → t.loseHolds.ZonesSound := by
    intro t ht
    refine State.commitZones_sound fun p z hz => ?_
    cases p with
    | runway => exact ZoneTable.Sound.map (t := t.zt) ht (fun y hy => hy.loseHold t) z hz
    | tray => exact ZoneTable.Sound.map (t := t.zt) ht (fun y hy => hy.loseHold t) z hz
  unfold State.takeSwitchLoss
  split
  · exact hlose (h.of_zt rfl)
  · exact h

/-- R11, R12, R13. -/
theorem State.ZonesSound.endWrite (h : s.ZonesSound) (readbackMatches : Bool) :
    (s.endWrite readbackMatches).ZonesSound := by
  unfold State.endWrite
  split
  · split
    · exact (State.takeUpImage_sound _).of_zt (by simp [State.writeSucceeds]; rfl)
    · exact h.of_zt (by simp)
  · exact h

/-- R58. -/
theorem State.resetTo_zonesSound (s : State) (k : ResetKind) : (s.resetTo k).ZonesSound :=
  ZoneTable.sound_initial _

/-! ## The requests (R39 to R43, R47 to R50, R54, R55, R107, R108) -/

/-- What a request's settlement must do for serving it to keep the laws of the zones. -/
def Settlement.KeepsZones (settle : Settlement) : Prop := ∀ p r (t : State), t.ZonesSound → (settle p r t).1.ZonesSound

/-- The handler touches no zone but through the settlement (R153). -/
theorem State.ZonesSound.serve (h : s.ZonesSound) (row : Instr) {settle : Settlement} (hsettle : settle.KeepsZones) :
    (s.serve row settle).ZonesSound := by
  unfold State.serve
  split
  · next p r _ =>
    split
    · have hkept := hsettle p r (s.takeHead p) (h.of_zt (by simp))
      unfold State.handle
      dsimp only
      split
      · exact h.of_zt (by simp)
      · split
        · next heq => rw [heq] at hkept; exact State.ZonesSound.of_zt hkept (by simp)
        · next heq => rw [heq] at hkept; exact hkept
    · exact h
  · exact h

/-- R40, conditions 1 and 2: where nothing refuses a range, no other mover has a zone of it and its barriers are
Open. -/
theorem State.free_of_reserveRefusal {m : Mover} {r : ZoneRange} (h : s.reserveRefusal m r = none) :
    NoneIn (s.zt.zones (pathOf m)) r (fun z => z.takenByOther m = true)
      ∧ NoneIn (s.zt.zones (pathOf m)) r (fun z => (z.barrier != .opened) = true) := by
  simp only [State.reserveRefusal, Option.orElse_eq_orElse, Option.orElse_eq_or,
    Option.or_eq_none_iff, Option.map_eq_none_iff, lowestWhere_none] at h
  exact ⟨h.1, h.2.1⟩

theorem settleReserve_keepsZones : settleReserve.KeepsZones := by
  intro p r t ht
  unfold settleReserve
  split
  · split
    · exact ht
    · next m _ =>
      unfold State.reserveRange
      split
      · next hgrant =>
        obtain ⟨hother, hbarred⟩ := State.free_of_reserveRefusal hgrant
        refine ht.commitRange fun k z hz hk hsound => ?_
        simp only [ZoneRange.has, Bool.and_eq_true, decide_eq_true_eq] at hk
        exact hsound.grantTo rfl (by simpa using hother k z hz hk.1 hk.2) (by simpa using hbarred k z hz hk.1 hk.2)
      · dsimp only
        split
        · exact ht.commitRange fun _ _ _ _ hsound => hsound.enterWaiting rfl
        · exact ht
  · exact ht

theorem settleRelease_keepsZones : settleRelease.KeepsZones := by
  intro p r t ht
  unfold settleRelease
  split
  · exact ht
  · next m _ =>
    unfold State.releaseRange
    dsimp only
    split
    · exact ht.commitRange fun _ _ _ _ hsound => hsound.releaseAtRest _
    · split
      · exact ht
      · have hreleased := ht.commitRange (p := pathOf m) (r := t.rangeOf m r.body)
          fun _ _ _ _ hsound => hsound.releaseMoving (m := m) (t.envelopeOf m)
        dsimp only
        split
        · exact State.ZonesSound.of_zt hreleased (by simp [State.zonesMapped])
        · exact hreleased

theorem settleBarrierRequest_keepsZones : settleBarrierRequest.KeepsZones := by
  intro p r t ht
  unfold settleBarrierRequest
  split
  · split
    · next q f _ haction =>
      refine ht.commitRange fun _ _ _ _ hsound => ?_
      unfold barrierAction at haction
      split at haction <;> cases haction
      · exact hsound.unbar
      · exact hsound.close
    · exact ht
  · exact ht

theorem settleStop_keepsZones : settleStop.KeepsZones := by
  intro p r t ht
  unfold settleStop State.stopMover
  split
  · exact ht
  · split
    · exact ht.takeCause _
    all_goals exact ht

theorem settleClear_keepsZones : settleClear.KeepsZones := by
  intro p r t ht
  unfold settleClear State.askClear
  split
  · split
    · exact ht
    · split
      · exact ht
      · exact ht
      · exact ht
      · exact ht
      · split
        · exact ht
        · exact State.ZonesSound.parkingConversion (ht.of_zt (by simp)) _
  · exact ht

/-! ## Every command keeps the laws -/

/-- A command whose frame leaves the Zone Table as it was. -/
theorem State.ZonesSound.of_frame (h : s.ZonesSound) {o : Host.Outcome State Fault Refusal} {Q : State → Prop}
    (hframe : ∃ t, o = .next t ∧ Q t) (hzt : ∀ t, Q t → t.zt = s.zt := by intro t ht; simp [ht]) :
    ∃ t, o = .next t ∧ t.ZonesSound := by
  obtain ⟨t, ho, ht⟩ := hframe
  exact ⟨t, ho, h.of_zt (hzt t ht)⟩

/-- A command that the part takes only while it runs keeps the laws where its effect does. -/
theorem State.ZonesSound.whileRunning (h : s.ZonesSound) {f : State → State} (hf : (f s).ZonesSound) :
    ∃ t, s.whileRunning f = .next t ∧ t.ZonesSound := by
  refine ⟨_, rfl, ?_⟩
  split
  · exact h
  · exact hf

/-- A request command whose settlement keeps the laws. -/
theorem State.ZonesSound.served (h : s.ZonesSound) {row : Instr} {settle : Settlement} (hsettle : settle.KeepsZones) :
    ∃ t, (s.whileRunning fun s => s.serve row settle) = .next t ∧ t.ZonesSound :=
  h.whileRunning (f := (·.serve row settle)) (h.serve row hsettle)

end

/-- Every command keeps the laws: resets build the table anew, the commands of chapters 3 and 6 and the end of a storage
write act on its zones, and no other command touches it. -/
theorem exec_keeps_zonesSound {s : State} (h : s.ZonesSound) (i : Instr) : ∃ t, exec i s = .next t ∧ t.ZonesSound := by
  cases i with
  | powerOnReset => exact ⟨_, rfl, s.resetTo_zonesSound _⟩
  | lineReset =>
    refine h.whileRunning ?_
    split
    · exact s.resetTo_zonesSound _
    · exact h
  | resetLineRelease =>
    refine ⟨_, rfl, ?_⟩
    split
    · exact s.lineReleased.resetTo_zonesSound _
    · exact h
  | commandedReset =>
    refine h.whileRunning ?_
    split
    · exact s.resetTo_zonesSound _
    · exact h
  | reserve => exact h.served settleReserve_keepsZones
  | release => exact h.served settleRelease_keepsZones
  | barrierClose | barrierOpen => exact h.served settleBarrierRequest_keepsZones
  | stop => exact h.served settleStop_keepsZones
  | clear => exact h.served settleClear_keepsZones
  | positionUpdateZT m => exact h.whileRunning (f := (·.takeUpdateZt m)) (h.takeUpdateZt m)
  | braceSwitchLoss => exact h.whileRunning (f := State.takeSwitchLoss) h.takeSwitchLoss
  | authorityConsumed m => exact h.whileRunning (f := (·.takeConsumption m)) (h.takeConsumption m)
  | positionUpdateMSU m => exact h.whileRunning (f := (·.takeUpdateMsu m)) (h.takeUpdateMsu m)
  | immediateCauseTaken n => exact h.whileRunning (f := (·.takeCauseOf .immediate n)) (h.takeCauseOf _ n)
  | controlledCauseTaken n => exact h.whileRunning (f := (·.takeCauseOf .controlled n)) (h.takeCauseOf _ n)
  | holdCauseTaken n => exact h.whileRunning (f := (·.takeCauseOf .hold n)) (h.takeCauseOf _ n)
  | storageWriteComplete ok => exact h.whileRunning (f := (·.endWrite ok)) (h.endWrite ok)
  | resetLineAssertion => exact h.of_frame (execResetLineAssertion_frame s)
  | completeFrame p => exact h.of_frame (execCompleteFrame_frame p s)
  | frameTimerExpiry p => exact h.of_frame (execFrameTimerExpiry_frame p s)
  | replyFrameSent p => exact h.of_frame (execReplyFrameSent_frame p s)
  | silenceTimerExpiry p => exact h.of_frame (execSilenceTimerExpiry_frame p s)
  | unknownRequestCode => exact h.of_frame (execUnknownRequestCode_frame s)
  | status => exact h.of_frame (execStatus_frame s)
  | moverStatus => exact h.of_frame (execMoverStatus_frame s)
  | notice => exact h.of_frame (execNotice_frame s)
  | mask => exact h.of_frame (execMask_frame s)
  | move => exact h.of_frame (execMove_frame s)
  | braceEngage => exact h.of_frame (execBraceEngage_frame s)
  | braceWithdraw => exact h.of_frame (execBraceWithdraw_frame s)
  | braceClear => exact h.of_frame (execBraceClear_frame s)
  | permitsOff => exact h.of_frame (execPermitsOff_frame s)
  | permitsOn => exact h.of_frame (execPermitsOn_frame s)
  | arm => exact h.of_frame (execArm_frame s)
  | standby => exact h.of_frame (execStandby_frame s)
  | reset => exact h.of_frame (execReset_frame s)
  | faultRead => exact h.of_frame (execFaultRead_frame s)
  | faultClear => exact h.of_frame (execFaultClear_frame s)
  | configRead => exact h.of_frame (execConfigRead_frame s)
  | configWrite => exact h.of_frame (execConfigWrite_frame s)
  | commit => exact h.of_frame (execCommit_frame s)
  | readingArrival bus f => exact h.of_frame (execReadingArrival_frame bus f s)
  | gapTimerExpiry a role => exact h.of_frame (execGapTimerExpiry_frame a role s)
  | lossTimerExpiry a => exact h.of_frame (execLossTimerExpiry_frame a s)
  | validityChange a => exact h.of_frame (execValidityChange_frame a s)
  | positionUpdateASU m => exact h.of_frame (execPositionUpdateASU_frame m s)
  | deviceStateChangeMSU => exact h.of_frame (execDeviceStateChangeMSU_frame s)
  | tripTimerExpiry m => exact h.of_frame (execTripTimerExpiry_frame m s)
  | readbackTimerExpiry m => exact h.of_frame (execReadbackTimerExpiry_frame m s)
  | readbackContactChange m closed => exact h.of_frame (execReadbackContactChange_frame m closed s)
  | stepTimerExpiry => exact h.of_frame (execStepTimerExpiry_frame s)
  | moverStateChange => exact h.of_frame (execMoverStateChange_frame s)
  | loopChannelChange c closed => exact h.of_frame (execLoopChannelChange_frame c closed s)
  | loopFilterExpiry c => exact h.of_frame (execLoopFilterExpiry_frame c s)
  | discrepancyTimerExpiry => exact h.of_frame (execDiscrepancyTimerExpiry_frame s)
  | driveTripInputChange m active => exact h.of_frame (execDriveTripInputChange_frame m active s)
  | driveTripFilterExpiry m => exact h.of_frame (execDriveTripFilterExpiry_frame m s)
  | braceSwitchChange b engaged withdrawn => exact h.of_frame (execBraceSwitchChange_frame b engaged withdrawn s)
  | operationTimerExpiry b => exact h.of_frame (execOperationTimerExpiry_frame b s)
  | cutShort => exact h.of_frame (execCutShort_frame s)
  | demandConditionTest src => exact h.of_frame (execDemandConditionTest_frame s src)
  | anemometerPulse which => exact h.of_frame (execAnemometerPulse_frame which s)
  | intervalClosure => exact h.of_frame (execIntervalClosure_frame s)
  | noticePosting src => exact h.of_frame (execNoticePosting_frame src s)
  | causeHandover n => exact h.of_frame (execCauseHandover_frame n s)
  | stationPortByte p b framingError => exact h.of_frame (execStationPortByte_frame p b framingError s)

/-- Settles O56: the command taken off the queue keeps the laws, and the queue is none of theirs. -/
theorem everyStepKeepsZonesSound : Obligations.EveryStepKeepsZonesSound := by
  intro s t hs hstep
  unfold step at hstep
  split at hstep
  · cases hstep
    exact hs
  · next c rest _ =>
    obtain ⟨u, hu, hsound⟩ := exec_keeps_zonesSound (s := s.withPending rest) hs c
    obtain rfl : u = t := Host.Outcome.next.inj (hu.symm.trans hstep)
    exact hsound

/-! ## The state after the first power-on reset -/

/-- Settles O60: no storage write is in flight, and every block's record is its initial one. -/
theorem resetIsSound : Obligations.ResetIsSound := by
  refine ⟨ZoneTable.sound_initial _, ⟨fun m => ?_, by simp [State.reset], by simp [State.reset]⟩, fun b => ?_,
    fun a => ?_, Wm.sound_initial, ⟨fun p => ?_, nofun⟩, fun p => ?_, Fr.sound_initial⟩
  · have hmsu : State.reset.msu.get m = .initial false := PerMover.get_ofFn _ m
    have hauthority : State.reset.authorityOf m = .initial := PerMover.get_ofFn _ m
    simp [State.MoverSound, MoverRec.Sound, Authority.Sound, State.RelaySound, State.moverState, hmsu, hauthority,
      MoverRec.initial, Authority.initial, Timer.isRunning, MoverState.hasAuthority]
  · have hbrace : State.reset.brc.braces.get b = .initial false false := PerBrace.get_ofFn _ b
    rw [hbrace]
    simp [BraceRec.Sound, BraceRec.initial, BraceRec.reading, stateOfReading, Timer.isRunning]
  · rw [show State.reset.pos.axes.get a = .initial from PerAxis.get_ofFn _ a]
    exact AxisRec.sound_initial
  · rw [show State.reset.spu.ports.get p = .initial from PerPort.get_ofFn _ p]
    exact PortRec.sound_initial
  · rw [show State.reset.nu.get p = .restarted ⟨true, false, false, false⟩ from PerPort.get_ofFn _ p]
    exact NoticeQueue.sound_restarted _

end Sys2Proof.Machine
end

section
/-! SUPPORT. The Zone Table (chapter 3): what every event of it ends with, and what a mover's entry to rest does to its
zones and its authority. It settles O22 and O23. -/

namespace Sys2Proof.Machine

/-! ## Derived states (R36) -/

theorem bodyOverlaps_iff {b : Option Extent} {z : ZoneRec} :
    bodyOverlaps b z = true ↔ ∃ e, b = some e ∧ e.low < z.stop ∧ z.start ≤ e.high := by
  cases b <;> simp [bodyOverlaps, Extent.overlaps]

theorem ZoneTable.anyBody_iff {t : ZoneTable} {p : Path} {z : ZoneRec} : t.anyBody p z = true
    ↔ ∃ m ∈ moversOn p, ∃ e, t.body.get m = some e ∧ e.low < z.stop ∧ z.start ≤ e.high := by
  simp only [ZoneTable.anyBody, List.any_eq_true, bodyOverlaps_iff]

/-- Whether a mover rests in a zone or lies over it (R36). -/
def ZoneTable.occupied (t : ZoneTable) (p : Path) (z : ZoneRec) : Bool := !z.resting.isEmpty || t.anyBody p z

theorem ZoneTable.occupied_iff {t : ZoneTable} {p : Path} {z : ZoneRec} : t.occupied p z = true ↔ z.resting ≠ []
    ∨ ∃ m ∈ moversOn p, ∃ e, t.body.get m = some e ∧ e.low < z.stop ∧ z.start ≤ e.high := by
  simp only [ZoneTable.occupied, Bool.or_eq_true, ZoneTable.anyBody_iff, Bool.not_eq_true', List.isEmpty_eq_false_iff]

theorem ZoneTable.occupied_eq_false {t : ZoneTable} {p : Path} {z : ZoneRec} : t.occupied p z = false ↔ z.resting = []
    ∧ ¬ ∃ m ∈ moversOn p, ∃ e, t.body.get m = some e ∧ e.low < z.stop ∧ z.start ≤ e.high := by
  rw [← Bool.not_eq_true, ZoneTable.occupied_iff, not_or, not_not]

/-- The rows for a zone with neither holder nor clearing. -/
theorem ZoneTable.stateOf_unclaimed {t : ZoneTable} {p : Path} {z : ZoneRec} (hholder : z.holder = none)
    (hclearing : z.clearingFor = none) : t.stateOf p z
      = if z.barrier = .closed then .closed (t.occupied p z) else if t.occupied p z then .resting else .free := by
  simp [ZoneTable.stateOf, hholder, hclearing, ZoneTable.occupied]

/-! ## What becomes Free (R45) -/

section
variable {t t' : ZoneTable} {p : Path} {z z' : ZoneRec}

theorem becameFree_iff : becameFree t t' p z z' = true ↔ t.stateOf p z ≠ .free ∧ t'.stateOf p z' = .free := by
  simp [becameFree]

theorem emptyFreed_getElem? {k : Nat} (h : (t.zones p)[k]? = some z) (h' : (t'.zones p)[k]? = some z') :
    (emptyFreed t t' p)[k]? = some (if becameFree t t' p z z' then { z' with waiting := [] } else z') := by
  have hpair : ((t.zones p).zip (t'.zones p))[k]? = some (z, z') := List.getElem?_zip_eq_some.mpr ⟨h, h'⟩
  simp [emptyFreed, hpair]

theorem emptyFreed_length (h : (t'.zones p).length = (t.zones p).length) :
    (emptyFreed t t' p).length = (t.zones p).length := by
  simp [emptyFreed, h]

end

theorem mem_waitingByStation {ws : List Mover} {q : Port} {n : Nat} : (q, n) ∈ waitingByStation ws
    ↔ (q = .roof ∨ q = .pitch) ∧ (∃ m ∈ ws, ownerOf m = q) ∧ n = (ws.filter fun m => ownerOf m == q).length := by
  have hnone : ∀ q', (ws.filter fun m => ownerOf m == q').length = 0 ↔ ¬ ∃ m ∈ ws, ownerOf m = q' := by
    intro q'
    simp [List.filter_eq_nil_iff]
  simp only [waitingByStation, List.mem_filterMap, List.mem_cons, List.not_mem_nil, or_false]
  constructor
  · rintro ⟨q', hq', hsome⟩
    split at hsome
    · cases hsome
    · next hsome' =>
      obtain ⟨rfl, rfl⟩ := Prod.mk.inj (Option.some.inj hsome)
      exact ⟨hq', not_not.mp ((hnone _).not.mp hsome'), rfl⟩
  · rintro ⟨hq, hsome, rfl⟩
    exact ⟨q, hq, if_neg ((hnone q).not.mpr (not_not.mpr hsome))⟩

theorem waitingByStation_nodup (ws : List Mover) : (waitingByStation ws).Nodup := by
  refine List.Nodup.filterMap (fun a a' b hb hb' => ?_) (by decide)
  simp only [Option.mem_def, Option.ite_none_left_eq_some] at hb hb'
  rw [← hb.2] at hb'
  exact (Prod.mk.inj (Option.some.inj hb'.2)).1.symm

/-- R45: a ZONE FREED notice of zone k of a path, for the station that owns some of the movers waiting for it. -/
def freedPosting (p : Path) (k : Nat) (w : Port × Nat) : Posting := ⟨.zt, [w.1], ⟨.zoneFreed, 2, .zone p k, w.2⟩⟩

theorem mem_freedPostings {t t' : ZoneTable} {p : Path} {x : Posting} : x ∈ freedPostings t t' p
    ↔ ∃ (k : Nat) (z z' : ZoneRec), (t.zones p)[k]? = some z ∧ (t'.zones p)[k]? = some z' ∧ becameFree t t' p z z' = true
      ∧ ∃ w ∈ waitingByStation z'.waiting, x = freedPosting p k w := by
  simp only [freedPostings, List.mem_flatMap, Prod.exists, List.mem_zipIdx_iff_getElem?, List.getElem?_zip_eq_some]
  constructor
  · rintro ⟨z, z', k, ⟨hz, hz'⟩, hx⟩
    split at hx
    · next hfree =>
      obtain ⟨w, hw, rfl⟩ := List.mem_map.mp hx
      exact ⟨k, z, z', hz, hz', hfree, w.1, w.2, hw, rfl⟩
    · cases hx
  · rintro ⟨k, z, z', hz, hz', hfree, q, n, hw, rfl⟩
    refine ⟨z, z', k, ⟨hz, hz'⟩, ?_⟩
    rw [if_pos hfree]
    exact List.mem_map.mpr ⟨(q, n), hw, rfl⟩

/-- A notice's subject names its zone, so no two zones post the same. -/
theorem freedPostings_nodup (t t' : ZoneTable) (p : Path) : (freedPostings t t' p).Nodup := by
  refine List.nodup_flatMap.mpr ⟨fun x _ => ?_, ?_⟩
  · split
    · refine (waitingByStation_nodup _).map fun w w' hw => ?_
      simp only [Posting.mk.injEq, List.cons.injEq, Notice.mk.injEq, Nat.cast_inj, and_true, true_and] at hw
      exact Prod.ext hw.1 hw.2
    · exact List.nodup_nil
  · have hzones : ((((t.zones p).zip (t'.zones p)).zipIdx).map Prod.snd).Nodup := by
      rw [List.zipIdx_map_snd]
      exact List.nodup_range'
    refine (List.pairwise_map.mp hzones).imp fun {x y} hxy => List.disjoint_left.mpr fun a hx hy => hxy ?_
    have hsubject : ∀ x : (ZoneRec × ZoneRec) × Nat, a ∈ (if becameFree t t' p x.1.1 x.1.2 then
        (waitingByStation x.1.2.waiting).map fun w => freedPosting p x.2 w else []) →
          a.notice.subject = .zone p x.2 := by
      intro x ha
      split at ha
      · obtain ⟨w, _, rfl⟩ := List.mem_map.mp ha
        rfl
      · cases ha
    exact (Subject.zone.inj ((hsubject x hx).symm.trans (hsubject y hy))).2

/-- The notices of both paths, each once. -/
theorem freedPostings_both_nodup (t t' : ZoneTable) :
    (freedPostings t t' .runway ++ freedPostings t t' .tray).Nodup := by
  refine List.nodup_append.mpr ⟨freedPostings_nodup t t' _, freedPostings_nodup t t' _, fun a ha b hb hab => ?_⟩
  obtain ⟨_, _, _, _, _, _, _, _, rfl⟩ := mem_freedPostings.mp ha
  obtain ⟨_, _, _, _, _, _, _, _, rfl⟩ := mem_freedPostings.mp hb
  cases (Subject.zone.inj (congrArg (·.notice.subject) hab)).1

theorem holdChanged_iff {t t' : ZoneTable} {p : Path} : holdChanged t t' p = true
    ↔ ∃ (k : Nat) (z z' : ZoneRec), (t.zones p)[k]? = some z ∧ (t'.zones p)[k]? = some z' ∧ z.need ≠ .nothing
      ∧ (z.holder ≠ z'.holder ∨ z.clearingFor ≠ z'.clearingFor) := by
  simp only [holdChanged, List.any_eq_true, Prod.exists, Bool.and_eq_true, Bool.or_eq_true, bne_iff_ne,
    List.mem_iff_getElem?, List.getElem?_zip_eq_some]
  constructor
  · rintro ⟨z, z', ⟨k, hz, hz'⟩, h⟩
    exact ⟨k, z, z', hz, hz', h⟩
  · rintro ⟨k, z, z', hz, hz', h⟩
    exact ⟨z, z', ⟨k, hz, hz'⟩, h⟩

/-- A report is due where the holds of some path have changed (R56). -/
theorem holdChanged_either {t t' : ZoneTable} : (holdChanged t t' .runway || holdChanged t t' .tray) = true
    ↔ ∃ p, holdChanged t t' p = true := by
  rw [Bool.or_eq_true]
  exact ⟨fun h => h.elim (⟨_, ·⟩) (⟨_, ·⟩), fun ⟨p, hp⟩ => by cases p <;> simp [hp]⟩

/-- Settles O22: the rows of the derived state; then an event's records, notices and report, by what `commitZones`
changes. -/
theorem zoneEventsEndWithFreedZones : Obligations.ZoneEventsEndWithFreedZones := by
  refine ⟨fun t p z => ?states, fun s t hlength => ?event⟩
  case states =>
    refine ⟨fun hh => ?_, fun hh hc => ?_, fun hh hc hb ho => ?_, fun hh hc hb hr ho => ?_, fun hh hc hb ho => ?_,
      fun hh hc hb hr ho => ?_⟩
    · simp [ZoneTable.stateOf, Option.isSome_iff_ne_none.mpr hh]
    · simp [ZoneTable.stateOf, hh, Option.isSome_iff_ne_none.mpr hc]
    · rw [ZoneTable.stateOf_unclaimed hh hc, if_pos hb, ZoneTable.occupied_iff.mpr ho]
    · rw [ZoneTable.stateOf_unclaimed hh hc, if_pos hb, ZoneTable.occupied_eq_false.mpr ⟨hr, ho⟩]
    · rw [ZoneTable.stateOf_unclaimed hh hc, if_neg hb, if_pos (ZoneTable.occupied_iff.mpr ho)]
    · rw [ZoneTable.stateOf_unclaimed hh hc, if_neg hb, ZoneTable.occupied_eq_false.mpr ⟨hr, ho⟩]
      rfl
  case event =>
    have hdemand : (s.commitZones t).hand.demandEvents = s.hand.demandEvents
        ++ if holdChanged s.zt t .runway || holdChanged s.zt t .tray then [.holdReport] else [] := by
      rw [State.commitZones_eq]
    refine ⟨fun p => ?_, by rw [State.commitZones_eq], fun p k z z' hz hz' => ⟨fun hfree => ?_, fun hfree => ?_⟩,
      ⟨freedPostings s.zt t .runway ++ freedPostings s.zt t .tray, by rw [State.commitZones_eq],
        freedPostings_both_nodup _ _, fun x => ?_⟩, fun hchanged => ?_, fun hsame => ?_, by rw [State.commitZones_eq]⟩
    · rw [State.commitZones_zones, emptyFreed_length (hlength p)]
    · rw [State.commitZones_zones, emptyFreed_getElem? hz hz', if_pos (becameFree_iff.mpr hfree)]
    · rw [State.commitZones_zones, emptyFreed_getElem? hz hz', if_neg (becameFree_iff.not.mpr hfree)]
    · have hpath : x ∈ freedPostings s.zt t .runway ++ freedPostings s.zt t .tray
          ↔ ∃ p, x ∈ freedPostings s.zt t p := by
        rw [List.mem_append]
        exact ⟨fun h => h.elim (⟨_, ·⟩) (⟨_, ·⟩), fun ⟨p, hp⟩ => by cases p <;> simp [hp]⟩
      simp only [hpath, mem_freedPostings, becameFree_iff, Prod.exists, mem_waitingByStation]
      constructor
      · rintro ⟨p, k, z, z', hz, hz', hfree, q, _, ⟨hq, hm, rfl⟩, rfl⟩
        exact ⟨p, k, z, z', q, hz, hz', hfree, hq, hm, rfl⟩
      · rintro ⟨p, k, z, z', q, hz, hz', hfree, hq, hm, rfl⟩
        exact ⟨p, k, z, z', hz, hz', hfree, q, _, ⟨hq, hm, rfl⟩, rfl⟩
    · obtain ⟨p, hp⟩ := hchanged
      rw [hdemand, if_pos (holdChanged_either.mpr ⟨p, holdChanged_iff.mpr hp⟩)]
    · rw [hdemand, if_neg, List.append_nil]
      rw [holdChanged_either]
      rintro ⟨p, hp⟩
      obtain ⟨k, z, z', hz, hz', hneed, hdiffer⟩ := holdChanged_iff.mp hp
      obtain ⟨hholder, hclearing⟩ := hsame p k z z' hz hz' hneed
      exact hdiffer.elim (· hholder) (· hclearing)

/-! ## Entry to Parked or Halted (R53, R60) -/

theorem mem_axesOf {a : Axis} {m : Mover} : a ∈ axesOf m ↔ moverOfAxis a = m := by
  cases m <;> cases a <;> decide

theorem PerAxis.get_foldl_set {α : Type} (v : α) (as : List Axis) (cs : PerAxis α) (x : Axis) :
    (as.foldl (fun acc a => acc.set a v) cs).get x = if x ∈ as then v else cs.get x := by
  induction as generalizing cs with
  | nil => rfl
  | cons a as ih =>
    rw [List.foldl_cons, ih, PerAxis.get_set]
    by_cases hx : x ∈ as <;> simp [hx]

theorem clearCeilings_get (cs : PerAxis CeilingRec) (m : Mover) (x : Axis) :
    (clearCeilings cs m).get x = if moverOfAxis x = m then .initial else cs.get x := by
  simp only [clearCeilings, PerAxis.get_foldl_set, mem_axesOf]

/-- R55, as a change of the barrier alone. -/
theorem ZoneRec.settleBarrier_eq (z : ZoneRec) : z.settleBarrier = { z with
    barrier := if z.holder = none ∧ z.clearingFor = none ∧ z.barrier = .pending then .closed else z.barrier } := by
  unfold ZoneRec.settleBarrier
  split <;> rfl

/-- R51, as a change of the clearing and the barrier. -/
theorem ZoneRec.endClearing_eq (z : ZoneRec) (m : Mover) : z.endClearing m = { z with
    clearingFor := if z.clearingFor = some m then none else z.clearingFor
    barrier := if z.barrier = .pending ∧ z.clearingFor = some m ∧ z.holder = none then .closed else z.barrier } := by
  unfold ZoneRec.endClearing
  split
  · next hm => simp [ZoneRec.settleBarrier_eq, hm, and_comm]
  · next hm => simp [hm]

/-- Settles O23: the authority fields by R60, then each zone of the mover's path by R53. -/
theorem enteringRestConvertsHolds : Obligations.EnteringRestConvertsHolds := by
  intro s m
  refine ⟨⟨_, rfl, PerMover.get_set_self _ _ _, fun q hq => PerMover.get_set_of_ne _ _ _ _ hq, rfl,
    fun x => clearCeilings_get _ _ _⟩, ?_⟩
  have hconvert : convertZone m (s.pos.movers.get m).body = fun z => if z.holder = some m then
      if bodyOverlaps (s.pos.movers.get m).body z then
        { z with
          holder := none, resting := addMover m z.resting
          barrier := if z.barrier = .pending ∧ z.clearingFor = none then .closed else z.barrier }
      else z
    else
      { z with
        clearingFor := if z.clearingFor = some m then none else z.clearingFor
        resting := if bodyOverlaps (s.pos.movers.get m).body z then addMover m z.resting
          else z.resting.filter fun q => q != m
        barrier := if z.barrier = .pending ∧ z.clearingFor = some m ∧ z.holder = none then .closed else z.barrier } := by
    funext z
    unfold convertZone
    split
    · split
      · simp [ZoneRec.settleBarrier_eq, and_comm]
      · rfl
    · rw [ZoneRec.endClearing_eq]
      rfl
  exact congrArg (fun f => s.commitZones (ZoneTable.setZones _ _ (List.map f _))) hconvert

end Sys2Proof.Machine
end

section
/-! SUPPORT. The requests of the Zone Table (chapter 3): RESERVE, RELEASE and BARRIER. It settles O17, O18, O19 and
O20. -/

namespace Sys2Proof.Machine

/-! ## Tests over a range, in the words of the rules (R39, R40) -/

section
variable {zs : List ZoneRec} {r : ZoneRange} {test : ZoneRec → Bool} {c : ZoneRec → Prop}

theorem lowestWhere_eq_none (htest : ∀ z, test z = true ↔ c z) (h : NoneIn zs r c) : lowestWhere zs r test = none :=
  lowestWhere_none.mpr (by simpa only [htest] using h)

theorem lowestWhere_eq_some (htest : ∀ z, test z = true ↔ c z) {k : Nat} (h : LowestIn zs r c k) :
    lowestWhere zs r test = some k := lowestWhere_some (by simpa only [htest] using h)

end

theorem ZoneRec.takenByOther_iff {z : ZoneRec} {m : Mover} : z.takenByOther m = true
    ↔ (z.holder ≠ none ∧ z.holder ≠ some m) ∨ (z.clearingFor ≠ none ∧ z.clearingFor ≠ some m) := by
  simp [ZoneRec.takenByOther, Option.isSome_iff_ne_none]

theorem State.bothBraces_iff {s : State} {b : BraceState} :
    s.bothBraces b = true ↔ s.braceState .east = b ∧ s.braceState .west = b := by
  simp [State.bothBraces]

theorem State.needUnmet_iff {s : State} {n : BraceNeed} : (!s.needMet n) = true
    ↔ (n = .engaged ∧ ¬ (s.braceState .east = .engaged ∧ s.braceState .west = .engaged))
      ∨ (n = .withdrawn ∧ ¬ (s.braceState .east = .withdrawn ∧ s.braceState .west = .withdrawn)) := by
  rw [Bool.not_eq_true', ← Bool.not_eq_true]
  cases n with
  | nothing => simp [State.needMet]
  | engaged => rw [State.needMet, State.bothBraces_iff]; simp
  | withdrawn => rw [State.needMet, State.bothBraces_iff]; simp

theorem WindState.barsPanels_iff {w : WindState} : w.barsPanels = true ↔ w = .limit ∨ w = .unknown := by
  cases w <;> simp [WindState.barsPanels]

/-- R40, condition 5, zone by zone. -/
theorem adjacentTo_iff {zs : List ZoneRec} {r : ZoneRange} {m : Mover} {body : Option Extent} :
    adjacentTo r (ownNumbers zs m body) = true ↔ ∃ k z, zs[k]? = some z ∧ r.first ≤ k + 1 ∧ k ≤ r.last + 1
      ∧ (z.holder = some m ∨ z.clearingFor = some m ∨ bodyOverlaps body z = true) := by
  simp only [adjacentTo, ownNumbers, inOwnSet, List.any_map, List.any_filter, List.any_eq_true, Function.comp_apply,
    Prod.exists, List.mem_zipIdx_iff_getElem?, Bool.and_eq_true, Bool.or_eq_true, beq_iff_eq, decide_eq_true_eq]
  constructor
  · rintro ⟨z, k, hz, hown, hfirst, hlast⟩
    exact ⟨k, z, hz, hfirst, hlast, or_assoc.mp hown⟩
  · rintro ⟨k, z, hz, hfirst, hlast, hown⟩
    exact ⟨z, k, hz, or_assoc.mpr hown, hfirst, hlast⟩

/-! ## RESERVE (R39 to R43) -/

theorem requestRow_reserve {r : Request} (h : codeOfByte r.code = some .reserve) : requestRow r = .reserve := by
  simp [requestRow, h]

section
variable {s : State} {p : Port} {r : Request} {m : Mover}

theorem exec_reserve (h : s.Served p r .reserve) {t : State} {a : Answer}
    (hs : settleReserve p r (s.takeHead p) = (t, some a)) : exec .reserve s = .next (t.reply p r.tag a) :=
  serve_answers h (requestRow_reserve h.code) hs

/-- R39: a RESERVE in Armed that names a mover is settled on its range. -/
theorem settleReserve_named (harmed : s.dsu.state = .armed) (hm : fieldAt r.body 0 = moverNumber m) :
    settleReserve p r s = s.reserveRange m (s.rangeOf m r.body) := by
  simp only [settleReserve, if_pos harmed, moverOfNumber_iff.mpr hm]

/-- R40: a refusal other than HELD_BY_OTHER changes no zone. -/
theorem exec_reserve_refused (h : s.Served p r .reserve) (harmed : s.dsu.state = .armed)
    (hm : fieldAt r.body 0 = moverNumber m) {o : ReplyOutcome} {k : Nat}
    (hrefused : s.reserveRefusal m (s.rangeOf m r.body) = some (o, k)) (ho : o ≠ .heldByOther) :
    exec .reserve s = .next (s.answered p r ⟨o, false, byteField k⟩) := by
  refine exec_reserve h ((settleReserve_named (s := s.takeHead p) harmed hm).trans ?_)
  have hhead : (s.takeHead p).reserveRefusal m ((s.takeHead p).rangeOf m r.body) = some (o, k) := hrefused
  simp only [State.reserveRange, hhead, if_neg ho]

/-- R43: HELD_BY_OTHER enters the mover in waiting sets. -/
theorem exec_reserve_held (h : s.Served p r .reserve) (harmed : s.dsu.state = .armed)
    (hm : fieldAt r.body 0 = moverNumber m) {k : Nat}
    (hrefused : s.reserveRefusal m (s.rangeOf m r.body) = some (.heldByOther, k)) :
    exec .reserve s = .next (((s.takeHead p).commitZones (s.zonesMapped m (s.rangeOf m r.body) fun z =>
      z.enterWaiting m)).reply p r.tag ⟨.heldByOther, false, byteField k⟩) := by
  refine exec_reserve h ((settleReserve_named (s := s.takeHead p) harmed hm).trans ?_)
  have hhead : (s.takeHead p).reserveRefusal m ((s.takeHead p).rangeOf m r.body) = some (.heldByOther, k) := hrefused
  simp only [State.reserveRange, hhead, if_true]
  rfl

/-- R40: the refusal is that of the first condition that some zone meets. -/
theorem State.reserveRefusal_eq (s : State) (m : Mover) (r : ZoneRange) : s.reserveRefusal m r =
    ((lowestWhere (s.zt.zones (pathOf m)) r fun z => z.takenByOther m).map (ReplyOutcome.heldByOther, ·)).or
    (((lowestWhere (s.zt.zones (pathOf m)) r fun z => z.barrier != .opened).map (ReplyOutcome.barred, ·)).or
    (((lowestWhere (s.zt.zones (pathOf m)) r fun z => !s.needMet z.need).map (ReplyOutcome.braceState, ·)).or
    (((lowestWhere (s.zt.zones (pathOf m)) r fun z => z.need == .withdrawn && s.brc.demand).map
      (ReplyOutcome.braceDemand, ·)).or
    ((if adjacentTo r (ownNumbers (s.zt.zones (pathOf m)) m (s.zt.body.get m)) then none
      else some (ReplyOutcome.notAdjacent, r.first)).or
    ((lowestWhere (s.zt.zones (pathOf m)) r fun z => isPanel m && z.need == .engaged && s.wm.state.barsPanels).map
      (ReplyOutcome.wind, ·)))))) := by
  simp only [State.reserveRefusal, Option.orElse_eq_orElse, Option.orElse_eq_or]

theorem State.demanded_iff {z : ZoneRec} : (z.need == .withdrawn && s.brc.demand) = true
    ↔ z.need = .withdrawn ∧ s.brc.demand = true := by simp

theorem State.windy_iff {z : ZoneRec} : (isPanel m && z.need == .engaged && s.wm.state.barsPanels) = true
    ↔ isPanel m = true ∧ z.need = .engaged ∧ (s.wm.state = .limit ∨ s.wm.state = .unknown) := by
  simp [WindState.barsPanels_iff, and_assoc]

end

/-- Settles O17: no condition of R40 holds, so every zone of the range is granted. -/
theorem reserveGrantsTheRange : Obligations.ReserveGrantsTheRange := by
  intro s p r m h harmed hm zs x y rg hother hbarred hunmet hdemanded hnear hwindy
  have hgrant : (s.takeHead p).reserveRefusal m ((s.takeHead p).rangeOf m r.body) = none := by
    change s.reserveRefusal m rg = none
    rw [State.reserveRefusal_eq, lowestWhere_eq_none (fun _ => ZoneRec.takenByOther_iff) hother,
      lowestWhere_eq_none (fun _ => bne_iff_ne) hbarred, lowestWhere_eq_none (fun _ => State.needUnmet_iff) hunmet,
      lowestWhere_eq_none (fun _ => State.demanded_iff) hdemanded, if_pos (adjacentTo_iff.mpr hnear),
      lowestWhere_eq_none (fun _ => State.windy_iff) hwindy]
    rfl
  refine exec_reserve h ((settleReserve_named (s := s.takeHead p) harmed hm).trans ?_)
  simp only [State.reserveRange, hgrant]
  rfl

/-- Settles O18: the refusals of R40 in order, each where no earlier condition holds. -/
theorem reserveRefusedInOrder : Obligations.ReserveRefusedInOrder := by
  refine fun s p r h => ⟨fun hstate => exec_reserve h (if_neg hstate), fun harmed hnone => exec_reserve h ?_,
    fun m harmed hm => ?_⟩
  · have harmed' : (s.takeHead p).dsu.state = .armed := harmed
    simp only [settleReserve, if_pos harmed', moverOfNumber_none.mpr hnone]
    rfl
  · intro zs rg byOther unmet demanded near windy
    refine ⟨fun k hk => ?_, fun hother => ?_⟩
    · rw [exec_reserve_held h harmed hm (k := k) (by
        rw [State.reserveRefusal_eq, lowestWhere_eq_some (fun _ => ZoneRec.takenByOther_iff) hk]; rfl)]
      simp only [ZoneRec.enterWaiting, ZoneRec.takenByOther_iff]
      rfl
    · have hother' := lowestWhere_eq_none (fun _ => ZoneRec.takenByOther_iff) hother
      refine ⟨fun k hk => exec_reserve_refused h harmed hm ?_ nofun, fun hopen => ?_⟩
      · rw [State.reserveRefusal_eq, hother', lowestWhere_eq_some (fun _ => bne_iff_ne) hk]
        rfl
      have hopen' := lowestWhere_eq_none (fun _ => bne_iff_ne) hopen
      refine ⟨fun k hk => exec_reserve_refused h harmed hm ?_ nofun, fun hmet => ?_⟩
      · rw [State.reserveRefusal_eq, hother', hopen', lowestWhere_eq_some (fun _ => State.needUnmet_iff) hk]
        rfl
      have hmet' := lowestWhere_eq_none (fun _ => State.needUnmet_iff) hmet
      refine ⟨fun k hk => exec_reserve_refused h harmed hm ?_ nofun, fun hfree => ⟨fun hfar =>
        exec_reserve_refused h harmed hm ?_ nofun, fun hnear k hk => exec_reserve_refused h harmed hm ?_ nofun⟩⟩
      · rw [State.reserveRefusal_eq, hother', hopen', hmet', lowestWhere_eq_some (fun _ => State.demanded_iff) hk]
        rfl
      all_goals have hfree' := lowestWhere_eq_none (fun _ => State.demanded_iff) hfree
      · rw [State.reserveRefusal_eq, hother', hopen', hmet', hfree', if_neg (adjacentTo_iff.not.mpr hfar)]
        rfl
      · rw [State.reserveRefusal_eq, hother', hopen', hmet', hfree', if_pos (adjacentTo_iff.mpr hnear),
          lowestWhere_eq_some (fun _ => State.windy_iff) hk]
        rfl

/-! ## RELEASE (R47 to R50) -/

theorem MoverState.atRest_iff {st : MoverState} : st.atRest = true ↔ st = .parked ∨ st = .halted := by
  cases st <;> simp [MoverState.atRest]

theorem MoverState.moving_iff {st : MoverState} :
    st.atRest = false ↔ st = .permitted ∨ st = .stopping ∨ st = .tripped := by
  cases st <;> simp [MoverState.atRest]

theorem MoverState.hasAuthority_iff {st : MoverState} : st.hasAuthority = true ↔ st = .permitted ∨ st = .stopping := by
  cases st <;> simp [MoverState.hasAuthority]

theorem MoverState.moving_of_hasAuthority {st : MoverState} (h : st.hasAuthority = true) : st.atRest = false := by
  cases st <;> simp_all [MoverState.hasAuthority, MoverState.atRest]

@[simp] theorem State.setAuthority_authorityOf (s : State) (m : Mover) (a : Authority) :
    (s.setAuthority m a).authorityOf m = a := PerMover.get_set_self _ _ _

theorem requestRow_release {r : Request} (h : codeOfByte r.code = some .release) : requestRow r = .release := by
  simp [requestRow, h]

/-- R48, as a change of the hold, the resting set and the barrier. -/
theorem ZoneRec.releaseAtRest_eq (z : ZoneRec) (m : Mover) (body : Option Extent) : z.releaseAtRest m body =
    if z.holder = some m then
      { z with
        holder := none
        resting := if bodyOverlaps body z then addMover m z.resting else z.resting
        barrier := if z.barrier = .pending ∧ z.clearingFor = none then .closed else z.barrier }
    else z := by
  simp [ZoneRec.releaseAtRest, ZoneRec.settleBarrier_eq, and_comm]

/-- R49, as a change of the hold, the clearing and the barrier, by whether the envelope reaches the zone. -/
theorem ZoneRec.releaseMoving_eq (z : ZoneRec) (m : Mover) (e : Envelope) : z.releaseMoving m (some e) =
    if z.holder = some m then
      { z with
        holder := none
        clearingFor := if e.reaches z then some m else z.clearingFor
        barrier := if z.barrier = .pending ∧ z.clearingFor = none ∧ e.reaches z = false then .closed else z.barrier }
    else z := by
  unfold ZoneRec.releaseMoving
  cases hreaches : e.reaches z <;> simp [envelopeReachesZone, hreaches, ZoneRec.settleBarrier_eq, and_comm]

section
variable {s : State} {p : Port} {r : Request} {m : Mover} {rg : ZoneRange}

theorem exec_release (h : s.Served p r .release) {t : State} {a : Answer}
    (hs : settleRelease p r (s.takeHead p) = (t, some a)) : exec .release s = .next (t.reply p r.tag a) :=
  serve_answers h (requestRow_release h.code) hs

theorem settleRelease_named (hm : fieldAt r.body 0 = moverNumber m) :
    settleRelease p r s = s.releaseRange m (s.rangeOf m r.body) := by
  simp only [settleRelease, moverOfNumber_iff.mpr hm]

/-- R48. -/
theorem State.releaseRange_atRest (h : (s.moverState m).atRest = true) : s.releaseRange m rg =
    (s.commitZones (s.zonesMapped m rg fun z => z.releaseAtRest m (s.zt.body.get m)), some ⟨.done, rg.clamped,
      byteField (countIn (s.zt.zones (pathOf m)) rg fun z => z.holder == some m) ++ [0, 0, 0, 0, 0]⟩) := by
  simp only [State.releaseRange, if_pos h, List.append_assoc]
  rfl

/-- R47: a zone of the range under the body of a moving mover. -/
theorem State.releaseRange_occupied (h : (s.moverState m).atRest = false) {k : Nat}
    (hk : lowestWhere (s.zt.zones (pathOf m)) rg (bodyOverlaps (s.zt.body.get m)) = some k) :
    s.releaseRange m rg = (s, some ⟨.occupied, false, byteField k⟩) := by
  simp only [State.releaseRange, h, Bool.false_eq_true, if_false, hk]

/-- R49: the state after the zones of a moving mover are released, before its authority end moves. -/
def State.releasedMoving (s : State) (m : Mover) (rg : ZoneRange) : State :=
  s.commitZones (s.zonesMapped m rg fun z => z.releaseMoving m (s.envelopeOf m))

/-- R49: how many zones a moving mover's release takes the hold off, and how many of them turn Clearing. -/
def State.releaseCounts (s : State) (m : Mover) (rg : ZoneRange) : List Byte :=
  byteField (countIn (s.zt.zones (pathOf m)) rg fun z => z.holder == some m)
    ++ byteField (countIn (s.zt.zones (pathOf m)) rg fun z =>
      z.holder == some m && envelopeReachesZone (s.envelopeOf m) z)

/-- R50: a Tripped mover's authority end is left alone. -/
theorem State.releaseRange_tripped (h : s.moverState m = .tripped)
    (hfree : lowestWhere (s.zt.zones (pathOf m)) rg (bodyOverlaps (s.zt.body.get m)) = none) : s.releaseRange m rg =
    (s.releasedMoving m rg, some ⟨.done, rg.clamped, s.releaseCounts m rg ++ [0, 0, 0, 0]⟩) := by
  simp only [State.releaseRange, h, MoverState.atRest, MoverState.hasAuthority, Bool.false_eq_true, if_false, hfree]
  rfl

/-- R50: the authority end of a Permitted or Stopping mover is shortened. -/
theorem State.releaseRange_authority (h : (s.moverState m).hasAuthority = true)
    (hfree : lowestWhere (s.zt.zones (pathOf m)) rg (bodyOverlaps (s.zt.body.get m)) = none) : s.releaseRange m rg =
    ((s.releasedMoving m rg).shortenAuthority m, some ⟨.done, rg.clamped, s.releaseCounts m rg
      ++ optField 4 (((s.releasedMoving m rg).shortenAuthority m).authorityOf m).authorityEnd⟩) := by
  simp only [State.releaseRange, MoverState.moving_of_hasAuthority h, h, Bool.false_eq_true, if_false, if_true, hfree]
  rfl

/-- R50: the shortened end, where the mover has a direction, an end and a lead. -/
theorem State.shortenAuthority_eq {d : Direction} {e l : Int} (hd : (s.authorityOf m).direction = some d)
    (he : (s.authorityOf m).authorityEnd = some e) (hl : (s.pos.movers.get m).lead = some l) : s.shortenAuthority m =
    s.setAuthority m { s.authorityOf m with authorityEnd := some (lessAdvancedOf d (moreAdvancedOf d
      (runBoundary d l (heldRun (s.zt.zones (pathOf m)) m d l) - d.sign * (s.params m).bodyMargin)
      (stoppingPoint (s.params m) d l (s.pos.movers.get m).speed)) e) } := by
  simp only [State.shortenAuthority, hd, he, hl]

end

/-- Settles O19: a mover at rest by R48; a moving one refused by R47, or its zones released by R49 and its authority end
set by R50. -/
theorem releaseGivesUpHeldZones : Obligations.ReleaseGivesUpHeldZones := by
  refine ⟨fun s p r h hnone => exec_release h ?_, fun s p r m h hm hrest => ?_, fun s p r m h hm hmoving => ?_⟩
  · simp only [settleRelease, moverOfNumber_none.mpr hnone]
    rfl
  · intro rg
    refine exec_release h ((settleRelease_named hm).trans ((State.releaseRange_atRest (s := s.takeHead p)
      (MoverState.atRest_iff.mpr hrest)).trans ?_))
    simp only [ZoneRec.releaseAtRest_eq]
    rfl
  · intro zs rg
    refine ⟨fun k hk => ?_, fun b l hb hl hclear => ?_⟩
    · exact exec_release h ((settleRelease_named hm).trans (State.releaseRange_occupied (s := s.takeHead p)
        (MoverState.moving_iff.mpr hmoving) (lowestWhere_some hk)))
    · intro d a v stop reached u counts
      have hbody : (s.takeHead p).zt.body.get m = some b := hb
      have hlead : ((s.takeHead p).pos.movers.get m).lead = some l := hl
      have henvelope : (s.takeHead p).envelopeOf m = some ⟨b, d, stop, a.bodyMargin⟩ := by
        simp only [State.envelopeOf, State.envelopeFrom, hbody, hlead]
        rfl
      have hfree : lowestWhere ((s.takeHead p).zt.zones (pathOf m)) rg
          (bodyOverlaps ((s.takeHead p).zt.body.get m)) = none := by
        rw [hbody]
        exact lowestWhere_none.mpr hclear
      have hreleased : (s.takeHead p).releasedMoving m rg = u := by
        simp only [State.releasedMoving, henvelope, ZoneRec.releaseMoving_eq]
        rfl
      have hcounts : (s.takeHead p).releaseCounts m rg = counts := by
        simp only [State.releaseCounts, henvelope]
        rfl
      refine ⟨fun htripped => ?_, fun e htripped hdir hend => ?_⟩
      · refine exec_release h ((settleRelease_named hm).trans ((State.releaseRange_tripped (s := s.takeHead p)
          htripped hfree).trans ?_))
        rw [hreleased, hcounts]
      · intro bound e'
        have hrecord : u.authorityOf m = s.authorityOf m := by simp [u, State.authorityOf]
        have hpos : u.pos = s.pos := by simp [u]
        have hparams : u.params m = a := by simp [u, a, State.params]
        have hshortened : u.shortenAuthority m = u.setAuthority m { s.authorityOf m with authorityEnd := some e' } := by
          rw [State.shortenAuthority_eq (hrecord ▸ hdir) (hrecord ▸ hend) (hpos ▸ hl), hrecord, hpos, hparams]
          rfl
        have hauthority : ((s.takeHead p).moverState m).hasAuthority = true :=
          MoverState.hasAuthority_iff.mpr (hmoving.imp_right (·.resolve_right htripped))
        refine exec_release h ((settleRelease_named hm).trans ((State.releaseRange_authority (s := s.takeHead p)
          hauthority hfree).trans ?_))
        rw [hreleased, hcounts, hshortened, State.setAuthority_authorityOf]
        rfl

/-! ## BARRIER (R54, R55) -/

section
variable {s : State} {p : Port} {r : Request}

/-- R54: the row of a BARRIER is its action's: 0 opens, and every other body belongs to the close. -/
theorem requestRow_barrier (h : s.Served p r .barrier) :
    requestRow r = if fieldAt r.body 3 = 0 then .barrierOpen else .barrierClose := by
  obtain ⟨⟨_, _, hcode, hlength⟩, _⟩ := h
  have hfour : r.body.length = 4 := by simpa [bodyLengthOk] using hlength
  simp [requestRow, hcode, hfour]

theorem exec_barrier (h : s.Served p r .barrier) {t : State} {a : Answer}
    (hs : settleBarrierRequest p r (s.takeHead p) = (t, some a)) :
    exec (requestRow r) s = .next (t.reply p r.tag a) := by
  have hrow := requestRow_barrier h
  by_cases hopen : fieldAt r.body 3 = 0
  · rw [if_pos hopen] at hrow
    rw [hrow]
    exact serve_answers h hrow hs
  · rw [if_neg hopen] at hrow
    rw [hrow]
    exact serve_answers h hrow hs

/-- R54: a field names a path by 1 or 2. -/
theorem pathOfNumber_path (q : Path) : pathOfNumber (if q = .runway then 1 else 2) = some q := by cases q <;> rfl

theorem pathOfNumber_eq_none {n : Nat} (h : n ≠ 1 ∧ n ≠ 2) : pathOfNumber n = none := by
  unfold pathOfNumber
  split <;> simp_all

theorem barrierAction_eq_none {n : Nat} (h : 1 < n) : barrierAction n = none := by
  unfold barrierAction
  split <;> simp_all

/-- R54: a BARRIER in Armed that names a path and an action. -/
theorem settleBarrierRequest_named (harmed : s.dsu.state = .armed) {q : Path} {f : ZoneRec → ZoneRec}
    (hpath : pathOfNumber (fieldAt r.body 0) = some q) (haction : barrierAction (fieldAt r.body 3) = some f) :
    settleBarrierRequest p r s
      = s.barRange q (settleRange (s.zt.zones q).length (fieldAt r.body 1) (fieldAt r.body 2)) f := by
  simp only [settleBarrierRequest, if_pos harmed, hpath, haction]

theorem settleBarrierRequest_unnamed (harmed : s.dsu.state = .armed)
    (hnone : pathOfNumber (fieldAt r.body 0) = none ∨ barrierAction (fieldAt r.body 3) = none) :
    settleBarrierRequest p r s = (s, some (refuse .badRequest)) := by
  rw [settleBarrierRequest, if_pos harmed]
  split
  · next hpath haction => rcases hnone with hnone | hnone <;> simp_all
  · rfl

/-- R55, the Close column, as a change of the barrier. -/
theorem ZoneRec.close_eq (z : ZoneRec) : z.close = if z.barrier = .opened then
    { z with barrier := if z.holder = none ∧ z.clearingFor = none then .closed else .pending } else z := by
  unfold ZoneRec.close
  cases z.holder <;> cases z.clearingFor <;> simp

/-- No zone of a range changed by a function meets a test that no zone changed by it meets. -/
theorem countIn_mapRange_eq_zero {zs : List ZoneRec} {rg : ZoneRange} {f : ZoneRec → ZoneRec} {test : ZoneRec → Bool}
    (h : ∀ z, test (f z) = false) : countIn (mapRange zs rg f) rg test = 0 := by
  simp only [countIn, zonesIn, List.length_eq_zero_iff, List.filter_eq_nil_iff, List.mem_filter, Prod.forall,
    List.mem_zipIdx_iff_getElem?, and_imp]
  intro z k hz hk
  simp only [mapRange, List.getElem?_map, List.getElem?_zipIdx, Option.map_map, Option.map_eq_some_iff,
    Function.comp_apply, Nat.zero_add] at hz
  obtain ⟨y, _, rfl⟩ := hz
  simp [hk, h]

end

/-- Settles O20: the refusals of R54, then each column of R55 over the range. -/
theorem barrierClosesAndOpens : Obligations.BarrierClosesAndOpens := by
  refine fun s p r h => ⟨fun hstate => exec_barrier h (if_neg hstate), fun harmed hbad => exec_barrier h
    (settleBarrierRequest_unnamed harmed (hbad.imp pathOfNumber_eq_none barrierAction_eq_none)), fun q harmed hq => ?_⟩
  have hpath : pathOfNumber (fieldAt r.body 0) = some q := by rw [hq, pathOfNumber_path]
  have hrow := requestRow_barrier h
  intro zs x y rg
  refine ⟨fun hclose => ?_, fun hopen => ?_⟩
  · intro zs'
    rw [if_neg (by omega)] at hrow
    rw [← hrow]
    refine exec_barrier h ((settleBarrierRequest_named (s := s.takeHead p) harmed hpath
      (by rw [hclose]; rfl)).trans ?_)
    have hf : ZoneRec.close = fun z : ZoneRec => if z.barrier = .opened then
      { z with barrier := if z.holder = none ∧ z.clearingFor = none then .closed else .pending } else z :=
      funext ZoneRec.close_eq
    rw [hf]
    rfl
  · rw [if_pos hopen] at hrow
    rw [← hrow]
    refine exec_barrier h ((settleBarrierRequest_named (s := s.takeHead p) harmed hpath
      (by rw [hopen]; rfl)).trans ?_)
    unfold State.barRange
    dsimp only
    rw [countIn_mapRange_eq_zero fun _ => rfl, countIn_mapRange_eq_zero fun _ => rfl]
    rfl

end Sys2Proof.Machine
end

section
/-! SUPPORT. The Zone Table (chapter 3): position updates as ZT takes them, and brace switch losses. It settles O21. -/

namespace Sys2Proof.Machine

/-! ## One zone at a position update (R37, R44, R51) -/

/-- R37, as a change of the resting set. -/
theorem restUpdate_eq (m : Mover) (body : Option Extent) (z : ZoneRec) : restUpdate m body z = { z with
    resting := if bodyOverlaps body z = true ∧ z.holder ≠ some m then addMover m z.resting
      else z.resting.filter fun x => x != m } := by
  simp only [restUpdate, ZoneRec.setResting, dropMover, Bool.and_eq_true, bne_iff_ne]

/-- R44: whether the body, held to be over a zone before, has left it behind. -/
def leftBehind (d : Direction) (before after : Option Extent) (z : ZoneRec) : Bool :=
  match after with
  | some b => bodyOverlaps before z && !b.overlaps z && zoneBehind d b z
  | none => false

theorem releasedBehind_iff {m : Mover} {d : Direction} {before after : Option Extent} {z : ZoneRec} :
    releasedBehind m d before after z = true ↔ z.holder = some m ∧ leftBehind d before after z = true := by
  cases after <;> simp [releasedBehind, leftBehind, and_assoc]

/-- R44, R51, as a change of the record. -/
theorem movingUpdate_eq (m : Mover) (d : Direction) (before after : Option Extent) (e : Option Envelope) (z : ZoneRec) :
    movingUpdate m d before after e z =
      let z' := { z with resting := z.resting.filter fun x => x != m }
      if z.holder = some m ∧ leftBehind d before after z = true then
        { z' with holder := none
                  barrier := if z.barrier = .pending ∧ z.clearingFor = none then .closed else z.barrier }
      else if z.clearingFor = some m ∧ (bodyOverlaps after z || envelopeTouches e z) = false then
        { z' with clearingFor := none
                  barrier := if z.barrier = .pending ∧ z.holder = none then .closed else z.barrier }
      else z' := by
  simp only [movingUpdate, releasedBehind_iff]
  split
  · simp [ZoneRec.settleBarrier_eq, ZoneRec.setResting, dropMover, and_comm]
  · cases hstays : bodyOverlaps after z || envelopeTouches e z with
    | true => simp [ZoneRec.setResting, dropMover]
    | false =>
      by_cases hm : z.clearingFor = some m <;>
        simp [ZoneRec.endClearing_eq, ZoneRec.setResting, dropMover, hm]

/-! ## Updates and losses taken (log 1) -/

theorem Taken.meets {α : Type} {test : α → Bool} {n : Nat} {xs rest : List α} {x : α} (h : Taken test n xs x rest) :
    test x = true := by
  obtain ⟨_, _, _, hx, _⟩ := h
  exact hx

section
variable {s : State} {m : Mover} {u : PositionUpdate} {rest : List PositionUpdate}

/-- ZT takes the oldest update of its mover. -/
theorem exec_positionUpdateZT (hr : s.slu.heldInReset = false)
    (h : Taken (fun x : PositionUpdate => x.mover == m) 0 s.hand.toZt u rest) :
    exec (.positionUpdateZT m) s = .next ((s.withHand { s.hand with toZt := rest }).updateZones u) := by
  have hexec : exec (.positionUpdateZT m) s = s.whileRunning fun s => s.takeUpdateZt m := rfl
  simp only [hexec, State.whileRunning, hr, Bool.false_eq_true, if_false, State.takeUpdateZt, takeNth_of_taken h]

theorem State.updateZones_atRest (h : (s.moverState u.mover).atRest = true) : s.updateZones u =
    s.commitZones ({ s.zt with body := s.zt.body.set u.mover u.body }.setZones (pathOf u.mover)
      ((s.zt.zones (pathOf u.mover)).map (restUpdate u.mover u.body))) := by
  simp only [State.updateZones, if_pos h]
  rfl

theorem State.updateZones_moving (h : (s.moverState u.mover).atRest = false) : s.updateZones u =
    s.commitZones ({ s.zt with body := s.zt.body.set u.mover u.body }.setZones (pathOf u.mover)
      ((s.zt.zones (pathOf u.mover)).map (movingUpdate u.mover (s.directionOf u.mover) (s.zt.body.get u.mover) u.body
        (s.envelopeFrom u.mover u.body u.lead u.speed)))) := by
  simp only [State.updateZones, h, Bool.false_eq_true, if_false]
  rfl

/-- ZT takes the oldest switch loss. -/
theorem exec_braceSwitchLoss (hr : s.slu.heldInReset = false) {b : Brace} {losses : List Brace}
    (h : s.hand.switchLosses = b :: losses) :
    exec .braceSwitchLoss s = .next (s.withHand { s.hand with switchLosses := losses }).loseHolds := by
  have hexec : exec .braceSwitchLoss s = s.whileRunning fun s => s.takeSwitchLoss := rfl
  simp only [hexec, State.whileRunning, hr, Bool.false_eq_true, if_false, State.takeSwitchLoss, h, takeOldest]

/-- R57: a hold of a zone with a brace need, lost by a mover at rest or a moving one. -/
theorem State.loseHold_held {z : ZoneRec} (hholder : z.holder = some m) (hneed : z.need ≠ .nothing) :
    let under := bodyOverlaps (s.zt.body.get m) z
    let moving := s.moverState m = .permitted ∨ s.moverState m = .stopping ∨ s.moverState m = .tripped
    let clears := under || envelopeTouches (s.envelopeOf m) z
    s.loseHold z = { z with
      holder := none
      clearingFor := if moving ∧ clears = true then some m else z.clearingFor
      resting := if ¬ moving ∧ under = true then addMover m z.resting else z.resting
      barrier := if z.barrier = .pending ∧ z.clearingFor = none ∧ ¬ (moving ∧ clears = true) then .closed
        else z.barrier } := by
  intro under moving clears
  have hmoving : (s.moverState m).atRest = false ↔ moving := MoverState.moving_iff
  have hlost : s.loseHold z = if (s.moverState m).atRest then
        { z with holder := none, resting := if under then addMover m z.resting else z.resting }.settleBarrier
      else { z with holder := none, clearingFor := if clears then some m else z.clearingFor }.settleBarrier := by
    simp only [State.loseHold, hholder, if_neg hneed]
    rfl
  clear_value under clears
  simp only [hlost, ← hmoving]
  cases (s.moverState m).atRest with
  | true => simp [ZoneRec.settleBarrier_eq, and_comm]
  | false => cases clears <;> simp [ZoneRec.settleBarrier_eq, and_comm]

/-- R57: a zone without a hold or without a brace need stays as it is. -/
theorem State.loseHold_kept {z : ZoneRec} (h : z.holder = none ∨ z.need = .nothing) : s.loseHold z = z := by
  unfold State.loseHold
  split
  · next hholder => exact if_pos (h.resolve_left (by simp [hholder]))
  · rfl

end

/-- Settles O21: one zone at an update by the mover's state, and at a loss, over the path or the table. -/
theorem zonesFollowBodiesAndBraces : Obligations.ZonesFollowBodiesAndBraces := by
  refine ⟨fun s m u rest hr htaken => ?update, fun s b losses hr hlosses => ?loss⟩
  case update =>
    obtain rfl : u.mover = m := beq_iff_eq.mp htaken.meets
    intro s0 t0 q
    refine ⟨fun hrest => ?_, fun hmoving => ?_⟩
    · have hupdated := State.updateZones_atRest (s := s0) (u := u) (MoverState.atRest_iff.mpr hrest)
      rw [funext (restUpdate_eq _ _)] at hupdated
      exact (exec_positionUpdateZT hr htaken).trans (congrArg _ hupdated)
    · intro d a stop left stays
      have hupdated := State.updateZones_moving (s := s0) (u := u) (MoverState.moving_iff.mpr hmoving)
      have hstays : ∀ z, (bodyOverlaps u.body z
          || envelopeTouches (s0.envelopeFrom u.mover u.body u.lead u.speed) z) = stays z := by
        intro z
        simp only [stays]
        cases u.body with
        | none => rfl
        | some b =>
          cases u.lead with
          | none => exact Bool.or_false _
          | some l => exact Bool.or_self_left _ _
      simp only [funext (movingUpdate_eq _ _ _ _ _), hstays] at hupdated
      exact (exec_positionUpdateZT hr htaken).trans (congrArg _ hupdated)
  case loss =>
    intro lose
    have hlose : ∀ z, (s.withHand { s.hand with switchLosses := losses }).loseHold z = lose z := by
      intro z
      simp only [lose]
      split
      · next hholder => exact State.loseHold_kept (.inl hholder)
      · next hneed _ => exact State.loseHold_kept (.inr hneed)
      · next hholder hneed => exact State.loseHold_held hholder hneed
    rw [exec_braceSwitchLoss hr hlosses, State.loseHolds, funext hlose]
    rfl

end Sys2Proof.Machine
end

section
/-! SUPPORT. The Mover State Unit (chapter 6): causes taken over their scope, what each class of cause does to one mover, and
the trips on a change of the device state. It settles O34, O35, O36 and O37. -/

namespace Sys2Proof.Machine

/-! ## A cause over its scope (R94, R95, R98) -/

/-- R98: the halting controlled cause is LINK SILENCE alone. -/
theorem isHalting_of_controlled {c : Cause} (h : causeClass c = some .controlled) : isHalting c = (c == .linkSilence) := by
  simp [isHalting, h]

theorem isPanel_eq (m : Mover) : isPanel m = (m != .tray) := by cases m <;> rfl

section
variable {s : State} {n : Nat} {c : CauseMessage} {rest : List CauseMessage} {cl : CauseClass}

/-- MSU takes the cause of its class that the command names. -/
theorem State.takeCauseOf_taken (h : Taken (fun x : CauseMessage => causeClass x.cause == some cl) n s.hand.causes c rest) :
    s.takeCauseOf cl n = (s.withHand { s.hand with causes := rest }).takeCause c := by
  simp only [State.takeCauseOf, takeNth_of_taken h]

theorem exec_immediateCauseTaken (hr : s.slu.heldInReset = false) (n : Nat) :
    exec (.immediateCauseTaken n) s = .next (s.takeCauseOf .immediate n) := by
  simp [exec, execImmediateCauseTaken, State.whileRunning, hr]

theorem exec_controlledCauseTaken (hr : s.slu.heldInReset = false) (n : Nat) :
    exec (.controlledCauseTaken n) s = .next (s.takeCauseOf .controlled n) := by
  simp [exec, execControlledCauseTaken, State.whileRunning, hr]

theorem exec_holdCauseTaken (hr : s.slu.heldInReset = false) (n : Nat) :
    exec (.holdCauseTaken n) s = .next (s.takeCauseOf .hold n) := by
  simp [exec, execHoldCauseTaken, State.whileRunning, hr]

theorem State.takeCause_immediate (s : State) (h : causeClass c.cause = some .immediate) : s.takeCause c =
    (c.scope.movers.foldl (fun t m => t.applyImmediate c.cause m) s).handFault (s.faultOfCause c) := by
  simp only [State.takeCause, State.applyCause, h]

theorem State.takeCause_controlled (s : State) (h : causeClass c.cause = some .controlled) : s.takeCause c =
    (c.scope.movers.foldl (fun t m => t.applyControlled c.cause m) s).handFault (s.faultOfCause c) := by
  simp only [State.takeCause, State.applyCause, h]

/-- R98: a Hold cause changes no mover. -/
theorem State.takeCause_hold (s : State) (h : causeClass c.cause = some .hold) :
    s.takeCause c = s.handFault (s.faultOfCause c) := by
  simp only [State.takeCause, State.applyCause, h, List.foldl_fixed]

end

/-- Settles O34: the cause taken is of the command's class, which says how it is applied over its scope. -/
theorem causesReachTheirScope : Obligations.CausesReachTheirScope := by
  intro s n c rest hr s0 scope fault
  have hscope : c.scope.movers = scope := by
    simp only [scope]
    cases c.scope with
    | panels => exact List.filter_congr fun m _ => isPanel_eq m
    | _ => rfl
  have hfault : s0.faultOfCause c = fault := by
    simp only [fault, State.faultOfCause]
    cases c.scope <;> rfl
  refine ⟨fun h => ?_, fun h => ?_, fun h => ?_⟩
  · rw [exec_immediateCauseTaken hr, State.takeCauseOf_taken h, State.takeCause_immediate _ (beq_iff_eq.mp h.meets),
      ← hscope, ← hfault]
    rfl
  · rw [exec_controlledCauseTaken hr, State.takeCauseOf_taken h, State.takeCause_controlled _ (beq_iff_eq.mp h.meets),
      ← hscope, ← hfault]
    rfl
  · rw [exec_holdCauseTaken hr, State.takeCauseOf_taken h, State.takeCause_hold _ (beq_iff_eq.mp h.meets), ← hfault]
    rfl

/-! ## An Immediate cause on one mover (R99) -/

theorem addCause_eq (c : Cause) (cs : List Cause) : addCause c cs = if c ∈ cs then cs else cs ++ [c] := by
  simp only [addCause, List.contains_iff_mem]

/-- MSU's record of a mover that trips (R99, R102, R103). -/
def State.trippedRecord (s : State) (m : Mover) (c : Cause) (halts : List Cause) : MoverRec :=
  { s.msu.get m with
    state := .tripped, stopCause := some c, stopEnd := none, haltCauses := halts
    tripTimer := .running (1000 * (s.params m).tripStopTime), relayClosed := false
    readbackTimer := (s.msu.get m).readbackTimer || (s.msu.get m).relayClosed }

/-- All that a trip changes: the mover's record, its authority and ceilings, and what is handed on (R99, R60, R109). -/
theorem State.tripMover_fields (s : State) (m : Mover) (c : Cause) (halts : List Cause) :
    s.tripMover m c halts = { s with
      msu := s.msu.set m (s.trippedRecord m c halts)
      asu := { s.asu with
        authority := s.asu.authority.set m (s.authorityOf m).cleared, ceilings := clearCeilings s.asu.ceilings m }
      hand := { s.hand with
        moverChanges := s.hand.moverChanges ++ [⟨m, .tripped⟩]
        postings := s.hand.postings ++ [⟨.msu, [ownerOf m, .venue], ⟨.moverStopped, 6, .mover m, causeNumber c⟩⟩] } } := by
  rw [State.tripMover_eq]
  rfl

section
variable {s : State} {m : Mover} {st : MoverState}

theorem State.applyImmediate_authority (h : s.moverState m = .permitted ∨ s.moverState m = .stopping) (c : Cause) :
    s.applyImmediate c m = s.tripMover m c (addCause c (s.msu.get m).haltCauses) := by
  rcases h with h | h <;> simp only [State.applyImmediate, h]

theorem State.applyImmediate_parked (h : s.moverState m = .parked) (c : Cause) :
    s.applyImmediate c m = s.haltParked m c := by
  simp only [State.applyImmediate, h]

theorem State.applyImmediate_stopped (h : s.moverState m = .tripped ∨ s.moverState m = .halted) (c : Cause) :
    s.applyImmediate c m = s.joinHaltCauses m c := by
  rcases h with h | h <;> simp only [State.applyImmediate, h]

end

/-- Settles O35: R99, one arm for each mover state. -/
theorem immediateCauseActs : Obligations.ImmediateCauseActs := by
  intro s c m k halts
  have hhalts : addCause c k.haltCauses = halts := addCause_eq _ _
  refine ⟨fun h => ⟨_, rfl, ?_⟩, fun h => ?_, fun h => ?_⟩
  · rw [State.applyImmediate_authority h, State.tripMover_fields, hhalts]
    exact ⟨rfl, rfl, rfl, rfl, fun a => clearCeilings_get _ _ _, rfl⟩
  · rw [State.applyImmediate_parked h, ← hhalts]
    rfl
  · rw [State.applyImmediate_stopped h, ← hhalts]
    rfl

/-! ## A controlled cause on one mover (R96, R98) -/

/-- The less advanced of two positions, along the direction of travel (00_scope.md). -/
theorem lessAdvancedOf_eq (d : Direction) (x y : Int) :
    lessAdvancedOf d x y = if y * d.sign < x * d.sign then y else x := by
  simp only [lessAdvancedOf, moreAdvanced, decide_eq_true_eq, Int.mul_comm d.sign]

section
variable {s : State} {m : Mover} {c : Cause}

/-- R96: the end drawn back to the stop target, where the mover has a direction, an end and a lead. -/
theorem State.drawBack_eq {d : Direction} {e l : Int} (hd : (s.authorityOf m).direction = some d)
    (he : (s.authorityOf m).authorityEnd = some e) (hl : (s.pos.movers.get m).lead = some l) :
    let target := stopTargetOf (s.params m) d l (s.pos.movers.get m).speed e
    s.drawBack m = s.setAuthority m { s.authorityOf m with authorityEnd := some target, stopTarget := some target } := by
  simp only [State.drawBack, hd, he, hl]

/-- R96: the start of a controlled stop, where the mover has a direction, an end and a lead. -/
theorem State.startStop_eq {d : Direction} {e l : Int} (hd : (s.authorityOf m).direction = some d)
    (he : (s.authorityOf m).authorityEnd = some e) (hl : (s.pos.movers.get m).lead = some l) :
    let target := stopTargetOf (s.params m) d l (s.pos.movers.get m).speed e
    s.startStop c m = ((((s.setMover m { s.msu.get m with
      state := .stopping, stopCause := some c, stopEnd := some (endOfCause c)
      haltCauses := if isHalting c then addCause c (s.msu.get m).haltCauses else (s.msu.get m).haltCauses }).setAuthority
        m { s.authorityOf m with authorityEnd := some target, stopTarget := some target }).computeCeilingsNow m
          false).handMoverChange m .stopping).postStopped m (if isHalting c then 5 else 2) c := by
  rw [State.startStop, State.drawBack_eq (s := s.setMover m _) hd he hl]
  rfl

theorem State.applyControlled_permitted (h : s.moverState m = .permitted) : s.applyControlled c m = s.startStop c m := by
  simp only [State.applyControlled, h]

theorem State.applyControlled_stopping (h : s.moverState m = .stopping) : s.applyControlled c m = s.hardenStop c m := by
  simp only [State.applyControlled, h]

theorem State.applyControlled_other (h : s.moverState m = .parked ∨ s.moverState m = .tripped ∨ s.moverState m = .halted) :
    s.applyControlled c m = s := by
  rcases h with h | h | h <;> simp only [State.applyControlled, h]

/-- R98: a cause that does not halt leaves a stop under way as it is. -/
theorem State.hardenStop_of_not_halting (h : isHalting c = false) : s.hardenStop c m = s := by
  simp [State.hardenStop, h]

/-- R98: a stop that already ends Halted takes a halting cause among its halt causes. -/
theorem State.hardenStop_halted (h : isHalting c = true) (he : (s.msu.get m).stopEnd = some .halted) :
    s.hardenStop c m = s.setMover m { s.msu.get m with haltCauses := addCause c (s.msu.get m).haltCauses } := by
  simp only [State.hardenStop, h, he, if_true]

/-- R98: a stop that would end Parked is turned into one that ends Halted. -/
theorem State.hardenStop_parked (h : isHalting c = true) (he : (s.msu.get m).stopEnd = some .parked) :
    s.hardenStop c m = (s.setMover m { s.msu.get m with
      stopEnd := some .halted, stopCause := some c, haltCauses := addCause c (s.msu.get m).haltCauses }).postStopped m
        5 c := by
  simp [State.hardenStop, h, he]

end

/-- Settles O36: the start of a stop with its target, then R98's cases of a stop under way. -/
theorem controlledCauseActs : Obligations.ControlledCauseActs := by
  intro s c m hc k halts g
  have hhalts : addCause c k.haltCauses = halts := addCause_eq _ _
  have hhalting : isHalting c = true ↔ c = .linkSilence := by rw [isHalting_of_controlled hc, beq_iff_eq]
  refine ⟨fun d e l h hd he hl => ?_, fun h hother => ?_, fun h hlink he => ?_, fun h hlink he => ?_,
    State.applyControlled_other⟩
  · intro v stop target
    have htarget : stopTargetOf g d l v e = target := lessAdvancedOf_eq _ _ _
    rw [State.applyControlled_permitted h, State.startStop_eq hd he hl, ← htarget, ← hhalts]
    simp only [endOfCause, hhalting]
    rfl
  · rw [State.applyControlled_stopping h, State.hardenStop_of_not_halting (by simpa using hhalting.not.mpr hother)]
  · rw [State.applyControlled_stopping h, State.hardenStop_halted (hhalting.mpr hlink) he, ← hhalts]
  · rw [State.applyControlled_stopping h, State.hardenStop_parked (hhalting.mpr hlink) he, ← hhalts]
    rfl

/-! ## The trips on a change of the device state (R102) -/

theorem DeviceState.carriesAuthority_iff {d : DeviceState} : d.carriesAuthority = true ↔ d = .armed ∨ d = .disarming := by
  cases d <;> simp [DeviceState.carriesAuthority]

theorem MoverState.hasAuthority_eq (st : MoverState) : st.hasAuthority = (st == .permitted || st == .stopping) := by
  cases st <;> rfl

/-- R102 for one mover that has authority: the stop cause is DEVICE, the halt causes stay. -/
def State.tripByDevice (s : State) (m : Mover) : State := s.tripMover m .device (s.msu.get m).haltCauses

theorem State.tripOnDevice_eq (s : State) (m : Mover) :
    s.tripOnDevice m = if (s.moverState m).hasAuthority then s.tripByDevice m else s := rfl

section
variable (s : State) (m : Mover)

theorem State.tripByDevice_msu :
    (s.tripByDevice m).msu = s.msu.set m (s.trippedRecord m .device (s.msu.get m).haltCauses) := by
  rw [State.tripByDevice, State.tripMover_fields]

theorem State.tripByDevice_authority :
    (s.tripByDevice m).asu.authority = s.asu.authority.set m (s.authorityOf m).cleared := by
  rw [State.tripByDevice, State.tripMover_fields]

theorem State.tripByDevice_ceilings : (s.tripByDevice m).asu.ceilings = clearCeilings s.asu.ceilings m := by
  rw [State.tripByDevice, State.tripMover_fields]

theorem State.tripByDevice_skew : (s.tripByDevice m).asu.skew = s.asu.skew := by
  rw [State.tripByDevice, State.tripMover_fields]

theorem State.tripByDevice_hand : (s.tripByDevice m).hand = { s.hand with
    moverChanges := s.hand.moverChanges ++ [⟨m, .tripped⟩]
    postings := s.hand.postings ++ [⟨.msu, [ownerOf m, .venue], ⟨.moverStopped, 6, .mover m, 17⟩⟩] } := by
  rw [State.tripByDevice, State.tripMover_fields]
  rfl

variable {m}

/-- A trip leaves the other movers' records alone. -/
theorem State.tripByDevice_other {o : Mover} (h : o ≠ m) : (s.tripByDevice m).msu.get o = s.msu.get o
    ∧ (s.tripByDevice m).authorityOf o = s.authorityOf o := by
  rw [State.authorityOf, State.tripByDevice_msu, State.tripByDevice_authority]
  exact ⟨PerMover.get_set_of_ne _ _ _ _ h, PerMover.get_set_of_ne _ _ _ _ h⟩

end

/-- The movers that trip are those with authority before the first of them does, since a trip changes no other mover's
state. -/
theorem foldl_tripOnDevice (l : List Mover) (hl : l.Nodup) (s : State) : l.foldl State.tripOnDevice s
    = (l.filter fun m => (s.moverState m).hasAuthority).foldl State.tripByDevice s := by
  induction l generalizing s with
  | nil => rfl
  | cons x xs ih =>
    obtain ⟨hx, hxs⟩ := List.nodup_cons.mp hl
    rw [List.foldl_cons, ih hxs, State.tripOnDevice_eq]
    by_cases hauth : (s.moverState x).hasAuthority = true
    · have hkept : ∀ m ∈ xs, ((s.tripByDevice x).moverState m).hasAuthority = (s.moverState m).hasAuthority := by
        intro m hm
        rw [State.moverState, (s.tripByDevice_other (ne_of_mem_of_not_mem hm hx)).1]
        rfl
      simp [hauth, List.filter_congr hkept]
    · simp [hauth]

/-! What the trips of several movers leave, field by field. -/

theorem foldl_tripByDevice_msu (l : List Mover) (hl : l.Nodup) (s : State) (m : Mover) :
    (l.foldl State.tripByDevice s).msu.get m
      = if m ∈ l then s.trippedRecord m .device (s.msu.get m).haltCauses else s.msu.get m := by
  refine foldl_each (·.msu) State.tripByDevice (fun s m => s.trippedRecord m .device (s.msu.get m).haltCauses)
    State.tripByDevice_msu (fun s m o h => ?_) l hl s m
  have hcs : (s.tripByDevice m).cs = s.cs := by simp [State.tripByDevice]
  simp only [State.trippedRecord, State.params, (s.tripByDevice_other h).1, hcs]

theorem foldl_tripByDevice_authority (l : List Mover) (hl : l.Nodup) (s : State) (m : Mover) :
    (l.foldl State.tripByDevice s).authorityOf m = if m ∈ l then (s.authorityOf m).cleared else s.authorityOf m :=
  foldl_each (·.asu.authority) State.tripByDevice (fun s m => (s.authorityOf m).cleared)
    State.tripByDevice_authority (fun s _ _ h => congrArg Authority.cleared (s.tripByDevice_other h).2) l hl s m

theorem foldl_tripByDevice_ceilings (l : List Mover) (s : State) (a : Axis) :
    (l.foldl State.tripByDevice s).asu.ceilings.get a
      = if moverOfAxis a ∈ l then .initial else s.asu.ceilings.get a := by
  induction l generalizing s with
  | nil => rfl
  | cons x xs ih =>
    rw [List.foldl_cons, ih, State.tripByDevice_ceilings, clearCeilings_get]
    by_cases hxs : moverOfAxis a ∈ xs <;> simp [hxs]

theorem foldl_tripByDevice_hand (l : List Mover) (s : State) : (l.foldl State.tripByDevice s).hand = { s.hand with
    moverChanges := s.hand.moverChanges ++ l.map fun m => ⟨m, .tripped⟩
    postings := s.hand.postings ++ l.map fun m => ⟨.msu, [ownerOf m, .venue], ⟨.moverStopped, 6, .mover m, 17⟩⟩ } := by
  induction l generalizing s with
  | nil => simp
  | cons x xs ih => simp [ih, State.tripByDevice_hand]

/-- The trips touch MSU, ASU and the hand-overs alone. -/
theorem foldl_tripByDevice_frame (l : List Mover) (s : State) : l.foldl State.tripByDevice s = { s with
    msu := (l.foldl State.tripByDevice s).msu
    asu := (l.foldl State.tripByDevice s).asu
    hand := (l.foldl State.tripByDevice s).hand } := by
  induction l generalizing s with
  | nil => rfl
  | cons x xs ih =>
    rw [List.foldl_cons, ih, State.tripByDevice, State.tripMover_fields]

/-- MSU takes the oldest change of the device state. -/
theorem exec_deviceStateChangeMSU {s : State} {c : DeviceChange} {rest : List DeviceChange}
    (hr : s.slu.heldInReset = false) (h : s.hand.deviceChanges = c :: rest) :
    exec .deviceStateChangeMSU s = .next ((s.withHand { s.hand with deviceChanges := rest }).followDevice c) := by
  simp [exec, execDeviceStateChangeMSU, State.whileRunning, hr, State.takeDeviceChange, h, takeOldest]

/-- Settles O37: the trips of the movers with authority, field by field. -/
theorem deviceChangeTrips : Obligations.DeviceChangeTrips := by
  intro s c rest hr htaken leaves tripped
  have hexec := exec_deviceStateChangeMSU hr htaken
  have hleaves : (c.before.carriesAuthority && !c.after.carriesAuthority) = true ↔ leaves := by
    rw [Bool.and_eq_true, Bool.not_eq_true', ← Bool.not_eq_true, DeviceState.carriesAuthority_iff,
      DeviceState.carriesAuthority_iff, not_or]
  refine ⟨fun hstays => ?_, fun hleave => ?_⟩
  · rw [hexec, State.followDevice, if_neg (hleaves.not.mpr hstays)]
    rfl
  · set s0 := s.withHand { s.hand with deviceChanges := rest }
    have hlist : (allMovers.filter fun m => (s0.moverState m).hasAuthority) = tripped :=
      List.filter_congr fun m _ => MoverState.hasAuthority_eq (s.moverState m)
    have hmem : ∀ m, m ∈ tripped ↔ s.moverState m = .permitted ∨ s.moverState m = .stopping := by
      intro m
      simp [tripped, mem_allMovers]
    have hnodup : tripped.Nodup := allMovers_nodup.filter _
    have hfold : s0.followDevice c = tripped.foldl State.tripByDevice s0 := by
      rw [State.followDevice, if_pos (hleaves.mpr hleave), foldl_tripOnDevice _ allMovers_nodup, hlist]
    rw [hexec, hfold]
    refine ⟨_, rfl, foldl_tripByDevice_frame tripped s0, foldl_keeps (·.asu.skew) _ State.tripByDevice_skew _ _,
      foldl_tripByDevice_hand tripped s0, fun a => ?_, fun m => ⟨fun hp hs => ?_, fun hauth => ?_⟩⟩
    · rw [foldl_tripByDevice_ceilings]
      simp only [hmem]
      rfl
    · have hnot : m ∉ tripped := (hmem m).not.mpr (not_or.mpr ⟨hp, hs⟩)
      rw [foldl_tripByDevice_msu _ hnodup, foldl_tripByDevice_authority _ hnodup, if_neg hnot, if_neg hnot]
      exact ⟨rfl, rfl⟩
    · have hin : m ∈ tripped := (hmem m).mpr hauth
      rw [foldl_tripByDevice_msu _ hnodup, foldl_tripByDevice_authority _ hnodup, if_pos hin, if_pos hin]
      exact ⟨rfl, rfl⟩

end Sys2Proof.Machine
end

section
/-! SUPPORT. The Mover State Unit (chapter 6): the trip and readback timers with the faults that lock the device, and the
requests STOP and CLEAR. It settles O38 and O39. -/

namespace Sys2Proof.Machine

/-! ## The timers and the faults that lock the device (R101, R104, R142) -/

theorem DeviceState.isActive_iff {d : DeviceState} : d.isActive = true ↔ d = .arming ∨ d = .armed ∨ d = .disarming := by
  cases d <;> simp [DeviceState.isActive]

section
variable {s : State} {m : Mover}

theorem exec_tripTimerExpiry (hr : s.slu.heldInReset = false) (m : Mover) :
    exec (.tripTimerExpiry m) s = .next (s.tripTimerExpires m) := by
  simp [exec, execTripTimerExpiry, State.whileRunning, hr]

theorem exec_readbackTimerExpiry (hr : s.slu.heldInReset = false) (m : Mover) :
    exec (.readbackTimerExpiry m) s = .next (s.readbackTimerExpires m) := by
  simp [exec, execReadbackTimerExpiry, State.whileRunning, hr]

theorem State.tripTimerExpires_running (h : (s.msu.get m).tripTimer.isRunning = true) : s.tripTimerExpires m =
    (s.setMover m { s.msu.get m with tripTimer := .expired }).raiseDeviceFault .brakeFault m := by
  simp only [State.tripTimerExpires, if_pos h]

theorem State.tripTimerExpires_stopped (h : (s.msu.get m).tripTimer.isRunning = false) : s.tripTimerExpires m = s := by
  simp [State.tripTimerExpires, h]

/-- R104: the readback is compared where the timer runs, and a relay commanded open that reads closed is stuck. -/
theorem State.readbackTimerExpires_running (h : (s.msu.get m).readbackTimer = true) : s.readbackTimerExpires m =
    if (s.msu.get m).relayClosed = false ∧ (s.msu.get m).readbackClosed = true then
      (s.setMover m { s.msu.get m with readbackTimer := false }).raiseDeviceFault .relayStuck m
    else s.setMover m { s.msu.get m with readbackTimer := false } := by
  simp only [State.readbackTimerExpires, if_pos h]

theorem State.readbackTimerExpires_stopped (h : (s.msu.get m).readbackTimer = false) : s.readbackTimerExpires m = s := by
  simp [State.readbackTimerExpires, h]

end

/-- Settles O38: DSU's entry to Locked, then the two timers that lead to it. -/
theorem timersRaiseFaultsThatLock : Obligations.TimersRaiseFaultsThatLock := by
  refine ⟨fun s f => ⟨fun h1 h2 h3 => ?_, fun h => ?_⟩, fun s m hr => ?timers⟩
  · exact if_neg (DeviceState.isActive_iff.not.mpr (by simp [h1, h2, h3]))
  · have hlocked : s.takeDeviceFault f = s.enterLocked f := if_pos (DeviceState.isActive_iff.mpr h)
    rw [hlocked, State.enterLocked_eq]
    exact ⟨_, rfl, rfl, rfl, fun m => PerMover.get_ofFn _ m, rfl⟩
  case timers =>
    intro k raised
    rw [exec_tripTimerExpiry hr, exec_readbackTimerExpiry hr]
    refine ⟨fun h => ?_, fun h => ?_, fun h => ?_, fun h hagrees => ?_, fun h hopen hreads => ?_⟩
    · rw [State.tripTimerExpires_stopped h]
    · rw [State.tripTimerExpires_running h]
      rfl
    · rw [State.readbackTimerExpires_stopped h]
    · rw [State.readbackTimerExpires_running h, if_neg fun ⟨hopen, hreads⟩ =>
        hagrees.elim (ne_true_of_eq_false hopen) (ne_false_of_eq_true hreads)]
    · rw [State.readbackTimerExpires_running h, if_pos ⟨hopen, hreads⟩]
      rfl

/-! ## STOP (R108) -/

theorem requestRow_stop {r : Request} (h : codeOfByte r.code = some .stop) : requestRow r = .stop := by
  simp [requestRow, h]

theorem requestRow_clear {r : Request} (h : codeOfByte r.code = some .clear) : requestRow r = .clear := by
  simp [requestRow, h]

section
variable {s : State} {p : Port} {r : Request} {m : Mover}

theorem exec_stop (h : s.Served p r .stop) {t : State} {a : Answer} (hs : settleStop p r (s.takeHead p) = (t, some a)) :
    exec .stop s = .next (t.reply p r.tag a) :=
  serve_answers h (requestRow_stop h.code) hs

theorem settleStop_named (hm : fieldAt r.body 0 = moverNumber m) : settleStop p r s = s.stopMover m := by
  simp only [settleStop, moverOfNumber_iff.mpr hm]

theorem State.stopMover_permitted (h : s.moverState m = .permitted) :
    let t := s.takeCause ⟨.stopRequest, .one m, CauseData.nothing⟩
    s.stopMover m = (t, some ⟨.done, false, bytesOf 4 ((t.authorityOf m).stopTarget.getD 0)⟩) := by
  simp only [State.stopMover, h]
  rfl

theorem State.stopMover_stopping (h : s.moverState m = .stopping) :
    s.stopMover m = (s, some ⟨.done, false, bytesOf 4 ((s.authorityOf m).stopTarget.getD 0)⟩) := by
  simp only [State.stopMover, h]
  rfl

theorem State.stopMover_other (h : s.moverState m = .parked ∨ s.moverState m = .tripped ∨ s.moverState m = .halted) :
    s.stopMover m = (s, some ⟨.done, false, [0, 0, 0, 0]⟩) := by
  rcases h with h | h | h <;> simp only [State.stopMover, h] <;> rfl

/-- R60: the stop target is not one of the fields that a computation of the ceilings sets. -/
theorem State.computeCeilings_stopTarget (s : State) (m : Mover) (mo : Motion) :
    ((s.computeCeilings m mo .asItStands).authorityOf m).stopTarget = (s.authorityOf m).stopTarget := by
  simp only [State.computeCeilings]
  split
  · simp [State.authorityOf, stageCap]
  · rfl

theorem State.computeCeilingsNow_stopTarget (s : State) (m : Mover) :
    ((s.computeCeilingsNow m false).authorityOf m).stopTarget = (s.authorityOf m).stopTarget := by
  unfold State.computeCeilingsNow
  split
  · exact s.computeCeilings_stopTarget m _
  · rfl

/-- A cause of one mover that a controlled stop answers acts on that mover alone (R94, R96). -/
theorem State.takeCause_one (s : State) {c : Cause} (d : CauseData) (h : causeClass c = some .controlled) :
    s.takeCause ⟨c, .one m, d⟩ = (s.applyControlled c m).handFault (s.faultOfCause ⟨c, .one m, d⟩) := by
  have hscope : (Scope.one m).movers = [m] := by cases m <;> rfl
  rw [State.takeCause_controlled s h, hscope]
  rfl

/-- R96: the mover and its stop target once a controlled stop has started. -/
theorem State.startStop_outcome {c : Cause} {d : Direction} {e l : Int} (hd : (s.authorityOf m).direction = some d)
    (he : (s.authorityOf m).authorityEnd = some e) (hl : (s.pos.movers.get m).lead = some l) :
    (s.startStop c m).moverState m = .stopping ∧ ((s.startStop c m).msu.get m).stopEnd = some (endOfCause c)
      ∧ ((s.startStop c m).authorityOf m).stopTarget
        = some (stopTargetOf (s.params m) d l (s.pos.movers.get m).speed e) := by
  rw [State.startStop_eq hd he hl]
  refine ⟨by simp [State.moverState, State.postStopped], by simp [State.postStopped], ?_⟩
  refine (State.computeCeilingsNow_stopTarget _ m).trans ?_
  rw [State.setAuthority_authorityOf]

end

/-! ## CLEAR (R107) -/

section
variable {s : State} {p : Port} {r : Request} {m : Mover}

theorem exec_clear (h : s.Served p r .clear) {t : State} {a : Answer} (hs : settleClear p r (s.takeHead p) = (t, some a)) :
    exec .clear s = .next (t.reply p r.tag a) :=
  serve_answers h (requestRow_clear h.code) hs

/-- R107: CLEAR is served in Standby and Armed, for the mover it names. -/
theorem settleClear_named (hd : s.dsu.state = .standby ∨ s.dsu.state = .armed) (hm : fieldAt r.body 0 = moverNumber m) :
    settleClear p r s = s.askClear m := by
  simp only [settleClear, if_pos hd, moverOfNumber_iff.mpr hm]

theorem State.askClear_parked (h : s.moverState m = .parked) : s.askClear m = (s, some ⟨.done, false, []⟩) := by
  simp only [State.askClear, h]
  rfl

theorem State.askClear_moving (h : s.moverState m = .permitted ∨ s.moverState m = .stopping ∨ s.moverState m = .tripped) :
    s.askClear m = (s, some ⟨.state, false, []⟩) := by
  rcases h with h | h | h <;> simp only [State.askClear, h] <;> rfl

/-- R107: the oldest halt cause that is not gone is named. -/
theorem State.askClear_causePresent {before after : List Cause} {c : Cause} (h : s.moverState m = .halted)
    (hcauses : (s.msu.get m).haltCauses = before ++ c :: after) (hbefore : ∀ x ∈ before, s.causeGone m x = true)
    (hc : s.causeGone m c = false) :
    s.askClear m = (s, some ⟨.causePresent, false, byteField (causeNumber c)⟩) := by
  have hfind : ((s.msu.get m).haltCauses.find? fun c => !s.causeGone m c) = some c :=
    List.find?_eq_some_iff_append.mpr ⟨by simp [hc], before, after, hcauses, fun x hx => by simp [hbefore x hx]⟩
  simp only [State.askClear, h, hfind]

theorem State.askClear_gone (h : s.moverState m = .halted)
    (hgone : ∀ c ∈ (s.msu.get m).haltCauses, s.causeGone m c = true) :
    s.askClear m = (s.clearMover m, some ⟨.done, false, []⟩) := by
  have hfind : ((s.msu.get m).haltCauses.find? fun c => !s.causeGone m c) = none :=
    List.find?_eq_none.mpr fun c hc => by simp [hgone c hc]
  simp only [State.askClear, h, hfind]
  rfl

theorem State.allAxesValid_iff : s.allAxesValid m = true ↔ ∀ a ∈ axesOf m, (s.pos.axes.get a).validity = .valid := by
  simp [State.allAxesValid]

theorem State.loopChannelsClosed_iff : s.loopChannelsClosed = true
    ↔ (s.slu.channels.get .a).filtered = true ∧ (s.slu.channels.get .b).filtered = true := by
  simp [State.loopChannelsClosed]

theorem BraceState.isKnown_iff {b : BraceState} : b.isKnown = true ↔ b = .engaged ∨ b = .withdrawn := by
  cases b <;> simp [BraceState.isKnown]

/-- R95: SKEW TRIP is gone while the last spread, where there is one, is below the alarm. -/
theorem State.causeGone_skewTrip : s.causeGone m .skewTrip = true
    ↔ ∀ x, (s.asu.skew.get m).lastSpread = some x → x < (s.params m).skewAlarm := by
  unfold State.causeGone
  cases (s.asu.skew.get m).lastSpread <;> simp

/-- Taking the head of a queue leaves every port's link state (R157). -/
theorem State.takeHead_link (s : State) (p q : Port) :
    ((s.takeHead p).spu.ports.get q).link = (s.spu.ports.get q).link := by
  simp only [State.takeHead, State.withSpu_spu, PerPort.get_set]
  split
  · next hq => rw [hq]
  · rfl

theorem State.takeHead_causeGone (s : State) (p : Port) : (s.takeHead p).causeGone = s.causeGone := by
  funext m c
  cases c with
  | linkSilence => simp only [State.causeGone, State.takeHead_link]
  | _ => rfl

end

/-- Settles O39: STOP by the mover's state, its controlled stop by R96; then CLEAR, by its checks and the halt causes. -/
theorem stopAndClear : Obligations.StopAndClear := by
  refine ⟨fun s p r h => ⟨fun hnone => exec_stop h ?_, fun m hm => ?stop⟩,
    fun s p r h => ⟨fun h1 h2 => exec_clear h (if_neg (not_or.mpr ⟨h1, h2⟩)), fun hd hnone => exec_clear h ?_,
      fun m hd hm => ?clear⟩⟩
  · simp only [settleStop, moverOfNumber_none.mpr hnone]
    rfl
  case stop =>
    have hsettle := settleStop_named (s := s.takeHead p) (p := p) hm
    refine ⟨fun hpermitted => ?_, fun hstopping => exec_stop h (hsettle.trans (State.stopMover_stopping hstopping)),
      fun hother => exec_stop h (hsettle.trans (State.stopMover_other hother))⟩
    intro t
    refine ⟨exec_stop h (hsettle.trans (State.stopMover_permitted hpermitted)), fun d e l hdir hend hlead => ?_⟩
    intro stop
    have ht : t = ((s.takeHead p).startStop .stopRequest m).handFault
        ((s.takeHead p).faultOfCause ⟨.stopRequest, .one m, CauseData.nothing⟩) := by
      rw [← State.applyControlled_permitted (s := s.takeHead p) hpermitted]
      exact State.takeCause_one _ _ rfl
    have htarget : stopTargetOf (s.params m) d l (s.pos.movers.get m).speed e
        = if e * d.sign < stop * d.sign then e else stop := lessAdvancedOf_eq _ _ _
    rw [ht, ← htarget]
    exact State.startStop_outcome (s := s.takeHead p) hdir hend hlead
  · have hd' : (s.takeHead p).dsu.state = .standby ∨ (s.takeHead p).dsu.state = .armed := hd
    simp only [settleClear, if_pos hd', moverOfNumber_none.mpr hnone]
    rfl
  case clear =>
    intro k gone
    have hsettle := settleClear_named (s := s.takeHead p) (p := p) hd hm
    have hgone : ∀ c, (s.takeHead p).causeGone m c = true ↔ gone c := by
      intro c
      rw [State.takeHead_causeGone]
      cases c with
      | readerLoss | readerDiscrepancy => exact State.allAxesValid_iff
      | overspeed | overrun | rollback | uncommandedMotion => exact Iff.rfl
      | skewTrip => exact State.causeGone_skewTrip
      | safetyLoop => exact State.loopChannelsClosed_iff
      | driveTrip => exact iff_of_eq (Bool.not_eq_true' _)
      | braceLost => exact Bool.and_eq_true_iff.trans (and_congr BraceState.isKnown_iff BraceState.isKnown_iff)
      | linkSilence => exact beq_iff_eq
      | windLimit | stopRequest | permitsOff | disarm | venueSilence | device | brakeFault | relayStuck | braceStalled =>
        exact iff_of_true rfl trivial
    refine ⟨fun hparked => exec_clear h (hsettle.trans (State.askClear_parked hparked)),
      fun hmoving => exec_clear h (hsettle.trans (State.askClear_moving hmoving)),
      fun before c after hhalted hcauses hbefore hc => exec_clear h (hsettle.trans ?_),
      fun hhalted hall => exec_clear h (hsettle.trans ?_)⟩
    · exact State.askClear_causePresent hhalted hcauses (fun x hx => (hgone x).mpr (hbefore x hx))
        (by rw [← Bool.not_eq_true, hgone]; exact hc)
    · exact State.askClear_gone hhalted fun c hc => (hgone c).mpr (hall c hc)

end Sys2Proof.Machine
end

section
/-! SUPPORT. The portal braces (chapter 7): the laws of a brace record, which every operation on braces, every reset and
so every step keeps. It settles O58. -/

namespace Sys2Proof.Machine

/-! ## The states of a brace (R112, R113, R117) -/

/-- R112: a brace that is not being driven. -/
def BraceState.AtRest (st : BraceState) : Prop := st ≠ .engaging ∧ st ≠ .withdrawing

theorem targetState_atRest (d : BraceDirection) : (targetState d).AtRest := by
  cases d <;> simp [targetState, BraceState.AtRest]

theorem stateOfReading_atRest (r : SwitchReading) : (stateOfReading r).AtRest := by
  cases r <;> simp [stateOfReading, BraceState.AtRest]

/-! ## The laws of one brace record (R112, R117) -/

section
variable {b : BraceRec} {op : Option BraceDirection}

/-- R117: a brace driven in a direction, under the operation in that direction. -/
theorem BraceRec.drive_sound (b : BraceRec) (d : BraceDirection) (limit : Int) : (b.drive d limit).Sound (some d) := by
  cases d <;> simp [BraceRec.Sound, BraceRec.drive, movingState]

/-- A brace at rest with its outputs off and its timer stopped, whatever the operation in flight. -/
theorem BraceRec.still_sound (b : BraceRec) {st : BraceState} (hst : st.AtRest) : (b.still st).Sound op := by
  simp [BraceRec.Sound, BraceRec.still, Timer.isRunning, hst.1, hst.2]

theorem BraceRec.enterOperation_sound (b : BraceRec) (d : BraceDirection) (limit : Int) :
    (b.enterOperation d limit).Sound (some d) := by
  unfold BraceRec.enterOperation
  split
  · exact b.still_sound (targetState_atRest d)
  · exact b.drive_sound d limit

/-- R119. -/
theorem BraceRec.stall_sound (b : BraceRec) (d : BraceDirection) : (b.stall d).Sound op := by
  refine b.still_sound ?_
  split
  · next hdone => exact hdone ▸ targetState_atRest d
  · simp [BraceState.AtRest]

/-- R121. -/
theorem BraceRec.cut_sound (b : BraceRec) (d : BraceDirection) : (b.cut d).Sound op := by
  refine b.still_sound ?_
  split
  · next hdone => exact hdone ▸ targetState_atRest d
  · exact stateOfReading_atRest _

/-- R126. -/
theorem BraceRec.initial_sound (engaged withdrawn : Bool) : (BraceRec.initial engaged withdrawn).Sound op := by
  obtain ⟨hengaging, hwithdrawing⟩ :=
    stateOfReading_atRest (BraceRec.reading ⟨.unknown, false, false, .stopped, engaged, withdrawn⟩)
  simp [BraceRec.Sound, BraceRec.initial, Timer.isRunning, hengaging, hwithdrawing]

/-- A brace at rest is sound under any operation, and stays so in any other state at rest. -/
theorem BraceRec.Sound.withState (h : b.Sound op) (hb : b.state.AtRest) {st : BraceState} (hst : st.AtRest)
    (op' : Option BraceDirection) : ({ b with state := st } : BraceRec).Sound op' := by
  obtain ⟨hengage, hwithdraw, htimer, _, _⟩ := h
  exact ⟨fun hon => absurd (hengage hon) hb.1, fun hon => absurd (hwithdraw hon) hb.2,
    fun hruns => absurd (htimer hruns) (not_or.mpr hb), fun hs => absurd hs hst.1, fun hs => absurd hs hst.2⟩

theorem BraceRec.Sound.underAny (h : b.Sound op) (hb : b.state.AtRest) (op' : Option BraceDirection) : b.Sound op' :=
  h.withState hb hb op'

/-- R144: SLU switches the outputs off. -/
theorem BraceRec.Sound.outputsOff (h : b.Sound op) :
    ({ b with engageOutput := false, withdrawOutput := false } : BraceRec).Sound op := by
  obtain ⟨_, _, htimer, hengaging, hwithdrawing⟩ := h
  exact ⟨nofun, nofun, htimer, hengaging, hwithdrawing⟩

theorem BraceRec.Sound.timerStopped (h : b.Sound op) : ({ b with timer := .stopped } : BraceRec).Sound op := by
  obtain ⟨hengage, hwithdraw, _, hengaging, hwithdrawing⟩ := h
  exact ⟨hengage, hwithdraw, nofun, hengaging, hwithdrawing⟩

end

/-! ## What the operations on braces change (R112) -/

theorem State.mapBraces_get (s : State) (f : BraceRec → BraceRec) (x : Brace) :
    (s.mapBraces f).brc.braces.get x = f (s.brc.braces.get x) := by cases x <;> rfl

theorem State.outputsOff_eq (s : State) : s.outputsOff = s.mapBraces fun b =>
    { b with engageOutput := false, withdrawOutput := false } := rfl

section
variable {s : State}

/-- What is not BRC's is none of the laws' concern. -/
theorem State.BracesSound.of_brc {t : State} (h : s.BracesSound) (hbrc : t.brc = s.brc) : t.BracesSound := by
  unfold State.BracesSound
  rw [hbrc]
  exact h

theorem State.BracesSound.withHand (h : s.BracesSound) (x : Handovers) : (s.withHand x).BracesSound := h

theorem State.BracesSound.handDemand (h : s.BracesSound) (e : DemandEvent) : (s.handDemand e).BracesSound := h

theorem State.BracesSound.setBrace (h : s.BracesSound) {x : Brace} {r : BraceRec} (hr : r.Sound s.brc.operation) :
    (s.setBrace x r).BracesSound := by
  intro y
  simp only [State.setBrace_brc, PerBrace.get_set]
  split
  · exact hr
  · exact h y

/-- Both braces changed, and an operation they are sound under. -/
theorem State.mapBraces_sound {f : BraceRec → BraceRec} {op : Option BraceDirection} (hf : ∀ b, (f b).Sound op)
    (startPending : Bool) : ((s.mapBraces f).setOperation op startPending).BracesSound := by
  intro x
  simp only [State.setOperation, State.withBrc_brc, State.mapBraces_get]
  exact hf _

/-- R124: an engage owed, or no longer, changes no brace and no operation. -/
theorem State.BracesSound.withFlags (h : s.BracesSound) (startPending demand : Bool) :
    (s.withBrc { s.brc with startPending := startPending, demand := demand }).BracesSound := h

/-- R117, R118: an operation ends with both braces at rest. -/
theorem State.BracesSound.endIfComplete (h : s.BracesSound) (d : BraceDirection) : (s.endIfComplete d).BracesSound := by
  unfold State.endIfComplete
  split
  · next hboth =>
    obtain ⟨heast, hwest⟩ := State.bothBraces_iff.mp hboth
    have hrest : ∀ x, (s.brc.braces.get x).state.AtRest := by
      intro x
      cases x with
      | east => exact (congrArg BraceState.AtRest heast).mpr (targetState_atRest d)
      | west => exact (congrArg BraceState.AtRest hwest).mpr (targetState_atRest d)
    exact fun x => (h x).underAny (hrest x) none
  · exact h

/-- R117. -/
theorem State.startOperation_sound (s : State) (d : BraceDirection) (startPending : Bool) :
    (s.startOperation d startPending).BracesSound :=
  State.BracesSound.endIfComplete
    ((State.mapBraces_sound (fun b => b.enterOperation_sound d s.braceLimit) startPending).withHand _) d

/-- R124. -/
theorem State.BracesSound.actOnDemand (h : s.BracesSound) : s.actOnDemand.BracesSound := by
  unfold State.actOnDemand
  split
  · exact h
  · exact h.withFlags true s.brc.demand
  · next hnone =>
    split
    · exact s.startOperation_sound .engage false
    · rw [← hnone]
      exact h.withFlags true s.brc.demand

/-- R123. -/
theorem State.BracesSound.testDemand (h : s.BracesSound) (v : DemandView) : (s.testDemand v).BracesSound := by
  unfold State.testDemand
  split
  · split
    · exact h.withFlags false false
    · exact h.actOnDemand
  · split
    · exact State.BracesSound.actOnDemand ((h.withFlags s.brc.startPending true).withHand _)
    · exact h

theorem State.BracesSound.takeDemandEvent (h : s.BracesSound) (src : DemandSource) :
    (s.takeDemandEvent src).BracesSound := by
  unfold State.takeDemandEvent
  split
  · exact h
  · split
    · exact (h.withHand _).testDemand _
    · exact h

/-! ## Switch changes (R113, R118, R122) -/

/-- R122: a switch loss as far as Unknown: BRACE LOST raised, the loss handed to ZT, and one brace change. -/
def State.switchLost (s : State) (x : Brace) : State :=
  let r := s.brc.braces.get x
  (((s.raise ⟨.braceLost, .named (s.lossScope r.state),
    { CauseData.nothing with brace := some x, lost := some r.state }⟩).handSwitchLoss x).setBrace x
      (r.still .unknown)).handDemand .braceChange

/-- R122, R113: a brace lost goes on to the end its reading shows, if it shows one. -/
theorem State.loseSwitch_eq (s : State) (x : Brace) : s.loseSwitch x =
    if (stateOfReading (s.brc.braces.get x).reading).isKnown then
      ((s.switchLost x).setBrace x ((s.brc.braces.get x).still (stateOfReading (s.brc.braces.get x).reading))).handDemand
        .braceChange
    else s.switchLost x := rfl

theorem State.BracesSound.loseSwitch (h : s.BracesSound) (x : Brace) : (s.loseSwitch x).BracesSound := by
  have hunknown : BraceState.unknown.AtRest := by simp [BraceState.AtRest]
  have hlost : (s.switchLost x).BracesSound :=
    (h.setBrace (x := x) ((s.brc.braces.get x).still_sound hunknown)).of_brc rfl
  rw [State.loseSwitch_eq]
  split
  · exact (hlost.setBrace (BraceRec.still_sound _ (stateOfReading_atRest _))).handDemand _
  · exact hlost

theorem State.BracesSound.followSwitch (h : s.BracesSound) (x : Brace) : (s.followSwitch x).BracesSound := by
  unfold State.followSwitch
  dsimp only
  split
  · next hunknown =>
    split
    · have hrest : (s.brc.braces.get x).state.AtRest := by simp [hunknown, BraceState.AtRest]
      exact State.BracesSound.withHand (h.setBrace ((h x).withState hrest (stateOfReading_atRest _) _)) _
    · exact h
  · split
    · exact h
    · exact h.loseSwitch x
  · split
    · exact h
    · exact h.loseSwitch x
  all_goals exact h

theorem State.BracesSound.followOperation (h : s.BracesSound) {d : BraceDirection} (hop : s.brc.operation = some d)
    (x : Brace) : (s.followOperation d x).BracesSound := by
  unfold State.followOperation
  dsimp only
  split
  · split
    · have hended := (h.setBrace (x := x) ((s.brc.braces.get x).still_sound (targetState_atRest d))).endIfComplete d
      unfold State.payPending
      split
      · exact hended.actOnDemand
      · exact hended
    · exact h
  · split
    · refine h.setBrace ?_
      rw [hop]
      exact BraceRec.drive_sound _ d _
    · exact h

theorem State.BracesSound.setSwitches (h : s.BracesSound) (x : Brace) (engaged withdrawn : Bool) :
    (s.setSwitches x engaged withdrawn).BracesSound := h.setBrace (h x)

theorem State.BracesSound.switchesShow (h : s.BracesSound) (x : Brace) : (s.switchesShow x).BracesSound := by
  unfold State.switchesShow
  split
  · exact h.followSwitch x
  · next hop => exact h.followOperation hop x

/-! ## Operations that stop (R119, R121, R144) -/

theorem State.BracesSound.operationExpires (h : s.BracesSound) (x : Brace) : (s.operationExpires x).BracesSound := by
  unfold State.operationExpires
  dsimp only
  split
  · split
    · next d _ =>
      have hstalled := s.mapBraces_sound (fun b => b.stall_sound (op := none) d) s.brc.startPending
      exact hstalled.of_brc (by simp [State.stallOperation])
    · exact h.setBrace (h x).timerStopped
  · exact h

theorem State.BracesSound.takeCut (h : s.BracesSound) : s.takeCut.BracesSound := by
  unfold State.takeCut
  split
  · unfold State.cutOperation
    split
    · next d _ => exact (State.mapBraces_sound (fun b => b.cut_sound d) _).withHand _
    · exact h.withHand _
  · exact h

theorem State.BracesSound.openLoop (h : s.BracesSound) (mark : Bool) : (s.openLoop mark).BracesSound := by
  have hoff : s.outputsOff.BracesSound := fun x => by
    rw [State.outputsOff_eq, State.mapBraces_get]
    exact (h x).outputsOff
  unfold State.openLoop
  dsimp only
  split
  · exact hoff.of_brc (by simp [State.actOnOpening]; rfl)
  · exact h.of_brc rfl

theorem State.BracesSound.followChannels (h : s.BracesSound) : s.followChannels.BracesSound := by
  unfold State.followChannels
  dsimp only
  split
  · split
    · exact h
    · split
      · exact h.openLoop false
      · exact h.of_brc rfl
  · split
    · exact h.of_brc rfl
    · split
      · exact h.openLoop false
      · exact h
  · split
    · exact h.of_brc rfl
    · exact h

theorem State.BracesSound.channelSettles (h : s.BracesSound) (c : LoopChannel) : (s.channelSettles c).BracesSound := by
  unfold State.channelSettles
  split
  · exact State.BracesSound.followChannels (h.of_brc rfl)
  · exact h

theorem State.BracesSound.discrepancyExpires (h : s.BracesSound) : s.discrepancyExpires.BracesSound := by
  unfold State.discrepancyExpires
  split
  · split
    · exact h.openLoop true
    · exact h.of_brc rfl
  · exact h

/-- R126. -/
theorem State.resetTo_bracesSound (s : State) (k : ResetKind) : (s.resetTo k).BracesSound := by
  intro x
  simp only [State.resetTo_brc, Brc.atReset, PerBrace.get_ofFn]
  exact BraceRec.initial_sound _ _

end

/-! ## The requests BRACE and BRACE CLEAR (R114, R120) -/

/-- Serving a request keeps a law of the state that its settlement keeps and that the ports are none of (R153). -/
theorem State.serve_preserves {P : State → Prop} {s : State} (h : P s) (row : Instr) {settle : Settlement}
    (hspu : ∀ (t : State) x, P t → P (t.withSpu x)) (hsettle : ∀ p r (t : State), P t → P (settle p r t).1) :
    P (s.serve row settle) := by
  unfold State.serve
  split
  · next p r _ =>
    split
    · have hhead : P (s.takeHead p) := hspu s _ h
      have hkept := hsettle p r (s.takeHead p) hhead
      unfold State.handle
      dsimp only
      split
      · exact hspu _ _ hhead
      · split
        · next heq => rw [heq] at hkept; exact hspu _ _ hkept
        · next heq => rw [heq] at hkept; exact hkept
    · exact h
  · exact h

section
variable {s : State}

theorem settleBrace_bracesSound (p : Port) (r : Request) (h : s.BracesSound) : (settleBrace p r s).1.BracesSound := by
  unfold settleBrace
  split
  · split
    · unfold State.askOperation
      split
      · exact h
      · split
        · exact h
        · split
          · exact h
          · split
            · exact h
            · exact s.startOperation_sound _ _
    · exact h
  · exact h

theorem State.BracesSound.clearBrace (h : s.BracesSound) (x : Brace) : (s.clearBrace x).BracesSound := by
  unfold State.clearBrace
  dsimp only
  split
  · next hstalled =>
    have hrest : (s.brc.braces.get x).state.AtRest := by simp [hstalled, BraceState.AtRest]
    exact (h.setBrace ((h x).withState hrest (stateOfReading_atRest _) _)).handDemand _
  · exact h

theorem settleBraceClear_bracesSound (p : Port) (r : Request) (h : s.BracesSound) :
    (settleBraceClear p r s).1.BracesSound := by
  unfold settleBraceClear
  split
  · exact h
  · next bs _ => exact List.foldlRecOn bs State.clearBrace h fun t ht x _ => ht.clearBrace x

/-! ## Every command keeps the laws -/

/-- A command whose frame leaves BRC as it was. -/
theorem State.BracesSound.of_frame (h : s.BracesSound) {o : Host.Outcome State Fault Refusal} {Q : State → Prop}
    (hframe : ∃ t, o = .next t ∧ Q t) (hbrc : ∀ t, Q t → t.brc = s.brc := by intro t ht; simp [ht]) :
    ∃ t, o = .next t ∧ t.BracesSound := by
  obtain ⟨t, ho, ht⟩ := hframe
  exact ⟨t, ho, h.of_brc (hbrc t ht)⟩

/-- A command that the part takes only while it runs keeps the laws where its effect does. -/
theorem State.BracesSound.whileRunning (h : s.BracesSound) {f : State → State} (hf : (f s).BracesSound) :
    ∃ t, s.whileRunning f = .next t ∧ t.BracesSound := by
  refine ⟨_, rfl, ?_⟩
  split
  · exact h
  · exact hf

theorem State.BracesSound.served (h : s.BracesSound) {row : Instr} {settle : Settlement}
    (hsettle : ∀ p r (t : State), t.BracesSound → (settle p r t).1.BracesSound) :
    ∃ t, (s.whileRunning fun s => s.serve row settle) = .next t ∧ t.BracesSound :=
  h.whileRunning (f := (·.serve row settle)) (State.serve_preserves h row (fun _ _ ht => ht) hsettle)

end
/-- Every command keeps the laws: resets set the braces anew, the commands of chapter 7 and the expiries by which a loop
opens act on them, and no other command touches BRC. -/
theorem exec_keeps_bracesSound {s : State} (h : s.BracesSound) (i : Instr) : ∃ t, exec i s = .next t ∧ t.BracesSound := by
  cases i with
  | powerOnReset => exact ⟨_, rfl, s.resetTo_bracesSound _⟩
  | lineReset =>
    refine h.whileRunning ?_
    split
    · exact s.resetTo_bracesSound _
    · exact h
  | resetLineRelease =>
    refine ⟨_, rfl, ?_⟩
    split
    · exact s.lineReleased.resetTo_bracesSound _
    · exact h
  | commandedReset =>
    refine h.whileRunning ?_
    split
    · exact s.resetTo_bracesSound _
    · exact h
  | braceEngage | braceWithdraw => exact h.served fun p r _ => settleBrace_bracesSound p r
  | braceClear => exact h.served fun p r _ => settleBraceClear_bracesSound p r
  | braceSwitchChange x engaged withdrawn =>
    exact (h.setSwitches x engaged withdrawn).whileRunning (f := (·.switchesShow x))
      ((h.setSwitches x engaged withdrawn).switchesShow x)
  | operationTimerExpiry x => exact h.whileRunning (f := (·.operationExpires x)) (h.operationExpires x)
  | cutShort => exact h.whileRunning (f := State.takeCut) h.takeCut
  | demandConditionTest src => exact h.whileRunning (f := (·.takeDemandEvent src)) (h.takeDemandEvent src)
  | loopFilterExpiry c => exact h.whileRunning (f := (·.channelSettles c)) (h.channelSettles c)
  | discrepancyTimerExpiry => exact h.whileRunning (f := State.discrepancyExpires) h.discrepancyExpires
  | reserve => exact h.of_frame (execReserve_frame s)
  | release => exact h.of_frame (execRelease_frame s)
  | barrierClose => exact h.of_frame (execBarrierClose_frame s)
  | barrierOpen => exact h.of_frame (execBarrierOpen_frame s)
  | stop => exact h.of_frame (execStop_frame s)
  | clear => exact h.of_frame (execClear_frame s)
  | positionUpdateZT m => exact h.of_frame (execPositionUpdateZT_frame m s)
  | braceSwitchLoss => exact h.of_frame (execBraceSwitchLoss_frame s)
  | authorityConsumed m => exact h.of_frame (execAuthorityConsumed_frame m s)
  | positionUpdateMSU m => exact h.of_frame (execPositionUpdateMSU_frame m s)
  | immediateCauseTaken n => exact h.of_frame (execImmediateCauseTaken_frame n s)
  | controlledCauseTaken n => exact h.of_frame (execControlledCauseTaken_frame n s)
  | holdCauseTaken n => exact h.of_frame (execHoldCauseTaken_frame n s)
  | storageWriteComplete ok => exact h.of_frame (execStorageWriteComplete_frame ok s)
  | resetLineAssertion => exact h.of_frame (execResetLineAssertion_frame s)
  | completeFrame p => exact h.of_frame (execCompleteFrame_frame p s)
  | frameTimerExpiry p => exact h.of_frame (execFrameTimerExpiry_frame p s)
  | replyFrameSent p => exact h.of_frame (execReplyFrameSent_frame p s)
  | silenceTimerExpiry p => exact h.of_frame (execSilenceTimerExpiry_frame p s)
  | unknownRequestCode => exact h.of_frame (execUnknownRequestCode_frame s)
  | status => exact h.of_frame (execStatus_frame s)
  | moverStatus => exact h.of_frame (execMoverStatus_frame s)
  | notice => exact h.of_frame (execNotice_frame s)
  | mask => exact h.of_frame (execMask_frame s)
  | move => exact h.of_frame (execMove_frame s)
  | permitsOff => exact h.of_frame (execPermitsOff_frame s)
  | permitsOn => exact h.of_frame (execPermitsOn_frame s)
  | arm => exact h.of_frame (execArm_frame s)
  | standby => exact h.of_frame (execStandby_frame s)
  | reset => exact h.of_frame (execReset_frame s)
  | faultRead => exact h.of_frame (execFaultRead_frame s)
  | faultClear => exact h.of_frame (execFaultClear_frame s)
  | configRead => exact h.of_frame (execConfigRead_frame s)
  | configWrite => exact h.of_frame (execConfigWrite_frame s)
  | commit => exact h.of_frame (execCommit_frame s)
  | readingArrival bus f => exact h.of_frame (execReadingArrival_frame bus f s)
  | gapTimerExpiry a role => exact h.of_frame (execGapTimerExpiry_frame a role s)
  | lossTimerExpiry a => exact h.of_frame (execLossTimerExpiry_frame a s)
  | validityChange a => exact h.of_frame (execValidityChange_frame a s)
  | positionUpdateASU m => exact h.of_frame (execPositionUpdateASU_frame m s)
  | deviceStateChangeMSU => exact h.of_frame (execDeviceStateChangeMSU_frame s)
  | tripTimerExpiry m => exact h.of_frame (execTripTimerExpiry_frame m s)
  | readbackTimerExpiry m => exact h.of_frame (execReadbackTimerExpiry_frame m s)
  | readbackContactChange m closed => exact h.of_frame (execReadbackContactChange_frame m closed s)
  | stepTimerExpiry => exact h.of_frame (execStepTimerExpiry_frame s)
  | moverStateChange => exact h.of_frame (execMoverStateChange_frame s)
  | loopChannelChange c closed => exact h.of_frame (execLoopChannelChange_frame c closed s)
  | driveTripInputChange m active => exact h.of_frame (execDriveTripInputChange_frame m active s)
  | driveTripFilterExpiry m => exact h.of_frame (execDriveTripFilterExpiry_frame m s)
  | anemometerPulse which => exact h.of_frame (execAnemometerPulse_frame which s)
  | intervalClosure => exact h.of_frame (execIntervalClosure_frame s)
  | noticePosting src => exact h.of_frame (execNoticePosting_frame src s)
  | causeHandover n => exact h.of_frame (execCauseHandover_frame n s)
  | stationPortByte p b framingError => exact h.of_frame (execStationPortByte_frame p b framingError s)

/-- Settles O58: the command taken off the queue keeps the laws, and the queue is none of theirs. -/
theorem everyStepKeepsBracesSound : Obligations.EveryStepKeepsBracesSound := by
  intro s t hs hstep
  unfold step at hstep
  split at hstep
  · cases hstep
    exact hs
  · next c rest _ =>
    obtain ⟨u, hu, hsound⟩ := exec_keeps_bracesSound (s := s.withPending rest) hs c
    obtain rfl : u = t := Host.Outcome.next.inj (hu.symm.trans hstep)
    exact hsound

end Sys2Proof.Machine
end

section
/-! SUPPORT. The portal braces (chapter 7): the request BRACE and the start of an operation. It settles O48. -/

namespace Sys2Proof.Machine

/-! ## The start of an operation (R117) -/

theorem movingState_ne_targetState (d e : BraceDirection) : movingState d ≠ targetState e := by
  cases d <;> cases e <;> simp [movingState, targetState]

section
variable {s : State} {d : BraceDirection} {startPending : Bool}

/-- R117, steps 2 and 3: as an operation starts, a brace has completed exactly where its switches show the target. -/
theorem BraceRec.enterOperation_completed {b : BraceRec} {limit : Int} :
    (b.enterOperation d limit).state = targetState d ↔ b.reading = targetReading d := by
  unfold BraceRec.enterOperation
  split
  · next harrived => exact iff_of_true rfl harrived
  · next hnot => exact iff_of_false (movingState_ne_targetState d d) hnot

theorem State.beginOperation_eq (s : State) (d : BraceDirection) (startPending : Bool) :
    s.beginOperation d startPending = { s with
      brc := ⟨⟨s.brc.braces.east.enterOperation d s.braceLimit, s.brc.braces.west.enterOperation d s.braceLimit⟩, some d,
        startPending, s.brc.demand⟩
      hand := { s.hand with demandEvents := s.hand.demandEvents ++ [.braceChange] } } := rfl

/-- R118: the end of an operation is BRACE DONE to all stations and one more brace change. -/
theorem State.finishOperation_eq (s : State) (d : BraceDirection) : s.finishOperation d = { s with
    brc := { s.brc with operation := none }
    hand := { s.hand with
      demandEvents := s.hand.demandEvents ++ [.braceChange]
      postings := s.hand.postings
        ++ [⟨.brc, [.roof, .pitch, .venue], ⟨.braceDone, 3, .absent, braceDirectionNumber d⟩⟩] } } := rfl

theorem State.beginOperation_get (s : State) (d : BraceDirection) (startPending : Bool) (x : Brace) :
    (s.beginOperation d startPending).brc.braces.get x = (s.brc.braces.get x).enterOperation d s.braceLimit :=
  s.mapBraces_get (fun b => b.enterOperation d s.braceLimit) x

/-- Both braces have completed at the start exactly where both were at the target. -/
theorem State.beginOperation_complete : (s.beginOperation d startPending).bothBraces (targetState d) = true
    ↔ (s.brc.braces.get .east).reading = targetReading d ∧ (s.brc.braces.get .west).reading = targetReading d := by
  rw [State.bothBraces_iff]
  simp only [State.braceState, State.beginOperation_get, BraceRec.enterOperation_completed]

theorem State.startOperation_complete (h : (s.brc.braces.get .east).reading = targetReading d
      ∧ (s.brc.braces.get .west).reading = targetReading d) :
    s.startOperation d startPending = (s.beginOperation d startPending).finishOperation d :=
  if_pos (State.beginOperation_complete.mpr h)

theorem State.startOperation_driving (h : ¬ ((s.brc.braces.get .east).reading = targetReading d
      ∧ (s.brc.braces.get .west).reading = targetReading d)) :
    s.startOperation d startPending = s.beginOperation d startPending :=
  if_neg (State.beginOperation_complete.not.mpr h)

/-- The end of an operation changes no brace (R118). -/
theorem State.startOperation_get (s : State) (d : BraceDirection) (startPending : Bool) (x : Brace) :
    (s.startOperation d startPending).brc.braces.get x = (s.brc.braces.get x).enterOperation d s.braceLimit := by
  rw [← s.beginOperation_get d startPending x]
  unfold State.startOperation State.endIfComplete
  split <;> rfl

end

/-! ## The conditions of BRACE (R115, R116) -/

/-- R116, condition 1, zone by zone. -/
theorem ZoneTable.parkingInUse_iff (t : ZoneTable) : t.parkingInUse = true ↔
    ∃ q : Path, ∃ z ∈ t.zones q, z.need = .engaged ∧ (z.holder ≠ none ∨ z.clearingFor ≠ none) := by
  simp only [ZoneTable.parkingInUse, ZoneTable.someZone, Bool.or_eq_true, List.any_eq_true, Bool.and_eq_true, beq_iff_eq,
    Option.isSome_iff_ne_none]
  constructor
  · rintro (h | h)
    · exact ⟨.runway, h⟩
    · exact ⟨.tray, h⟩
  · rintro ⟨q, h⟩
    cases q with
    | runway => exact .inl h
    | tray => exact .inr h

theorem State.anyStalled_iff {s : State} :
    s.anyStalled = true ↔ s.braceState .east = .stalled ∨ s.braceState .west = .stalled := by
  simp [State.anyStalled]

section
variable {s : State} {d : BraceDirection}

theorem State.operationRefusal_occupied (h : ¬ s.zt.engageConditions = true) :
    s.operationRefusal .engage = some .portalOccupied := if_neg h

theorem State.operationRefusal_engage (h : s.zt.engageConditions = true) : s.operationRefusal .engage = none := if_pos h

theorem State.operationRefusal_withdraw (s : State) : s.operationRefusal .withdraw =
    if s.zt.parkingInUse then some .parkingInUse
    else if s.zt.panelOverEngagedNeed s.zt.body && s.windNeedsBraces s.viewNow then some .wind
    else if s.brc.demand then some .braceDemand else none := rfl

/-! ## BRACE (R114) -/

theorem State.askOperation_inProgress (hop : s.brc.operation = some d) :
    s.askOperation d = (s, some (refuse .inProgress)) := by
  simp only [State.askOperation, hop, if_true]

theorem State.askOperation_busy {x : BraceDirection} (hop : s.brc.operation = some x) (hx : x ≠ d) :
    s.askOperation d = (s, some ⟨.busy, false, byteField (braceDirectionNumber x)⟩) := by
  simp only [State.askOperation, hop, if_neg hx]

theorem State.askOperation_stalled (hop : s.brc.operation = none) (h : s.anyStalled = true) :
    s.askOperation d = (s, some (refuse .state)) := by
  simp only [State.askOperation, hop, if_pos h]

theorem State.askOperation_there (hop : s.brc.operation = none) (hstalled : ¬ s.anyStalled = true)
    (h : s.bothBraces (targetState d) = true) : s.askOperation d = (s, some (doneWith (s.braceBody d))) := by
  simp only [State.askOperation, hop, if_neg hstalled, if_pos h]

theorem State.askOperation_refused (hop : s.brc.operation = none) (hstalled : ¬ s.anyStalled = true)
    (hthere : ¬ s.bothBraces (targetState d) = true) {o : ReplyOutcome} (h : s.operationRefusal d = some o) :
    s.askOperation d = (s, some (refuse o)) := by
  simp only [State.askOperation, hop, if_neg hstalled, if_neg hthere, h]

theorem State.askOperation_started (hop : s.brc.operation = none) (hstalled : ¬ s.anyStalled = true)
    (hthere : ¬ s.bothBraces (targetState d) = true) (h : s.operationRefusal d = none) :
    let t := s.startOperation d s.brc.startPending
    s.askOperation d = (t, some (doneWith (t.braceBody d))) := by
  simp only [State.askOperation, hop, if_neg hstalled, if_neg hthere, h]

end

section
variable {s : State} {p : Port} {r : Request} {d : BraceDirection}

/-- The row of a BRACE is its direction's: 2 withdraws, and every other body belongs to the engage (log 18). -/
theorem requestRow_brace (h : s.Served p r .brace) :
    requestRow r = if fieldAt r.body 0 = 2 then .braceWithdraw else .braceEngage := by
  obtain ⟨⟨_, _, hcode, hlength⟩, _⟩ := h
  obtain ⟨v, hv⟩ : ∃ v, r.body = [v] := List.length_eq_one_iff.mp (by simpa [bodyLengthOk] using hlength)
  have htwo : v = 2#8 ↔ v.toNat = 2 := BitVec.toNat_inj.symm
  simp [requestRow, hcode, hv, fieldAt, byteAt, htwo]

theorem exec_brace (h : s.Served p r .brace) {t : State} {a : Answer} (hs : settleBrace p r (s.takeHead p) = (t, some a)) :
    exec (requestRow r) s = .next (t.reply p r.tag a) := by
  have hrow := requestRow_brace h
  by_cases hwithdraw : fieldAt r.body 0 = 2
  · rw [if_pos hwithdraw] at hrow
    rw [hrow]
    exact serve_answers h hrow hs
  · rw [if_neg hwithdraw] at hrow
    rw [hrow]
    exact serve_answers h hrow hs

theorem settleBrace_named (harmed : s.dsu.state = .armed) (hd : fieldAt r.body 0 = braceDirectionNumber d) :
    settleBrace p r s = s.askOperation d := by
  rw [settleBrace, if_pos harmed, hd]
  cases d <;> rfl

theorem settleBrace_unnamed (harmed : s.dsu.state = .armed) (h1 : fieldAt r.body 0 ≠ 1) (h2 : fieldAt r.body 0 ≠ 2) :
    settleBrace p r s = (s, some (refuse .badRequest)) := by
  have hnone : braceDirectionOf (fieldAt r.body 0) = none := by
    unfold braceDirectionOf
    split <;> simp_all
  rw [settleBrace, if_pos harmed, hnone]

end

/-- Settles O48: the checks of R114 in order, then the start of an operation. -/
theorem braceRequestsStartOperations : Obligations.BraceRequestsStartOperations := by
  refine ⟨fun s p r h => ⟨fun hstate => exec_brace h (if_neg hstate),
    fun harmed h1 h2 => exec_brace h (settleBrace_unnamed (s := s.takeHead p) harmed h1 h2), fun d harmed hd => ?request⟩,
    fun s d startPending => ?start⟩
  case request =>
    intro act target refused bodies stalled there panelOver occupied parking windy
    have hact : ∀ {t : State} {a : Answer}, (s.takeHead p).askOperation d = (t, some a) →
        act = .next (t.reply p r.tag a) := by
      intro t a hask
      have hrow : act = exec (requestRow r) s := by
        rw [requestRow_brace h, hd]
        cases d <;> rfl
      rw [hrow]
      exact exec_brace h ((settleBrace_named (s := s.takeHead p) harmed hd).trans hask)
    refine ⟨fun hop => ?_, fun x hop hx => ?_, fun hop => ⟨fun hst => ?_, fun hst => ?_⟩⟩
    · exact hact (State.askOperation_inProgress (s := s.takeHead p) hop)
    · exact hact (State.askOperation_busy (s := s.takeHead p) hop hx)
    · exact hact (State.askOperation_stalled (s := s.takeHead p) hop (State.anyStalled_iff.mpr hst))
    · have hstalled : ¬ (s.takeHead p).anyStalled = true := State.anyStalled_iff.not.mpr hst
      refine ⟨fun hth => hact (State.askOperation_there (s := s.takeHead p) hop hstalled (State.bothBraces_iff.mpr hth)),
        fun hth => ?_⟩
      have hthere : ¬ (s.takeHead p).bothBraces (targetState d) = true := State.bothBraces_iff.not.mpr hth
      have hrefused : ∀ {o}, s.operationRefusal d = some o → refused o := fun ho =>
        hact (State.askOperation_refused (s := s.takeHead p) hop hstalled hthere ho)
      have hoccupied : s.zt.engageConditions = true ↔ ¬ occupied := s.zt.engageConditions_iff
      have hparking : s.zt.parkingInUse = true ↔ parking := s.zt.parkingInUse_iff
      have hwindy : (s.zt.panelOverEngagedNeed s.zt.body && s.windNeedsBraces s.viewNow) = true ↔ windy :=
        Bool.and_eq_true_iff.trans (and_congr (s.zt.panelOverEngagedNeed_iff _) (s.windNeedsBraces_iff _))
      refine ⟨?_, ?_, fun hfree => ?_⟩
      · rintro rfl hocc
        exact hrefused (State.operationRefusal_occupied (hoccupied.not.mpr (not_not.mpr hocc)))
      · rintro rfl
        have hwithdraw := s.operationRefusal_withdraw
        refine ⟨fun hpark => hrefused ?_, fun hpark => ⟨fun hwind => hrefused ?_, fun hwind hdemand => hrefused ?_⟩⟩
        · rw [hwithdraw, if_pos (hparking.mpr hpark)]
        · rw [hwithdraw, if_neg (hparking.not.mpr hpark), if_pos (hwindy.mpr hwind)]
        · rw [hwithdraw, if_neg (hparking.not.mpr hpark), if_neg (hwindy.not.mpr hwind), if_pos hdemand]
      · have hnone : s.operationRefusal d = none := by
          rcases hfree with ⟨rfl, hocc⟩ | ⟨rfl, hpark, hwind, hdemand⟩
          · exact State.operationRefusal_engage (hoccupied.mpr hocc)
          · rw [State.operationRefusal_withdraw, if_neg (hparking.not.mpr hpark), if_neg (hwindy.not.mpr hwind), hdemand]
            rfl
        exact hact (State.askOperation_started (s := s.takeHead p) hop hstalled hthere hnone)
  case start =>
    intro t arrived both
    refine ⟨fun x => ?_, ?_⟩
    · have hget : t.brc.braces.get x = (s.brc.braces.get x).enterOperation d s.braceLimit :=
        s.startOperation_get d startPending x
      rw [hget]
      refine ⟨fun harrived => if_pos harrived, fun hnot => (if_neg hnot).trans ?_⟩
      cases d <;> rfl
    · by_cases hboth : both
      · have ht : t = (s.beginOperation d startPending).finishOperation d := State.startOperation_complete hboth
        rw [ht, State.finishOperation_eq, State.beginOperation_eq]
        exact ⟨rfl, rfl, fun _ => ⟨rfl, by simp⟩, fun hnot => absurd hboth hnot, rfl⟩
      · have ht : t = s.beginOperation d startPending := State.startOperation_driving hboth
        rw [ht, State.beginOperation_eq]
        exact ⟨rfl, rfl, fun h => absurd h hboth, fun _ => ⟨rfl, rfl⟩, rfl⟩

end Sys2Proof.Machine
end

section
/-! SUPPORT. The portal braces (chapter 7): braces follow their end switches, at rest and in an operation. It settles
O49. -/

namespace Sys2Proof.Machine

/-! ## Switch readings (R112, R113) -/

theorem stateOfReading_known {v : SwitchReading} (h : v = .engaged ∨ v = .withdrawn) :
    (stateOfReading v).isKnown = true ∧ stateOfReading v = if v = .engaged then .engaged else .withdrawn := by
  rcases h with rfl | rfl <;> simp [stateOfReading, BraceState.isKnown]

theorem stateOfReading_unknown {v : SwitchReading} (h : v = .between ∨ v = .conflict) :
    ¬ (stateOfReading v).isKnown = true := by
  rcases h with rfl | rfl <;> simp [stateOfReading, BraceState.isKnown]

section
variable {s : State} {x : Brace} {r : BraceRec}

/-- R112: both end switches take their levels, and nothing else changes. -/
theorem State.setSwitches_get (s : State) (x : Brace) (e w : Bool) : (s.setSwitches x e w).brc.braces.get x =
    { s.brc.braces.get x with engagedSwitch := e, withdrawnSwitch := w } := PerBrace.get_set_self _ x _

theorem State.setSwitches_other (s : State) (x : Brace) (e w : Bool) :
    (s.setSwitches x e w).braceState (otherBrace x) = s.braceState (otherBrace x) := by cases x <;> rfl

theorem exec_braceSwitchChange_held (hr : s.slu.heldInReset = true) (e w : Bool) :
    exec (.braceSwitchChange x e w) s = .next (s.setSwitches x e w) :=
  congrArg Host.Outcome.next (if_pos hr)

theorem exec_braceSwitchChange (hr : s.slu.heldInReset = false) (e w : Bool) :
    exec (.braceSwitchChange x e w) s = .next ((s.setSwitches x e w).switchesShow x) :=
  congrArg Host.Outcome.next (if_neg (by simp [hr]))

/-! ## At rest (R113, R122) -/

theorem State.switchesShow_atRest (hop : s.brc.operation = none) : s.switchesShow x = s.followSwitch x := by
  simp only [State.switchesShow, hop]

/-- R113: a brace in Unknown takes the end its switches show. -/
theorem State.followSwitch_found (hget : s.brc.braces.get x = r) (hst : r.state = .unknown)
    (h : (stateOfReading r.reading).isKnown = true) :
    s.followSwitch x = (s.setBrace x { r with state := stateOfReading r.reading }).handDemand .braceChange := by
  simp only [State.followSwitch, hget, hst, if_pos h]

theorem State.followSwitch_unknown (hget : s.brc.braces.get x = r) (hst : r.state = .unknown)
    (h : ¬ (stateOfReading r.reading).isKnown = true) : s.followSwitch x = s := by
  simp only [State.followSwitch, hget, hst, if_neg h]

theorem State.followSwitch_stalled (hget : s.brc.braces.get x = r) (hst : r.state = .stalled) : s.followSwitch x = s := by
  simp only [State.followSwitch, hget, hst]

theorem State.followSwitch_kept (hget : s.brc.braces.get x = r) (h : (r.state = .engaged ∧ r.reading = .engaged)
      ∨ (r.state = .withdrawn ∧ r.reading = .withdrawn)) : s.followSwitch x = s := by
  rcases h with ⟨hst, h⟩ | ⟨hst, h⟩ <;> simp only [State.followSwitch, hget, hst, if_pos h]

theorem State.followSwitch_lost (hget : s.brc.braces.get x = r) (h : (r.state = .engaged ∧ r.reading ≠ .engaged)
      ∨ (r.state = .withdrawn ∧ r.reading ≠ .withdrawn)) : s.followSwitch x = s.loseSwitch x := by
  rcases h with ⟨hst, h⟩ | ⟨hst, h⟩ <;> simp only [State.followSwitch, hget, hst, if_neg h]

theorem MoverState.moving_eq (st : MoverState) :
    (!st.atRest) = (st == .permitted || st == .stopping || st == .tripped) := by cases st <;> rfl

/-- A brace state lost, and the need of the zones it met (R122). -/
theorem stateOfNeed_beq {n need : BraceNeed} {lost : BraceState}
    (h : (lost = .engaged ∧ need = .engaged) ∨ (lost = .withdrawn ∧ need = .withdrawn)) :
    (stateOfNeed n == some lost) = (n == need) := by
  rcases h with ⟨rfl, rfl⟩ | ⟨rfl, rfl⟩ <;> cases n <;> rfl

/-- R122: the movers that BRACE LOST names, by the need that the lost state met. -/
theorem State.lossScope_eq (s : State) {need : BraceNeed} {lost : BraceState}
    (h : (lost = .engaged ∧ need = .engaged) ∨ (lost = .withdrawn ∧ need = .withdrawn)) : s.lossScope lost =
      allMovers.filter fun m =>
        (s.moverState m == .permitted || s.moverState m == .stopping || s.moverState m == .tripped)
          && (s.zt.zones (pathOf m)).any fun z =>
            z.need == need && (bodyOverlaps (s.zt.body.get m) z || z.holder == some m) := by
  simp only [State.lossScope, MoverState.moving_eq, stateOfNeed_beq h]

/-! ## In an operation (R118) -/

section
variable {d : BraceDirection}

theorem State.switchesShow_operating (hop : s.brc.operation = some d) : s.switchesShow x = s.followOperation d x := by
  simp only [State.switchesShow, hop]

/-- A moving brace that is short of its target stays as it is. -/
theorem State.followOperation_short (hget : s.brc.braces.get x = r) (hst : r.state = movingState d)
    (h : r.reading ≠ targetReading d) : s.followOperation d x = s := by
  simp only [State.followOperation, hget, hst, if_neg h, if_neg (movingState_ne_targetState d d)]

/-- A completed brace that still shows its target stays as it is. -/
theorem State.followOperation_there (hget : s.brc.braces.get x = r) (hst : r.state = targetState d)
    (h : r.reading = targetReading d) : s.followOperation d x = s := by
  simp only [State.followOperation, hget, hst, if_pos h, if_neg (movingState_ne_targetState d d).symm]

theorem State.followOperation_left (hget : s.brc.braces.get x = r) (hst : r.state = targetState d)
    (h : r.reading ≠ targetReading d) : s.followOperation d x = s.setBrace x (r.drive d s.braceLimit) := by
  simp only [State.followOperation, hget, hst, if_neg h, if_true]

theorem State.followOperation_completed (hget : s.brc.braces.get x = r) (hst : r.state = movingState d)
    (h : r.reading = targetReading d) :
    s.followOperation d x = ((s.setBrace x (r.still (targetState d))).endIfComplete d).payPending d := by
  simp only [State.followOperation, hget, hst, if_pos h, if_true]

/-- R118: once a brace has completed, the operation ends where the other has completed before it. -/
theorem State.setBrace_complete (hr : r.state = targetState d) :
    (s.setBrace x r).bothBraces (targetState d) = true ↔ s.braceState (otherBrace x) = targetState d := by
  rw [State.bothBraces_iff]
  cases x with
  | east => exact and_iff_right hr
  | west => exact and_iff_left hr

/-- The operation that ended was not a withdraw, or none has ended, or no engage is owed (R118). -/
theorem State.payPending_none (h : d = .engage ∨ s.brc.operation ≠ none ∨ s.brc.startPending = false) :
    s.payPending d = s := by
  refine if_neg fun ⟨hd, hop, howed⟩ => ?_
  rcases h with h | h | h
  · cases h.symm.trans hd
  · exact h hop
  · cases h.symm.trans howed

/-- R118, R124: an engage owed is tried at the end of a withdraw, and stays owed where it may not start. -/
theorem State.payPending_owed (hop : s.brc.operation = none) (howed : s.brc.startPending = true) :
    s.payPending .withdraw = if s.mayEngage then s.startOperation .engage false else s := by
  have hstays : s.setOperation none true = s := by
    rw [← hop, ← howed]
    rfl
  rw [State.payPending, if_pos ⟨rfl, hop, howed⟩]
  simp only [State.actOnDemand, hop, hstays]

end

/-- R124: between braces that are Withdrawn, an engage for the demand is barred by the device state and the ENGAGE
conditions alone. -/
theorem State.mayEngage_withdrawn (h : s.bothBraces .withdrawn = true) : s.mayEngage = true ↔
    ¬ (s.dsu.state ≠ .armed ∨ ∃ q : Path, ∃ z ∈ s.zt.zones q, z.need = .withdrawn
      ∧ (z.holder ≠ none ∨ z.clearingFor ≠ none ∨ (q = .tray ∧ bodyOverlaps (s.zt.body.get .tray) z = true))) := by
  obtain ⟨heast, hwest⟩ := State.bothBraces_iff.mp h
  simp only [State.mayEngage_iff, heast, hwest, reduceCtorEq, false_or]

end

/-- Settles O49: the levels of the switches, then what BRC makes of the reading, at rest and in an operation. -/
theorem braceFollowsItsSwitches : Obligations.BraceFollowsItsSwitches := by
  intro s x e w k s1 r act still
  have hget : s1.brc.braces.get x = r := s.setSwitches_get x e w
  refine ⟨rfl, fun hr => exec_braceSwitchChange_held hr e w, fun hr hop => ?rest, fun d hr hop => ?operation⟩
  case rest =>
    have hact : act = .next (s1.followSwitch x) :=
      (exec_braceSwitchChange hr e w).trans (congrArg _ (State.switchesShow_atRest (s := s1) hop))
    rw [hact]
    refine ⟨fun hst hknown => ?_, fun hst hopen => ?_, fun hst => ?_, fun h => ?_, fun need hlost => ?_⟩
    · obtain ⟨hisKnown, hstate⟩ := stateOfReading_known hknown
      rw [State.followSwitch_found hget hst hisKnown, hstate]
    · rw [State.followSwitch_unknown hget hst (stateOfReading_unknown hopen)]
    · rw [State.followSwitch_stalled hget hst]
    · rw [State.followSwitch_kept hget h]
    · intro lost s2
      have hneed : (k.state = .engaged ∧ need = .engaged) ∨ (k.state = .withdrawn ∧ need = .withdrawn) :=
        hlost.imp (fun ⟨hst, _, hn⟩ => ⟨hst, hn⟩) fun ⟨hst, _, hn⟩ => ⟨hst, hn⟩
      have hloses : s1.followSwitch x = s1.loseSwitch x := State.followSwitch_lost hget
        (hlost.imp (fun ⟨hst, hread, _⟩ => ⟨hst, hread⟩) fun ⟨hst, hread, _⟩ => ⟨hst, hread⟩)
      have hs2 : s1.switchLost x = s2 := by
        have hscope : s1.lossScope r.state = lost := s1.lossScope_eq hneed
        simp only [State.switchLost, hget, hscope]
        rfl
      rw [hloses, State.loseSwitch_eq, hget, hs2]
      refine ⟨fun hopen => ?_, fun hknown => ?_⟩
      · rw [if_neg (stateOfReading_unknown hopen)]
      · obtain ⟨hisKnown, hstate⟩ := stateOfReading_known hknown
        rw [if_pos hisKnown, hstate]
        rfl
  case operation =>
    have hact : act = .next (s1.followOperation d x) :=
      (exec_braceSwitchChange hr e w).trans (congrArg _ (State.switchesShow_operating (s := s1) hop))
    rw [hact]
    refine ⟨fun hst h => ?_, fun hst h => ?_, fun hst h => ?_, fun hst h => ?_⟩
    · rw [State.followOperation_short hget hst h]
    · rw [State.followOperation_there hget hst h]
    · rw [State.followOperation_left hget hst h]
      cases d <;> rfl
    · rw [State.followOperation_completed hget hst h, State.endIfComplete]
      have hends : (s1.setBrace x (r.still (targetState d))).bothBraces (targetState d) = true
          ↔ s.braceState (otherBrace x) = targetState d := by
        rw [State.setBrace_complete rfl, State.setSwitches_other]
      refine ⟨fun hother => ?_, fun hother howed => ?_, ?_⟩
      · have hstill : (s1.setBrace x (r.still (targetState d))).brc.operation ≠ none := by
          rw [State.setBrace_brc]
          exact hop ▸ nofun
        rw [if_neg (hends.not.mpr hother), State.payPending_none (.inr (.inl hstill))]
        rfl
      · rw [if_pos (hends.mpr hother)]
        exact congrArg Host.Outcome.next (State.payPending_none (howed.imp_right .inr))
      · rintro hother rfl howed s2 s3 barred
        have hs3 : (s1.setBrace x (r.still (targetState .withdraw))).finishOperation .withdraw = s3 := rfl
        have hmay : s3.mayEngage = true ↔ ¬ barred := State.mayEngage_withdrawn (s := s3) (hends.mpr hother)
        rw [if_pos (hends.mpr hother), hs3, State.payPending_owed (s := s3) rfl howed]
        exact ⟨fun hbarred => by rw [if_neg (hmay.not.mpr (not_not.mpr hbarred))],
          fun hfree => by rw [if_pos (hmay.mpr hfree)]⟩

end Sys2Proof.Machine
end

section
/-! SUPPORT. The portal braces (chapter 7): operations that stall or are cut short, and the request BRACE CLEAR. It
settles O50. -/

namespace Sys2Proof.Machine

/-! ## A stalled operation (R119) -/

theorem targetState_ne_stalled (d : BraceDirection) : targetState d ≠ .stalled := by cases d <;> simp [targetState]

theorem BraceRec.stall_stalled {b : BraceRec} {d : BraceDirection} :
    (b.stall d).state = .stalled ↔ b.state ≠ targetState d := by
  by_cases hdone : b.state = targetState d
  · have hstate : (b.stall d).state = targetState d := (if_pos hdone).trans hdone
    exact iff_of_false (hstate ▸ targetState_ne_stalled d) (not_not.mpr hdone)
  · exact iff_of_true (if_neg hdone) hdone

/-- The braces that stand Stalled, East first (log 40). -/
def State.stalledBraces (s : State) : List Brace := [.east, .west].filter fun y => s.braceState y == .stalled

theorem State.mem_stalledBraces {s : State} {y : Brace} : y ∈ s.stalledBraces ↔ s.braceState y = .stalled := by
  cases y <;> simp [State.stalledBraces]

section
variable {s : State} {x : Brace} {d : BraceDirection}

/-- R119, step 5, for one brace. -/
theorem State.reportStall_eq (s : State) (d : BraceDirection) (x : Brace) : s.reportStall d x = { s with
    hand := { s.hand with
      postings := s.hand.postings ++ if s.braceState x = .stalled then [⟨.brc, [.roof, .pitch, .venue],
        ⟨.braceStalled, 6, .brace x, braceDirectionNumber d⟩⟩] else []
      faults := s.hand.faults
        ++ if s.braceState x = .stalled then [⟨.braceStalled, none, none, none, s.stallData x⟩] else [] } } := by
  unfold State.reportStall
  split
  · rfl
  · simp only [List.append_nil]

/-- R119, step 5: BRACE STALLED and the hand-over to the fault record, for each brace that has stalled. -/
theorem State.reportStalls_eq (s : State) (d : BraceDirection) : (s.reportStall d .east).reportStall d .west = { s with
    hand := { s.hand with
      postings := s.hand.postings ++ s.stalledBraces.map fun y => ⟨.brc, [.roof, .pitch, .venue],
        ⟨.braceStalled, 6, .brace y, braceDirectionNumber d⟩⟩
      faults := s.hand.faults ++ s.stalledBraces.map fun y => ⟨.braceStalled, none, none, none, s.stallData y⟩ } } := by
  rw [State.reportStall_eq, State.reportStall_eq]
  have hstate : ∀ h : Handovers, State.braceState { s with hand := h } .west = s.braceState .west := fun _ => rfl
  have hdata : ∀ h : Handovers, State.stallData { s with hand := h } .west = s.stallData .west := fun _ => rfl
  by_cases heast : s.braceState .east = .stalled <;> by_cases hwest : s.braceState .west = .stalled <;>
    simp [State.stalledBraces, hstate, hdata, heast, hwest]

/-- R119, steps 1 to 3: the braces of an operation that has stalled, and no operation. -/
def State.stalled (s : State) (d : BraceDirection) : State :=
  (s.mapBraces fun b => b.stall d).setOperation none s.brc.startPending

theorem State.stallOperation_eq (s : State) (d : BraceDirection) : s.stallOperation d =
    (((s.stalled d).reportStall d .east).reportStall d .west).handDemand .braceChange := rfl

theorem State.stalled_get (s : State) (d : BraceDirection) (x : Brace) :
    (s.stalled d).brc.braces.get x = (s.brc.braces.get x).stall d := s.mapBraces_get (fun b => b.stall d) x

theorem exec_operationTimerExpiry (hr : s.slu.heldInReset = false) (x : Brace) :
    exec (.operationTimerExpiry x) s = .next (s.operationExpires x) :=
  congrArg Host.Outcome.next (if_neg (by simp [hr]))

theorem State.operationExpires_stopped (h : (s.brc.braces.get x).timer.isRunning = false) : s.operationExpires x = s := by
  simp [State.operationExpires, h]

theorem State.operationExpires_running (h : (s.brc.braces.get x).timer.isRunning = true)
    (hop : s.brc.operation = some d) : s.operationExpires x = s.stallOperation d := by
  simp only [State.operationExpires, if_pos h, hop]

/-! ## An operation cut short (R121) -/

theorem exec_cutShort (hr : s.slu.heldInReset = false) {c : CutEvent} {rest : List CutEvent}
    (hcuts : s.hand.cuts = c :: rest) :
    exec .cutShort s = .next (s.withHand { s.hand with cuts := rest }).cutOperation := by
  have hexec : exec .cutShort s = s.whileRunning fun s => s.takeCut := rfl
  simp only [hexec, State.whileRunning, hr, Bool.false_eq_true, if_false, State.takeCut, hcuts, takeOldest]

theorem State.cutOperation_none (hop : s.brc.operation = none) : s.cutOperation = s := by
  simp only [State.cutOperation, hop]

theorem State.cutOperation_operating (hop : s.brc.operation = some d) : s.cutOperation =
    ((s.mapBraces fun b => b.cut d).setOperation none s.brc.startPending).handDemand .braceChange := by
  simp only [State.cutOperation, hop]

end

/-! ## BRACE CLEAR (R120) -/

/-- R120: a Stalled brace is released to the state its switches show. -/
def BraceRec.cleared (b : BraceRec) : BraceRec :=
  if b.state = .stalled then { b with state := stateOfReading b.reading } else b

theorem BraceRec.cleared_stalled {b : BraceRec} (h : b.state = .stalled) :
    b.cleared = { b with state := stateOfReading b.reading } := if_pos h

theorem BraceRec.cleared_other {b : BraceRec} (h : b.state ≠ .stalled) : b.cleared = b := if_neg h

section
variable {x : Brace}

theorem State.clearBrace_get (s : State) (x y : Brace) : (s.clearBrace x).brc.braces.get y =
    if y = x then (s.brc.braces.get y).cleared else s.brc.braces.get y := by
  by_cases hy : y = x
  · subst hy
    rw [if_pos rfl]
    unfold State.clearBrace BraceRec.cleared
    dsimp only
    split
    · exact PerBrace.get_set_self _ y _
    · rfl
  · rw [if_neg hy]
    unfold State.clearBrace
    dsimp only
    split
    · exact PerBrace.get_set_of_ne _ x y _ hy
    · rfl

/-- One brace change for a brace released, and nothing else handed on. -/
theorem State.clearBrace_eq (s : State) (x : Brace) : s.clearBrace x = { s with
    brc := { s.brc with braces := (s.clearBrace x).brc.braces }
    hand := { s.hand with
      demandEvents := s.hand.demandEvents ++ ([x].filter fun y => s.braceState y == .stalled).map fun _ => .braceChange }
    } := by
  by_cases hst : (s.brc.braces.get x).state = .stalled
  · have hfilter : ([x].filter fun y => s.braceState y == .stalled) = [x] := by simp [State.braceState, hst]
    simp only [State.clearBrace, if_pos hst, hfilter]
    rfl
  · have hfilter : ([x].filter fun y => s.braceState y == .stalled) = [] := by simp [State.braceState, hst]
    simp only [State.clearBrace, if_neg hst, hfilter, List.map_nil, List.append_nil]

theorem State.foldl_clearBrace_get (bs : List Brace) (hnodup : bs.Nodup) (s : State) (y : Brace) :
    (bs.foldl State.clearBrace s).brc.braces.get y =
      if y ∈ bs then (s.brc.braces.get y).cleared else s.brc.braces.get y := by
  induction bs generalizing s with
  | nil => rfl
  | cons x bs ih =>
    obtain ⟨hx, hbs⟩ := List.nodup_cons.mp hnodup
    rw [List.foldl_cons, ih hbs, State.clearBrace_get]
    by_cases hy : y = x
    · subst hy
      simp [hx]
    · simp [hy]

/-- R120: one brace change for each brace named that is Stalled. -/
theorem State.foldl_clearBrace_eq (bs : List Brace) (hnodup : bs.Nodup) (s : State) : bs.foldl State.clearBrace s = { s with
    brc := { s.brc with braces := (bs.foldl State.clearBrace s).brc.braces }
    hand := { s.hand with
      demandEvents := s.hand.demandEvents ++ (bs.filter fun y => s.braceState y == .stalled).map fun _ => .braceChange }
    } := by
  induction bs generalizing s with
  | nil => simp
  | cons x bs ih =>
    obtain ⟨hx, hbs⟩ := List.nodup_cons.mp hnodup
    have hothers : (bs.filter fun y => (s.clearBrace x).braceState y == .stalled)
        = bs.filter fun y => s.braceState y == .stalled := by
      refine List.filter_congr fun y hy => ?_
      rw [State.braceState, State.clearBrace_get, if_neg (ne_of_mem_of_not_mem hy hx)]
      rfl
    have hsplit : ((x :: bs).filter fun y => s.braceState y == .stalled) =
        ([x].filter fun y => s.braceState y == .stalled) ++ bs.filter fun y => s.braceState y == .stalled :=
      List.filter_append (l₁ := [x]) (l₂ := bs)
    rw [List.foldl_cons, ih hbs, hothers, hsplit]
    generalize (bs.foldl State.clearBrace (s.clearBrace x)).brc.braces = cleared
    rw [s.clearBrace_eq x, List.map_append, List.append_assoc]

end

/-- The braces a field names (R120). -/
theorem bracesOf_named {n : Nat} (h : n ≤ 2) :
    bracesOf n = some (([.east, .west] : List Brace).filter fun y => n == 0 || n == braceNumber y) := by
  interval_cases n <;> rfl

theorem bracesOf_unnamed {n : Nat} (h : 2 < n) : bracesOf n = none := by
  unfold bracesOf
  split <;> simp_all

theorem requestRow_braceClear {r : Request} (h : codeOfByte r.code = some .braceClear) : requestRow r = .braceClear := by
  simp [requestRow, h]

theorem exec_braceClear {s : State} {p : Port} {r : Request} (h : s.Served p r .braceClear) {t : State} {a : Answer}
    (hs : settleBraceClear p r (s.takeHead p) = (t, some a)) : exec .braceClear s = .next (t.reply p r.tag a) :=
  serve_answers h (requestRow_braceClear h.code) hs

/-- Settles O50: the expiry of an operation timer, a cut, and BRACE CLEAR. -/
theorem operationsStopAndStallsClear : Obligations.OperationsStopAndStallsClear := by
  refine ⟨fun s x hr => ⟨fun hstopped => ?_, fun d hruns hop => ?expiry⟩, fun s c rest hr hcuts => ?cut,
    fun s p r v h hbody => ?clear⟩
  · rw [exec_operationTimerExpiry hr, State.operationExpires_stopped hstopped]
  case expiry =>
    intro done
    refine ⟨_, exec_operationTimerExpiry hr x, ?_⟩
    rw [State.operationExpires_running hruns hop, State.stallOperation_eq, State.reportStalls_eq]
    have hstalled : ∀ y, (s.stalled d).braceState y = .stalled ↔ ¬ done y := fun y => by
      rw [State.braceState, State.stalled_get, BraceRec.stall_stalled]
    refine ⟨rfl, rfl, rfl, rfl,
      fun y => ⟨_, s.stalled_get d y, fun hdone => (if_pos hdone).trans hdone, fun hnot => if_neg hnot⟩,
      (s.stalled d).stalledBraces, List.filter_sublist, fun y => State.mem_stalledBraces.trans (hstalled y), rfl⟩
  case cut =>
    intro s0
    rw [exec_cutShort hr hcuts]
    refine ⟨fun hop => ?_, fun d hop => ⟨_, rfl, ?_⟩⟩
    · exact congrArg Host.Outcome.next (State.cutOperation_none (s := s0) hop)
    · have hget : ∀ y, s0.cutOperation.brc.braces.get y = (s.brc.braces.get y).cut d := fun y => by
        rw [State.cutOperation_operating (s := s0) hop]
        exact s0.mapBraces_get (fun b => b.cut d) y
      have hcut := State.cutOperation_operating (s := s0) hop
      refine ⟨hcut ▸ rfl, hcut ▸ rfl, hcut ▸ rfl, hcut ▸ rfl, hcut ▸ rfl,
        fun y => ⟨_, hget y, fun hdone => (if_pos hdone).trans hdone, fun hnot => ?_⟩⟩
      rw [if_neg hnot]
      refine ⟨fun hread => hread ▸ rfl, fun hread => hread ▸ rfl, fun hread => ?_⟩
      rcases hread with hread | hread <;> exact hread ▸ rfl
  case clear =>
    have hfield : fieldAt r.body 0 = v.toNat := by rw [hbody]; rfl
    refine ⟨fun hlarge => exec_braceClear h ?_, fun hsmall => ?_⟩
    · rw [settleBraceClear, hfield, bracesOf_unnamed hlarge]
      rfl
    · have hnamed := bracesOf_named hsmall
      set bs := ([.east, .west] : List Brace).filter fun y => v.toNat == 0 || v.toNat == braceNumber y with hbs
      have hnodup : bs.Nodup := List.Nodup.filter _ (by decide)
      have hmem : ∀ y, y ∈ bs ↔ v.toNat = 0 ∨ v.toNat = braceNumber y := fun y => by cases y <;> simp [hbs]
      have hchanges := State.foldl_clearBrace_eq bs hnodup (s.takeHead p)
      have hget : ∀ y, (bs.foldl State.clearBrace (s.takeHead p)).brc.braces.get y =
          if y ∈ bs then (s.brc.braces.get y).cleared else s.brc.braces.get y :=
        State.foldl_clearBrace_get bs hnodup (s.takeHead p)
      refine ⟨bs.foldl State.clearBrace (s.takeHead p), exec_braceClear h ?_, ?_, fun y => ⟨fun hkept => ?_,
        fun hst hy => ?_⟩⟩
      · rw [settleBraceClear, hfield, hnamed]
        rfl
      · rw [hbs, List.filter_filter] at hchanges
        exact hchanges
      · rw [hget y]
        rcases hkept with hst | hy
        · rw [BraceRec.cleared_other hst, ite_self]
        · rw [if_neg ((hmem y).not.mpr (not_or.mpr hy))]
      · rw [hget y, if_pos ((hmem y).mpr hy), BraceRec.cleared_stalled hst]
        cases (s.brc.braces.get y).reading <;> rfl

end Sys2Proof.Machine
end

section
/-! SUPPORT. The portal braces (chapter 7): the test of the brace demand and what BRC does about a standing one. It
settles O51. -/

namespace Sys2Proof.Machine

/-! ## The event and what its test goes by (R123, R125) -/

section
variable {s : State} {src : DemandSource}

theorem exec_demandConditionTest (hr : s.slu.heldInReset = false) (src : DemandSource) :
    exec (.demandConditionTest src) s = .next (s.takeDemandEvent src) :=
  congrArg Host.Outcome.next (if_neg (by simp [hr]))

theorem State.demandWaits_iff : s.demandWaits src = true
    ↔ (∃ m, src = .bodyChange m) ∧ DemandEvent.holdReport ∈ s.hand.demandEvents := by
  cases src <;> simp [State.demandWaits]

/-! ## The test (R123) -/

/-- The state in which a demand stands: the flag set, and BRACE DEMAND posted where the flag was clear. -/
def State.standDemand (s : State) (mean : Int) : State := if s.brc.demand then s else s.setDemand mean

theorem State.standDemand_brc (s : State) (mean : Int) : (s.standDemand mean).brc = { s.brc with demand := true } := by
  unfold State.standDemand
  split
  · next h => rw [← h]
  · rfl

theorem State.standDemand_mayEngage (s : State) (mean : Int) : (s.standDemand mean).mayEngage = s.mayEngage := by
  unfold State.standDemand
  split <;> rfl

variable {v : DemandView}

theorem State.testDemand_quiet (hclear : s.brc.demand = false) (h : ¬ s.demandCondition v = true) :
    s.testDemand v = s := by
  rw [State.testDemand, if_neg (by simp [hclear]), if_neg h]

theorem State.testDemand_ends (hset : s.brc.demand = true)
    (h : s.bothBraces .engaged = true ∨ ¬ s.zt.panelOverEngagedNeed v.body = true) :
    s.testDemand v = s.withBrc { s.brc with demand := false, startPending := false } := by
  have hends : (s.bothBraces .engaged || !s.zt.panelOverEngagedNeed v.body) = true := by simpa using h
  rw [State.testDemand, if_pos hset, if_pos hends]

theorem State.testDemand_stands (hpanel : s.zt.panelOverEngagedNeed v.body = true)
    (hengaged : ¬ s.bothBraces .engaged = true) (h : s.brc.demand = true ∨ s.windNeedsBraces v = true) :
    s.testDemand v = (s.standDemand v.mean).actOnDemand := by
  by_cases hset : s.brc.demand = true
  · have hstays : ¬ (s.bothBraces .engaged || !s.zt.panelOverEngagedNeed v.body) = true := by simp [hpanel, hengaged]
    rw [State.testDemand, if_pos hset, if_neg hstays, State.standDemand, if_pos hset]
  · have hcondition : s.demandCondition v = true := by
      simp [State.demandCondition, hpanel, hengaged, h.resolve_left hset]
    rw [State.testDemand, if_neg hset, if_pos hcondition, State.standDemand, if_neg hset]

/-! ## A standing demand (R124) -/

theorem State.actOnDemand_engaging (hop : s.brc.operation = some .engage) : s.actOnDemand = s := by
  simp only [State.actOnDemand, hop]

theorem State.actOnDemand_withdrawing (hop : s.brc.operation = some .withdraw) :
    s.actOnDemand = s.withBrc { s.brc with startPending := true } := by
  simp only [State.actOnDemand, hop]
  rfl

theorem State.actOnDemand_free (hop : s.brc.operation = none) (h : s.mayEngage = true) :
    s.actOnDemand = s.startOperation .engage false := by
  simp only [State.actOnDemand, hop, if_pos h]

theorem State.actOnDemand_barred (hop : s.brc.operation = none) (h : ¬ s.mayEngage = true) :
    s.actOnDemand = s.withBrc { s.brc with startPending := true } := by
  simp only [State.actOnDemand, hop, if_neg h]
  rfl

end

/-- Settles O51: the event taken, the test by what it hands over, and what a standing demand brings. -/
theorem demandIsTestedAndServed : Obligations.DemandIsTestedAndServed := by
  intro s src ev rest hr htaken s0 body wind panelOver engaged windy barred act waits u stands
  have hwaits : s.demandWaits src = true ↔ waits := State.demandWaits_iff
  have hact : act = .next (s.takeDemandEvent src) := exec_demandConditionTest hr src
  refine ⟨fun hw => ?_, fun hw => ?_⟩
  · rw [hact, State.takeDemandEvent_of_waits (hwaits.mpr hw)]
  · have hnow : s.demandWaits src = false := Bool.eq_false_iff.mpr (hwaits.not.mpr hw)
    have htest : act = .next (s0.testDemand (s.viewOn ev)) := by
      rw [hact, State.takeDemandEvent_of_taken hnow htaken]
      rfl
    have hbody : ∀ m, (s.viewOn ev).body.get m = body m := by
      intro m
      cases ev with
      | bodyChange x => exact PerMover.get_set _ _ _ _
      | closure | braceChange | holdReport | deviceChange | commit => rfl
    have hmean : (s.viewOn ev).mean = wind.1 := by cases ev <;> rfl
    have hwindy : s0.windNeedsBraces (s.viewOn ev) = true ↔ windy := by
      rw [State.windNeedsBraces_iff]
      cases ev <;> rfl
    have hpanel : s0.zt.panelOverEngagedNeed (s.viewOn ev).body = true ↔ panelOver := by
      rw [ZoneTable.panelOverEngagedNeed_iff]
      simp only [hbody]
      rfl
    have hengaged : s0.bothBraces .engaged = true ↔ engaged := State.bothBraces_iff
    have hcondition : s0.demandCondition (s.viewOn ev) = true ↔ panelOver ∧ ¬ engaged ∧ windy := by
      simp only [State.demandCondition, Bool.and_eq_true, Bool.not_eq_true', ← Bool.not_eq_true, hpanel, hengaged, hwindy,
        and_assoc]
    have hu : s0.standDemand (s.viewOn ev).mean = u := by rw [hmean]; rfl
    have hbrc : u.brc = { s.brc with demand := true } := hu ▸ s0.standDemand_brc _
    have hmay : u.mayEngage = true ↔ ¬ barred := by
      rw [← hu, State.standDemand_mayEngage]
      exact s0.mayEngage_iff
    have hstands : stands → act = .next u.actOnDemand := by
      rintro ⟨hover, hnot, h⟩
      rw [htest, State.testDemand_stands (hpanel.mpr hover) (hengaged.not.mpr hnot) (h.imp_right hwindy.mpr), hu]
    refine ⟨fun hclear hnot => ?_, fun hset hends => ?_, fun hst hop => ?_, fun hst hop => ?_, fun hst hop hfree => ?_,
      fun hst hop hbar => ?_⟩
    · rw [htest, State.testDemand_quiet (s := s0) hclear (hcondition.not.mpr hnot)]
    · rw [htest, State.testDemand_ends (s := s0) hset (hends.imp hengaged.mpr hpanel.not.mpr)]
      rfl
    · rw [hstands hst, State.actOnDemand_engaging (hbrc ▸ hop)]
    · rw [hstands hst, State.actOnDemand_withdrawing (hbrc ▸ hop), hbrc]
      rfl
    · rw [hstands hst, State.actOnDemand_free (hbrc ▸ hop) (hmay.mpr hfree)]
    · rw [hstands hst, State.actOnDemand_barred (hbrc ▸ hop) (hmay.not.mpr (not_not.mpr hbar)), hbrc]
      rfl

end Sys2Proof.Machine
end

section
/-! SUPPORT. Wind monitoring (chapter 8): a pulse, and what an interval closure makes of each anemometer, the history,
the wind state and the hand-overs. It settles O52. -/

namespace Sys2Proof.Machine

section
variable {s : State}

theorem exec_anemometerPulse (hr : s.slu.heldInReset = false) (x : Anemometer) : exec (.anemometerPulse x) s
    = .next (s.withWm { s.wm with anemometers := s.wm.anemometers.modify x AnemometerRec.count1 }) :=
  congrArg Host.Outcome.next (if_neg (by simp [hr]))

theorem exec_intervalClosure (hr : s.slu.heldInReset = false) : exec .intervalClosure s
    = .next ((s.withWm (s.wm.close s.cs.active.general)).handClosure s.wm.state) :=
  congrArg Host.Outcome.next (if_neg (by simp [hr]))

/-! ## What a closure hands on (R132) -/

theorem raisesWindLimit_iff {before after : WindState} : raisesWindLimit before after = true
    ↔ (before = .calm ∨ before = .reduced) ∧ (after = .limit ∨ after = .unknown) := by
  rw [raisesWindLimit, Bool.and_eq_true, WindState.barsPanels_iff]
  cases before <;> simp [WindState.barsPanels]

theorem State.handClosure_hand (s : State) (before : WindState) : (s.handClosure before).hand = { s.hand with
    postings := s.hand.postings ++ (if before = s.wm.state then [] else
      [⟨.wm, [.roof, .pitch, .venue], ⟨.windState, 4, .absent, windStateNumber s.wm.state⟩⟩])
    causes := s.hand.causes ++ (if (before = .calm ∨ before = .reduced)
        ∧ (s.wm.state = .limit ∨ s.wm.state = .unknown) then [⟨.windLimit, .panels, CauseData.nothing⟩] else [])
    demandEvents := s.hand.demandEvents ++ [.closure s.wm.mean s.wm.gust s.wm.state] } := by
  simp only [State.handClosure, raisesWindLimit_iff, allPorts]
  split <;> split <;> simp [State.raise]

theorem State.handClosure_eq (s : State) (before : WindState) :
    s.handClosure before = { s with hand := (s.handClosure before).hand } := by
  simp only [State.handClosure]
  split <;> split <;> rfl

end

/-! ## An anemometer (R129) -/

section
variable {a : AnemometerRec} {value other : Int} {failed : Bool}

theorem AnemometerRec.close_pulsed (h : a.count ≠ 0) : a.close value other failed = ⟨0, value, 0, false⟩ :=
  if_pos h

theorem AnemometerRec.close_stuck (h : a.count = 0) (ho : failed = true ∨ 30 ≤ other) : a.close value other failed
    = ⟨0, value, min 30 (a.stuck + 1), a.failed || decide (30 ≤ a.stuck + 1)⟩ := by
  rw [AnemometerRec.close, if_neg (not_not.mpr h), if_pos ho]

theorem AnemometerRec.close_still (h : a.count = 0) (hf : failed = false) (ho : other < 30) :
    a.close value other failed = ⟨0, value, 0, a.failed⟩ := by
  rw [AnemometerRec.close, if_neg (not_not.mpr h), if_neg (by simp [hf, ho])]

end

/-! ## The combined value, the history, the mean and the gust (R130) -/

section
variable {t : PerAnemometer AnemometerRec} {h : List Int} {v : Int}

theorem combinedValue_none (hf : (t.get .first).failed = true) (hg : (t.get .second).failed = true) :
    combinedValue t = none := by
  simp only [PerAnemometer.get] at hf hg
  simp only [combinedValue, hf, hg]

theorem combinedValue_some
    (hv : ((t.get .first).failed = false ∧ (t.get .second).failed = false
        ∧ v = max (t.get .first).value (t.get .second).value)
      ∨ ((t.get .first).failed = true ∧ (t.get .second).failed = false ∧ v = (t.get .second).value)
      ∨ ((t.get .first).failed = false ∧ (t.get .second).failed = true ∧ v = (t.get .first).value)) :
    combinedValue t = some v := by
  simp only [PerAnemometer.get] at hv
  obtain ⟨hf, hg, rfl⟩ | ⟨hf, hg, rfl⟩ | ⟨hf, hg, rfl⟩ := hv <;> simp only [combinedValue, hf, hg]

theorem enterHistory_room (hlen : h.length < 60) : enterHistory h (some v) = h ++ [v] :=
  if_neg (by simp; omega)

theorem enterHistory_full (hlen : 60 ≤ h.length) : enterHistory h (some v) = (h ++ [v]).drop 1 :=
  if_pos (by simp; omega)

theorem meanOf_of_ne_nil (hh : h ≠ []) : meanOf h = h.sum / (h.length : Int) :=
  if_neg (by simpa using hh)

theorem greatest_isGreatest {xs : List Int} (hxs : xs ≠ []) : greatest xs ∈ xs ∧ ∀ x ∈ xs, x ≤ greatest xs := by
  obtain ⟨m, hm⟩ := Option.ne_none_iff_exists'.mp (mt List.max?_eq_none_iff.mp hxs)
  rw [greatest, hm]
  exact List.max?_eq_some_iff.mp hm

theorem gustOf_isGreatest (hh : h ≠ []) : gustOf h ∈ h.drop (h.length - 3) ∧ ∀ x ∈ h.drop (h.length - 3), x ≤ gustOf h := by
  refine greatest_isGreatest fun hnil => ?_
  have hlen := List.length_pos_iff.mpr hh
  have := List.drop_eq_nil_iff.mp hnil
  omega

end

/-! ## The wind state (R131) -/

section
variable {g : General} {mean gust : Int} {st : WindState} {calm : Nat}

theorem limitTest_iff : limitTest g mean gust = true ↔ g.limitMean ≤ mean ∨ g.limitGust ≤ gust := by
  simp [limitTest]

theorem releaseTest_iff : releaseTest g mean gust = true ↔ mean < g.releaseMean ∧ gust < g.releaseGust := by
  simp [releaseTest]

theorem settleWind_rises (hst : st ≠ .limit) (h : g.limitMean ≤ mean ∨ g.limitGust ≤ gust) :
    settleWind g mean gust st calm = (.limit, 0) := by
  cases st with
  | limit => exact absurd rfl hst
  | unknown | calm | reduced => exact if_pos (limitTest_iff.mpr h)

theorem settleWind_of_unknown_or_calm (hst : st = .unknown ∨ st = .calm)
    (h : ¬ (g.limitMean ≤ mean ∨ g.limitGust ≤ gust)) : settleWind g mean gust st calm
      = if g.reducedThreshold ≤ mean then (.reduced, 0) else (.calm, 0) := by
  obtain rfl | rfl := hst <;> exact if_neg (limitTest_iff.not.mpr h)

theorem settleWind_of_reduced (hst : st = .reduced) (h : ¬ (g.limitMean ≤ mean ∨ g.limitGust ≤ gust)) :
    settleWind g mean gust st calm = if mean < g.calmThreshold then (.calm, 0) else (.reduced, 0) := by
  rw [hst]
  exact if_neg (limitTest_iff.not.mpr h)

theorem settleWind_unreleased (hst : st = .limit) (h : ¬ (mean < g.releaseMean ∧ gust < g.releaseGust)) :
    settleWind g mean gust st calm = (.limit, 0) := by
  rw [hst]
  exact if_neg (releaseTest_iff.not.mpr h)

theorem settleWind_counts (hst : st = .limit) (h : mean < g.releaseMean ∧ gust < g.releaseGust)
    (hc : (calm : Int) + 1 < g.releaseCount) : settleWind g mean gust st calm = (.limit, calm + 1) := by
  rw [hst]
  exact (if_pos (releaseTest_iff.mpr h)).trans (if_neg (not_le.mpr hc))

theorem settleWind_releases (hst : st = .limit) (h : mean < g.releaseMean ∧ gust < g.releaseGust)
    (hc : g.releaseCount ≤ (calm : Int) + 1) :
    settleWind g mean gust st calm = (if g.calmThreshold ≤ mean then .reduced else .calm, 0) := by
  rw [hst]
  exact (if_pos (releaseTest_iff.mpr h)).trans (if_pos hc)

/-- R131, before the table: too short a history or two failed anemometers. -/
def Wm.windUnknown (w : Wm) : Prop :=
  w.history.length < 10 ∨ ((w.anemometers.get .first).failed = true ∧ (w.anemometers.get .second).failed = true)

variable {w : Wm}

theorem Wm.close_unknown (h : (w.close g).windUnknown) : (w.close g).state = .unknown ∧ (w.close g).calmCount = 0 :=
  Prod.mk.inj (if_pos h)

theorem Wm.close_settled (h : ¬ (w.close g).windUnknown) {n : Nat}
    (hs : settleWind g (w.close g).mean (w.close g).gust w.state w.calmCount = (st, n)) :
    (w.close g).state = st ∧ (w.close g).calmCount = n :=
  Prod.mk.inj ((if_neg h).trans hs)

end

/-! ## The closure's anemometers and history -/

section
variable {w : Wm} {g : General}

theorem Wm.close_anemometer (x : Anemometer) : (w.close g).anemometers.get x
    = (w.anemometers.get x).close (windValue g.calibration (w.anemometers.get x).count)
        (windValue g.calibration (w.anemometers.get (otherAnemometer x)).count)
        (w.anemometers.get (otherAnemometer x)).failed :=
  PerAnemometer.get_ofFn _ x

theorem Wm.close_history : (w.close g).history = enterHistory w.history (combinedValue (w.close g).anemometers) := rfl

theorem Wm.close_mean : (w.close g).mean = meanOf (w.close g).history := rfl

theorem Wm.close_gust : (w.close g).gust = gustOf (w.close g).history := rfl

end

/-- Settles O52: a pulse counted, and a closure by its anemometers, its history, the table of R131 and what it hands on. -/
theorem windClosureSettlesTheWind : Obligations.WindClosureSettlesTheWind := by
  refine ⟨fun s x hr => exec_anemometerPulse hr x, fun s hr => ⟨_, exec_intervalClosure hr, ?_⟩⟩
  have hwm : ((s.withWm (s.wm.close s.cs.active.general)).handClosure s.wm.state).wm = s.wm.close s.cs.active.general := by
    simp
  refine ⟨?frame, ?_⟩
  case frame => rw [hwm]; exact State.handClosure_eq _ _
  rw [State.handClosure_hand, hwm]
  refine ⟨fun x => ?anemometer, ⟨fun hf hg => ?emptied, fun v hv => ?entered⟩, fun hnil => ?empty, fun hne => ?mean,
    ⟨Wm.close_unknown, fun hshort => ?table⟩, rfl⟩
  case anemometer =>
    intro k o value
    have hclose : (s.wm.close s.cs.active.general).anemometers.get x = k.close (value k.count) (value o.count) o.failed :=
      Wm.close_anemometer x
    rw [hclose]
    exact ⟨AnemometerRec.close_pulsed, fun h ho => by rw [AnemometerRec.close_stuck h ho.symm, h],
      fun h ho hf => by rw [AnemometerRec.close_still h hf ho, h]⟩
  case emptied => rw [Wm.close_history, combinedValue_none hf hg]; rfl
  case entered =>
    rw [Wm.close_history, combinedValue_some hv]
    exact ⟨enterHistory_room, enterHistory_full⟩
  case empty => rw [Wm.close_mean, Wm.close_gust, hnil]; exact ⟨rfl, rfl⟩
  case mean =>
    rw [Wm.close_mean, Wm.close_gust]
    exact ⟨meanOf_of_ne_nil hne, gustOf_isGreatest hne⟩
  case table =>
    have hbecomes := fun {st n} => Wm.close_settled (st := st) (n := n) hshort
    refine ⟨fun hst hl => hbecomes (settleWind_rises hst hl), fun hst hl => ?_, fun hst hl => ?_,
      fun hst hr => ?_, fun hst hr => ?_⟩
    · have hs := settleWind_of_unknown_or_calm (calm := s.wm.calmCount) hst hl
      exact ⟨fun h => hbecomes (hs.trans (if_pos h)), fun h => hbecomes (hs.trans (if_neg (not_le.mpr h)))⟩
    · have hs := settleWind_of_reduced (calm := s.wm.calmCount) hst hl
      exact ⟨fun h => hbecomes (hs.trans (if_pos h)), fun h => hbecomes (hs.trans (if_neg (not_lt.mpr h)))⟩
    · exact hbecomes (settleWind_unreleased hst hr)
    · refine ⟨fun hc => hbecomes (settleWind_counts hst hr hc), fun hc => ?_⟩
      have hs := settleWind_releases hst hr hc
      exact ⟨fun h => hbecomes (by rw [hs, if_pos h]), fun h => hbecomes (by rw [hs, if_neg (not_le.mpr h)])⟩

end Sys2Proof.Machine
end

section
/-! SUPPORT. The resets (R146 to R148, R166): what each of the four resets makes of the part, the assertion of the reset line
and its release before the filter, and the request RESET. It settles O4, O5 and O6. -/

namespace Sys2Proof.Machine

/-- A command the part takes only while it runs, where it runs (R146, log 10). -/
theorem State.whileRunning_of_running {s : State} (hr : s.slu.heldInReset = false) (f : State → State) :
    s.whileRunning f = .next (f s) := congrArg Host.Outcome.next (if_neg (by simp [hr]))

/-- The same command where the reset line holds the part (R146, log 10). -/
theorem State.whileRunning_of_held {s : State} (hheld : s.slu.heldInReset = true) (f : State → State) :
    s.whileRunning f = .next s := congrArg Host.Outcome.next (if_pos hheld)

section
variable {s : State}

/-! ## The fields a reset's kind sets, and the notice queues after it (R146, R147, R166) -/

theorem State.resetTo_token (s : State) (k : ResetKind) : (s.resetTo k).dsu.token = k.token := rfl

theorem State.resetTo_flags (s : State) (k : ResetKind) : (s.resetTo k).dsu.flags = k.flags := rfl

theorem State.resetTo_heldInReset (s : State) (k : ResetKind) : (s.resetTo k).slu.heldInReset = k.held := rfl

theorem State.resetTo_resetFilter (s : State) (k : ResetKind) : (s.resetTo k).slu.resetFilter = k.filter := rfl

theorem State.resetTo_resetAsserted (s : State) (k : ResetKind) :
    (s.resetTo k).slu.resetAsserted = s.slu.resetAsserted := rfl

theorem State.resetTo_notices_held (k : ResetKind) (h : k.held = true) (p : Port) :
    (s.resetTo k).nu.get p = ⟨[], false, false⟩ := by
  rw [State.resetTo_nu, PerPort.get_ofFn, if_pos h]
  rfl

theorem State.resetTo_notices_started (k : ResetKind) (h : k.held = false) (p : Port) :
    (s.resetTo k).nu.get p = ⟨[⟨.restarted, 6, .absent, k.flags.value⟩], false, true⟩ := by
  rw [State.resetTo_nu, PerPort.get_ofFn, if_neg (by simp [h])]
  rfl

/-! ## The resets (R146 to R148) -/

theorem exec_powerOnReset (s : State) : exec .powerOnReset s
    = .next (s.resetTo ⟨false, ⟨true, false, false, false⟩, .initial, s.slu.resetAsserted, false⟩) := rfl

theorem exec_lineReset (hr : s.slu.heldInReset = false) (hfilter : s.slu.resetFilter = true) :
    exec .lineReset s = .next s.lineReset :=
  (State.whileRunning_of_running hr _).trans (congrArg Host.Outcome.next (if_pos hfilter))

theorem exec_resetLineAssertion (hr : s.slu.heldInReset = false) (hreleased : s.slu.resetAsserted = false) :
    exec .resetLineAssertion s = .next (s.withSlu { s.slu with resetAsserted := true, resetFilter := true }) :=
  (State.whileRunning_of_running hr fun t =>
    if t.slu.resetAsserted then t else t.withSlu { t.slu with resetAsserted := true, resetFilter := true }).trans
      (congrArg Host.Outcome.next (if_neg (by simp [hreleased])))

theorem exec_resetLineRelease_running (hr : s.slu.heldInReset = false) :
    exec .resetLineRelease s = .next s.lineReleased := congrArg Host.Outcome.next (if_neg (by simp [hr]))

theorem exec_resetLineRelease_held (hheld : s.slu.heldInReset = true) :
    exec .resetLineRelease s = .next s.endReset := congrArg Host.Outcome.next (if_pos hheld)

theorem exec_commandedReset (hr : s.slu.heldInReset = false) (hdue : s.spu.handler = .resetDue) :
    exec .commandedReset s = .next s.commandedReset :=
  (State.whileRunning_of_running hr _).trans (congrArg Host.Outcome.next (if_pos hdue))

end

/-- Settles O4: both resets set every block by `State.resetTo_blocks`; the rest is what their kinds say. -/
theorem powerOnAndLineResets : Obligations.PowerOnAndLineResets := by
  refine ⟨fun s => ⟨_, exec_powerOnReset s, s.resetTo_blocks _, ?power⟩,
    fun s hr hfilter => ⟨_, exec_lineReset hr hfilter, s.resetTo_blocks _, ?line⟩⟩
  case power => exact ⟨s.resetTo_token _, s.resetTo_flags _, s.resetTo_fr _, s.resetTo_heldInReset _,
    s.resetTo_resetAsserted _, State.resetTo_notices_started _ rfl⟩
  case line => exact ⟨s.resetTo_token _, s.resetTo_fr _, s.resetTo_flags _, s.resetTo_heldInReset _,
    s.resetTo_resetFilter _, s.resetTo_resetAsserted _, State.resetTo_notices_held _ rfl⟩

/-- Settles O5: the end of a line reset sets the blocks of the state before the release, by `State.lineReleased_blocks`. -/
theorem resetLineAssertedAndReleased : Obligations.ResetLineAssertedAndReleased := by
  refine ⟨fun s => exec_resetLineAssertion, fun s => exec_resetLineRelease_running, fun s hheld =>
    ⟨_, exec_resetLineRelease_held hheld, State.lineReleased_blocks (s.lineReleased.resetTo_blocks _), ?ended⟩⟩
  case ended => exact ⟨State.resetTo_token _ _, State.resetTo_fr _ _, State.resetTo_flags _ _,
    State.resetTo_heldInReset _ _, State.resetTo_resetAsserted _ _, State.resetTo_resetFilter _ _,
    State.resetTo_notices_started _ rfl⟩

/-! ## The request RESET (R148) -/

section
variable {s : State} {p : Port} {r : Request}

theorem requestRow_reset (h : codeOfByte r.code = some .reset) : requestRow r = .reset := by
  simp [requestRow, h]

theorem exec_reset (h : s.Served p r .reset) {t : State} {a : Answer} (hs : settleReset p r (s.takeHead p) = (t, some a)) :
    exec .reset s = .next (t.reply p r.tag a) :=
  serve_answers h (requestRow_reset h.code) hs

theorem settleReset_moving (hl : s.dsu.state ≠ .locked) (h : s.allAtRest = false) :
    settleReset p r s = (s, some ⟨.state, false, []⟩) :=
  (if_neg hl).trans (if_neg (by simp [h]))

theorem settleReset_atRest (hl : s.dsu.state ≠ .locked) (h : s.allAtRest = true) :
    settleReset p r s = (s.withSpu { s.spu with handler := .resetAccepted }, some ⟨.done, false, []⟩) :=
  (if_neg hl).trans (if_pos h)

/-- The reply to an accepted RESET is marked, and joins the output of the port its head was taken from (R148, R152). -/
theorem State.takeHead_resetReply (s : State) (p : Port) (tag : Byte) :
    ((s.takeHead p).withSpu { (s.takeHead p).spu with handler := .resetAccepted }).reply p tag ⟨.done, false, []⟩
      = { s with spu := ⟨s.spu.ports.set p { s.spu.ports.get p with
          queue := (s.spu.ports.get p).queue.tail
          output := (s.spu.ports.get p).output ++ [⟨.resetAccepted, p, tag, 0, []⟩] }, p, .resetAccepted⟩ } := by
  simp [State.reply, State.putFrame, State.setPort, State.takeHead, State.withSpu, Answer.code, outcomeNumber]

end

/-- Settles O6: the refusal, the acceptance with its marked reply, and the commanded reset. -/
theorem commandedResetFollowsItsReply : Obligations.CommandedResetFollowsItsReply := by
  refine ⟨fun s p r h hl hmoving => ?refused, fun s p r h hl hrest => ?accepted,
    fun s hr hdue => ⟨_, exec_commandedReset hr hdue, s.resetTo_blocks _, ?reset⟩⟩
  case refused => exact exec_reset h (settleReset_moving (s := s.takeHead p) hl hmoving)
  case accepted => rw [exec_reset h (settleReset_atRest (s := s.takeHead p) hl hrest), State.takeHead_resetReply]
  case reset => exact ⟨s.resetTo_token _, s.resetTo_fr _, s.resetTo_flags _, s.resetTo_heldInReset _,
    State.resetTo_notices_started _ rfl⟩

end Sys2Proof.Machine
end

section
/-! SUPPORT. The Device State Unit (chapter 9): the relay test with its phases, its failures and ARM, the changes of device
state, and the requests STANDBY and PERMITS. It settles O43, O44 and O45. -/

namespace Sys2Proof.Machine

/-! ## The phases of the relay test (R138) -/

section
variable {s : State} {m n : Mover} {ph : Phase}

/-- A phase begins: the relay's command, the arming step and the step timer (R138). -/
theorem State.beginPhase_eq (s : State) (m : Mover) (ph : Phase) : s.beginPhase (m, ph) = { s with
    msu := s.msu.set m { s.msu.get m with relayClosed := ph.commandsClosed }
    dsu := { s.dsu with armingStep := some (m, ph), stepTimer := true } } := rfl

theorem State.beginPhase_readback (s : State) (m : Mover) (ph : Phase) :
    ((s.beginPhase (m, ph)).msu.get m).readbackClosed = (s.msu.get m).readbackClosed := by
  simp [State.beginPhase_eq]

/-- A phase that follows another of the same relay leaves no trace of it. -/
theorem State.beginPhase_beginPhase (s : State) (m : Mover) (ph ph' : Phase) :
    (s.beginPhase (m, ph)).beginPhase (m, ph') = s.beginPhase (m, ph') := by
  simp [State.beginPhase_eq]

theorem Phase.commandsClosed_iff {level : Bool} :
    ph.commandsClosed = level ↔ ph = if level = true then .close else .open := by
  cases ph <;> cases level <;> simp [Phase.commandsClosed]

/-- A phase whose commanded state the readback does not show waits. -/
theorem continueTest_waits (fuel : Nat) (h : (s.msu.get m).readbackClosed ≠ ph.commandsClosed) :
    continueTest (fuel + 1) (some (m, ph)) s = s.beginPhase (m, ph) :=
  if_neg (by rwa [State.beginPhase_readback])

/-- A phase whose commanded state the readback already shows passes at once. -/
theorem continueTest_passes (fuel : Nat) (h : (s.msu.get m).readbackClosed = ph.commandsClosed) :
    continueTest (fuel + 1) (some (m, ph)) s = continueTest fuel (nextPhase (m, ph)) (s.beginPhase (m, ph)) :=
  if_pos (by rwa [State.beginPhase_readback])

/-- A relay's test begins with its close phase, or with its open phase where the readback shows closed (R138). -/
theorem continueTest_close (fuel : Nat) : continueTest (fuel + 2) (some (m, .close)) s
    = s.beginPhase (m, if (s.msu.get m).readbackClosed = true then .open else .close) := by
  by_cases hc : (s.msu.get m).readbackClosed = true
  · have hopen : ((s.beginPhase (m, .close)).msu.get m).readbackClosed ≠ Phase.open.commandsClosed := by
      rw [State.beginPhase_readback, hc]
      decide
    rw [if_pos hc, continueTest_passes _ hc, nextPhase, continueTest_waits _ hopen, State.beginPhase_beginPhase]
  · rw [if_neg hc, continueTest_waits _ hc]

/-- The same, field by field. -/
theorem continueTest_close_eq (fuel : Nat) {c : Bool} (hc : (s.msu.get m).readbackClosed = c) :
    continueTest (fuel + 2) (some (m, .close)) s = { s with
      msu := s.msu.set m { s.msu.get m with relayClosed := !c }
      dsu := { s.dsu with armingStep := some (m, if c then .open else .close), stepTimer := true } } := by
  rw [continueTest_close, hc]
  cases c <;> rfl

theorem nextPhase_open (h : moverNumber n = moverNumber m + 1) : nextPhase (m, .open) = some (n, .close) := by
  simp [nextPhase, ← h, moverOfNumber_iff.mpr rfl]

end

/-! ## The readback contact (R104, R138) -/

section
variable {s : State} {m n : Mover} {ph : Phase} {level : Bool}

theorem State.contactShows_passes (h : s.dsu.armingStep = some (m, ph)) (hl : ph.commandsClosed = level) :
    s.contactShows m level = continueTest 10 (nextPhase (m, ph)) s := by
  simp only [State.contactShows, h, hl, and_self, if_true]

/-- Only the commanded state of the phase under test, shown by its own relay's contact, passes a phase. -/
theorem State.contactShows_other (h : s.dsu.armingStep ≠ some (m, if level = true then .close else .open)) :
    s.contactShows m level = s := by
  unfold State.contactShows
  split
  · next x hx => exact if_neg fun ⟨hm, hl⟩ => h (by rw [hx, ← hm, ← Phase.commandsClosed_iff.mp hl])
  · rfl

theorem exec_readbackContactChange_held (hheld : s.slu.heldInReset = true) (m : Mover) (level : Bool) :
    exec (.readbackContactChange m level) s = .next (s.setMover m { s.msu.get m with readbackClosed := level }) :=
  State.whileRunning_of_held (s := s.setMover m { s.msu.get m with readbackClosed := level }) hheld
    fun t => t.contactShows m level

theorem exec_readbackContactChange (hr : s.slu.heldInReset = false) (m : Mover) (level : Bool) :
    exec (.readbackContactChange m level) s
      = .next ((s.setMover m { s.msu.get m with readbackClosed := level }).contactShows m level) :=
  State.whileRunning_of_running (s := s.setMover m { s.msu.get m with readbackClosed := level }) hr
    fun t => t.contactShows m level

/-- R138: the contact shows the commanded state of the phase under test, and the test goes on. -/
theorem exec_readbackContactChange_passes (hr : s.slu.heldInReset = false) (h : s.dsu.armingStep = some (m, ph))
    (hl : ph.commandsClosed = level) : exec (.readbackContactChange m level) s
      = .next (continueTest 10 (nextPhase (m, ph)) (s.setMover m { s.msu.get m with readbackClosed := level })) :=
  (exec_readbackContactChange hr m level).trans (congrArg Host.Outcome.next
    (State.contactShows_passes (s := s.setMover m { s.msu.get m with readbackClosed := level }) h hl))

end

/-! ## The failures of the relay test (R138, R139) -/

section
variable {s : State} {m : Mover} {ph : Phase}

theorem exec_stepTimerExpiry (hr : s.slu.heldInReset = false) : exec .stepTimerExpiry s = .next s.stepTimerExpires :=
  State.whileRunning_of_running hr _

theorem State.stepTimerExpires_stopped (h : s.dsu.stepTimer = false) : s.stepTimerExpires = s := if_neg (by simp [h])

theorem State.stepTimerExpires_running (h : s.dsu.stepTimer = true) (hstep : s.dsu.armingStep = some (m, ph)) :
    s.stepTimerExpires = s.failPhase (m, ph) := by
  simp only [State.stepTimerExpires, if_pos h, hstep]

variable {a : Axis} {v : ValidityChange} {rest : List ValidityChange}

/-- DSU takes the oldest validity change of its axis. -/
theorem exec_validityChange (hr : s.slu.heldInReset = false)
    (h : Taken (fun x : ValidityChange => x.axis == a) 0 s.hand.validity v rest) :
    exec (.validityChange a) s = .next ((s.withHand { s.hand with validity := rest }).followValidity v) := by
  refine (State.whileRunning_of_running hr fun t => t.takeValidityChange a).trans (congrArg Host.Outcome.next ?_)
  simp only [State.takeValidityChange, takeNth_of_taken h]

theorem State.followValidity_ignored (h : s.dsu.state ≠ .arming ∨ v.before ≠ .valid ∨ v.after = .valid) :
    s.followValidity v = s :=
  if_neg fun ⟨hs, hb, ha⟩ => h.elim (· hs) fun h => h.elim (· hb) ha

theorem State.followValidity_fails (hs : s.dsu.state = .arming) (hb : v.before = .valid) (ha : v.after ≠ .valid) :
    s.followValidity v = s.failArming (20 + axisNumber v.axis) := if_pos ⟨hs, hb, ha⟩

end

/-- Settles O44: the contact by the phase under test, then the step timer and the validity changes. -/
theorem relayTestPassesAndFails : Obligations.RelayTestPassesAndFails := by
  refine ⟨fun s m level => ⟨fun h => ?ignored, fun hr hstep hl => ?closed, fun n c hr hstep hl hn hc => ?opened,
    fun hr hstep hm hl => ?passed⟩, fun s hr => ⟨fun ht => ?stopped, fun m ht hstep => ?closeFails,
    fun m ht hstep => ?openFails, fun a v rest htaken => ⟨fun h => ?kept, fun m ph hs hstep hb ha => ?validityFails⟩⟩⟩
  case ignored =>
    cases hheld : s.slu.heldInReset with
    | true => exact exec_readbackContactChange_held hheld m level
    | false =>
      have hstep := h.resolve_left (by simp [hheld])
      rw [exec_readbackContactChange hheld, State.contactShows_other (s := s.setMover m _) hstep]
  case closed =>
    rw [exec_readbackContactChange_passes hr hstep hl.symm, nextPhase, hl,
      continueTest_waits 9 (by simp [State.setMover, Phase.commandsClosed]), State.beginPhase_eq]
    simp [State.setMover, State.withMsu, Phase.commandsClosed]
  case opened =>
    have hne : n ≠ m := by rintro rfl; omega
    have hget : (s.setMover m { s.msu.get m with readbackClosed := level }).msu.get n = s.msu.get n :=
      PerMover.get_set_of_ne _ _ _ _ hne
    rw [exec_readbackContactChange_passes hr hstep hl.symm, nextPhase_open hn,
      continueTest_close_eq 8 (c := c) (by rw [hget, hc]), hget]
    rfl
  case passed =>
    subst hm hl
    exact exec_readbackContactChange_passes hr hstep rfl
  case stopped => rw [exec_stepTimerExpiry hr, State.stepTimerExpires_stopped ht]
  case closeFails =>
    rw [exec_stepTimerExpiry hr, State.stepTimerExpires_running ht hstep]
    exact congrArg Host.Outcome.next (s.failArming_eq m .close _ hstep)
  case openFails =>
    rw [exec_stepTimerExpiry hr, State.stepTimerExpires_running ht hstep]
    rfl
  case kept => rw [exec_validityChange hr htaken, State.followValidity_ignored (by exact h)]; rfl
  case validityFails =>
    have haxis : v.axis = a := by simpa using htaken.meets
    rw [exec_validityChange hr htaken, State.followValidity_fails (by exact hs) hb ha, haxis,
      State.failArming_eq _ m ph _ (by exact hstep)]
    rfl

/-! ## ARM (R137) -/

section
variable {s : State} {p : Port} {r : Request}

theorem requestRow_arm (h : codeOfByte r.code = some .arm) : requestRow r = .arm := by
  simp [requestRow, h]

theorem exec_arm (h : s.Served p r .arm) {t : State} {a : Answer} (hs : settleArm p r (s.takeHead p) = (t, some a)) :
    exec .arm s = .next (t.reply p r.tag a) :=
  serve_answers h (requestRow_arm h.code) hs

/-- R137, step 2: a channel open as the line stands, or the loop state other than Closed. -/
theorem State.loopNotClosed_iff : s.loopNotClosed = true ↔ (s.slu.channels.get .a).raw = false
    ∨ (s.slu.channels.get .b).raw = false ∨ s.slu.loop ≠ .closed := by
  simp [State.loopNotClosed, or_assoc]

theorem mem_allAxes (a : Axis) : a ∈ allAxes := by cases a <;> decide

/-- R137, step 3. -/
theorem State.someAxisNotValid_iff :
    allAxes.any (fun a => (s.pos.axes.get a).validity != .valid) = true ↔ ∃ a, (s.pos.axes.get a).validity ≠ .valid := by
  simp [List.any_eq_true, mem_allAxes]

/-- R137, step 5. -/
theorem State.someMoverTripped_iff :
    allMovers.any (fun m => s.moverState m == .tripped) = true ↔ ∃ m, s.moverState m = .tripped := by
  simp [List.any_eq_true, mem_allMovers]

theorem settleArm_refused (hs : s.dsu.state = .standby) {o : ReplyOutcome} (h : s.armRefusal = some o) :
    settleArm p r s = (s, some ⟨o, false, []⟩) := by
  simp only [settleArm, hs, h, refuse]

theorem settleArm_begins (hs : s.dsu.state = .standby) (h : s.armRefusal = none) :
    settleArm p r s = (s.beginArming, some ⟨.done, false, []⟩) := by
  simp only [settleArm, hs, h, doneEmpty]

theorem exec_arm_refused (h : s.Served p r .arm) (hs : s.dsu.state = .standby) {o : ReplyOutcome}
    (ho : s.armRefusal = some o) : exec .arm s = .next (s.answered p r ⟨o, false, []⟩) :=
  exec_arm h (settleArm_refused (s := s.takeHead p) hs ho)

end

/-- Settles O43: ARM outside Standby, then its refusals in order, then the test's first phase. -/
theorem armBeginsTheRelayTest : Obligations.ArmBeginsTheRelayTest := by
  intro s p r h
  have hhead : (s.takeHead p).dsu.state = s.dsu.state := rfl
  refine ⟨fun hs => ?arming, fun hs => ?armed, fun hs => ?elsewhere, fun hs => ?standby⟩
  case arming => exact exec_arm h (by simp only [settleArm, hhead, hs, refuse])
  case armed => exact exec_arm h (by simp only [settleArm, hhead, hs, doneEmpty])
  case elsewhere => rcases hs with hs | hs | hs <;> exact exec_arm h (by simp only [settleArm, hhead, hs, refuse])
  case standby =>
    refine ⟨fun h2 => exec_arm_refused h hs (if_pos (State.loopNotClosed_iff.mpr h2)), fun h2 => ?_⟩
    replace h2 := State.loopNotClosed_iff.not.mpr h2
    refine ⟨fun h3 => exec_arm_refused h hs ((if_neg h2).trans (if_pos (State.someAxisNotValid_iff.mpr h3))), fun h3 => ?_⟩
    replace h3 := State.someAxisNotValid_iff.not.mpr h3
    refine ⟨fun h4 => exec_arm_refused h hs
      ((if_neg h2).trans ((if_neg h3).trans (if_pos (State.anyStalled_iff.mpr h4)))), fun h4 => ?_⟩
    replace h4 := State.anyStalled_iff.not.mpr h4
    refine ⟨fun h5 => exec_arm_refused h hs ((if_neg h2).trans ((if_neg h3).trans ((if_neg h4).trans
      (if_pos (State.someMoverTripped_iff.mpr h5))))), fun h5 c hc => ?_⟩
    replace h5 := State.someMoverTripped_iff.not.mpr h5
    have hnone : (s.takeHead p).armRefusal = none :=
      (if_neg h2).trans ((if_neg h3).trans ((if_neg h4).trans (if_neg h5)))
    have hrelay : ((s.takeHead p).changeDevice .arming).msu.get .p1 = s.msu.get .p1 := by simp
    rw [exec_arm h (settleArm_begins (s := s.takeHead p) hs hnone), State.beginArming,
      continueTest_close_eq 8 (c := c) (by rw [hrelay, hc]), hrelay]

/-! ## The device state (R136) -/

/-- R136: a change hands the new state on, a change out of Armed a cut besides, and posts DEVICE STATE. -/
theorem State.changeDevice_eq (s : State) (d : DeviceState) : s.changeDevice d = { s with
    dsu := { s.dsu with state := d }
    hand := { s.hand with
      deviceChanges := s.hand.deviceChanges ++ [⟨s.dsu.state, d⟩]
      demandEvents := s.hand.demandEvents ++ [.deviceChange]
      cuts := s.hand.cuts ++ (if s.dsu.state = .armed then [.leftArmed] else [])
      postings := s.hand.postings ++ [⟨.dsu, allPorts, ⟨.deviceState, 4, .absent, deviceStateNumber d⟩⟩] } } := by
  by_cases h : s.dsu.state = .armed <;>
    simp [State.changeDevice, State.enterDevice, h, State.withDsu, State.handDeviceChange, State.handDemand, State.handCut,
      State.post, State.withHand]

/-! ## STANDBY and the end of Disarming (R140) -/

section
variable {s : State} {p : Port} {r : Request}

theorem requestRow_standby (h : codeOfByte r.code = some .standby) : requestRow r = .standby := by
  simp [requestRow, h]

theorem exec_standby (h : s.Served p r .standby) {t : State} {a : Answer}
    (hs : settleStandby p r (s.takeHead p) = (t, some a)) : exec .standby s = .next (t.reply p r.tag a) :=
  serve_answers h (requestRow_standby h.code) hs

theorem settleStandby_refused (hs : s.dsu.state = .unconfigured ∨ s.dsu.state = .configuring) :
    settleStandby p r s = (s, some ⟨.state, false, []⟩) := by
  rcases hs with hs | hs <;> simp only [settleStandby, hs, refuse]

theorem settleStandby_already (hs : s.dsu.state = .standby ∨ s.dsu.state = .disarming) :
    settleStandby p r s = (s, some ⟨.done, false, []⟩) := by
  rcases hs with hs | hs <;> simp only [settleStandby, hs, doneEmpty]

theorem settleStandby_arming (hs : s.dsu.state = .arming) :
    settleStandby p r s = (s.failArming 50, some ⟨.done, false, []⟩) := by
  simp only [settleStandby, hs, doneEmpty]

theorem settleStandby_armed_atRest (hs : s.dsu.state = .armed) (h : s.allAtRest = true) :
    settleStandby p r s = (s.changeDevice .standby, some ⟨.done, false, []⟩) := by
  simp only [settleStandby, hs, if_pos h, doneEmpty]

theorem settleStandby_armed_moving (hs : s.dsu.state = .armed) (h : s.allAtRest = false) : settleStandby p r s
    = ((s.changeDevice .disarming).raise ⟨.disarm, .all, CauseData.nothing⟩, some ⟨.done, false, []⟩) := by
  simp only [settleStandby, hs, h, Bool.false_eq_true, if_false, doneEmpty]

/-- DSU takes the oldest change of mover state. -/
theorem exec_moverStateChange (hr : s.slu.heldInReset = false) {c : MoverChange} {rest : List MoverChange}
    (h : s.hand.moverChanges = c :: rest) :
    exec .moverStateChange s = .next (s.withHand { s.hand with moverChanges := rest }).testDisarmed := by
  refine (State.whileRunning_of_running hr fun t => t.takeMoverChange).trans (congrArg Host.Outcome.next ?_)
  simp only [State.takeMoverChange, h, takeOldest]

theorem State.allAtRest_iff : s.allAtRest = true ↔ ∀ m, s.moverState m = .parked ∨ s.moverState m = .halted := by
  simp [State.allAtRest, mem_allMovers, MoverState.atRest_iff]

theorem State.testDisarmed_ends (hs : s.dsu.state = .disarming) (h : s.allAtRest = true) :
    s.testDisarmed = s.changeDevice .standby := if_pos ⟨hs, h⟩

theorem State.testDisarmed_waits (h : s.dsu.state ≠ .disarming ∨ ¬ s.allAtRest = true) : s.testDisarmed = s :=
  if_neg fun ⟨hs, hrest⟩ => h.elim (· hs) (· hrest)

/-! ## PERMITS (R141) -/

theorem requestRow_permits (h : codeOfByte r.code = some .permits) :
    requestRow r = if r.body = [1#8] then .permitsOn else .permitsOff := by
  simp [requestRow, h]

theorem exec_permits (h : s.Served p r .permits) {t : State} {a : Answer}
    (hs : settlePermits p r (s.takeHead p) = (t, some a)) :
    exec (requestRow r) s = .next (t.reply p r.tag a) := by
  have hrow := requestRow_permits h.code
  split at hrow <;>
  · rw [hrow]
    exact serve_answers h hrow hs

theorem fieldAt_singleton (v : Byte) : fieldAt [v] 0 = v.toNat := rfl

theorem settlePermits_unnamed {v : Byte} (hbody : r.body = [v]) (h0 : v ≠ 0) (h1 : v ≠ 1) :
    settlePermits p r s = (s, some ⟨.badRequest, false, []⟩) := by
  have hv0 : v.toNat ≠ 0 := fun h => h0 (BitVec.eq_of_toNat_eq h)
  have hv1 : v.toNat ≠ 1 := fun h => h1 (BitVec.eq_of_toNat_eq h)
  unfold settlePermits
  rw [hbody, fieldAt_singleton]
  split
  · next h => exact absurd h hv0
  · next h => exact absurd h hv1
  · rfl

end

/-- Settles O45: the change by `State.changeDevice_eq`, then STANDBY by the device state, the end of Disarming, and
PERMITS by its body. -/
theorem deviceLeavesArmedAndPermits : Obligations.DeviceLeavesArmedAndPermits := by
  refine ⟨fun s d _ => s.changeDevice_eq d, fun s p r h => ⟨fun hs => ?refused, fun hs => ?already,
    fun m ph hs hstep => ?arming, fun hs hrest => ?atRest, fun hs hmoving => ?moving⟩,
    fun s c rest hr hc => ⟨fun hs hrest => ?disarmed, fun hwaits => ?waits⟩,
    fun s p r h => ⟨fun hbody => ?off, fun hbody => ?on, fun v hbody h0 h1 => ?unnamed⟩⟩
  case refused => exact exec_standby h (settleStandby_refused (s := s.takeHead p) hs)
  case already => exact exec_standby h (settleStandby_already (s := s.takeHead p) hs)
  case arming =>
    rw [exec_standby h (settleStandby_arming (s := s.takeHead p) hs), State.failArming_eq (s.takeHead p) m ph 50 hstep]
    rfl
  case atRest =>
    exact exec_standby h (settleStandby_armed_atRest (s := s.takeHead p) hs (State.allAtRest_eq_true.mpr hrest))
  case moving =>
    exact exec_standby h (settleStandby_armed_moving (s := s.takeHead p) hs (State.allAtRest_eq_false.mpr hmoving))
  case disarmed =>
    exact (exec_moverStateChange hr hc).trans (congrArg Host.Outcome.next
      (State.testDisarmed_ends (s := s.withHand _) hs (State.allAtRest_iff.mpr hrest)))
  case waits =>
    exact (exec_moverStateChange hr hc).trans (congrArg Host.Outcome.next
      (State.testDisarmed_waits (s := s.withHand _) (hwaits.imp_right State.allAtRest_iff.not.mpr)))
  case off =>
    have hexec := exec_permits h (t := ((s.takeHead p).withDsu { s.dsu with permits := false }).raise
      ⟨.permitsOff, .all, CauseData.nothing⟩) (a := doneEmpty) (by rw [settlePermits, hbody]; rfl)
    rwa [requestRow_permits h.code, hbody] at hexec
  case on =>
    have hexec := exec_permits h (t := (s.takeHead p).withDsu { s.dsu with permits := true }) (a := doneEmpty)
      (by rw [settlePermits, hbody]; rfl)
    rwa [requestRow_permits h.code, hbody] at hexec
  case unnamed =>
    have hexec := exec_permits h (settlePermits_unnamed (s := s.takeHead p) hbody h0 h1)
    rwa [requestRow_permits h.code, hbody, if_neg (by simpa using h1)] at hexec

end Sys2Proof.Machine
end

section
/-! SUPPORT. The Safety Line Unit (chapter 9): filtered lines, the loop state, loop openings and drive-trip inputs. It
settles O46 and O47. -/

namespace Sys2Proof.Machine

/-! ## Filtered lines (R143, R145) -/

section
variable {l : FilteredLine} {level held : Bool}

theorem FilteredLine.shows_same (h : l.raw = level) : l.shows level held = l := if_pos h

/-- A new level starts the filter timer, and leaves it as it was while the part is held (R143, R145, log 10). -/
theorem FilteredLine.shows_new (h : l.raw ≠ level) : l.shows level held = ⟨level, l.filtered, l.timer || !held⟩ := by
  cases held <;> simp [FilteredLine.shows, h]

end

section
variable {s : State} {c : LoopChannel} {m : Mover} {level : Bool}

theorem exec_loopChannelChange_same (h : (s.slu.channels.get c).raw = level) :
    exec (.loopChannelChange c level) s = .next s := by
  simp [exec, execLoopChannelChange, PerChannel.modify, FilteredLine.shows_same h, State.withSlu]

theorem exec_loopChannelChange_new (h : (s.slu.channels.get c).raw ≠ level) : exec (.loopChannelChange c level) s
    = .next (s.withSlu { s.slu with
        channels := s.slu.channels.set c
          ⟨level, (s.slu.channels.get c).filtered, (s.slu.channels.get c).timer || !s.slu.heldInReset⟩ }) := by
  simp only [exec, execLoopChannelChange, PerChannel.modify, FilteredLine.shows_new h]

theorem exec_driveTripInputChange_same (h : (s.slu.trips.get m).raw = level) :
    exec (.driveTripInputChange m level) s = .next s := by
  simp [exec, execDriveTripInputChange, PerMover.modify, FilteredLine.shows_same h, State.withSlu]

theorem exec_driveTripInputChange_new (h : (s.slu.trips.get m).raw ≠ level) : exec (.driveTripInputChange m level) s
    = .next (s.withSlu { s.slu with
        trips := s.slu.trips.set m
          ⟨level, (s.slu.trips.get m).filtered, (s.slu.trips.get m).timer || !s.slu.heldInReset⟩ }) := by
  simp only [exec, execDriveTripInputChange, PerMover.modify, FilteredLine.shows_new h]

end

/-! ## The loop state (R143) -/

/-- The two channels are a channel and the other one. -/
theorem LoopChannel.forall_iff {P : LoopChannel → Prop} (c : LoopChannel) :
    (∀ x, P x) ↔ P c ∧ P (if c = .a then .b else .a) :=
  ⟨fun h => ⟨h _, h _⟩, fun ⟨hc, ho⟩ x => match c, x, hc, ho with
    | .a, .a, hc, _ => hc
    | .a, .b, _, ho => ho
    | .b, .a, _, ho => ho
    | .b, .b, hc, _ => hc⟩

theorem bothClosed_bothOpen_of_ne {a b : Bool} (h : a ≠ b) : (a && b) = false ∧ (!a && !b) = false := by
  revert a b; decide

section
variable {s : State}

/-- R143: both channels closed close the loop, and end a discrepancy. -/
theorem State.followChannels_closed (h : ∀ x, (s.slu.channels.get x).filtered = true) :
    s.followChannels = s.withSlu { s.slu with
      loop := .closed, discrepancyTimer := s.slu.discrepancyTimer && decide (s.slu.loop ≠ .discrepant) } := by
  cases hloop : s.slu.loop with
  | closed =>
    simp only [State.followChannels, hloop, h, Bool.and_self, if_true]
    rw [decide_eq_true (by decide), Bool.and_true, ← hloop]
    rfl
  | discrepant => simp [State.followChannels, hloop, h]
  | opened => simp [State.followChannels, hloop, h]

/-- R143: both channels open open the loop. -/
theorem State.followChannels_bothOpen (hloop : s.slu.loop ≠ .opened) (h : ∀ x, (s.slu.channels.get x).filtered = false) :
    s.followChannels = s.openLoop false := by
  cases hl : s.slu.loop with
  | opened => exact absurd hl hloop
  | closed => simp [State.followChannels, hl, h]
  | discrepant => simp [State.followChannels, hl, h]

/-- R143: channels that differ open a Closed loop in Arming, and make it Discrepant elsewhere. -/
theorem State.followChannels_differ_closed (hloop : s.slu.loop = .closed)
    (h : (s.slu.channels.get .a).filtered ≠ (s.slu.channels.get .b).filtered) :
    s.followChannels = if s.dsu.state = .arming then s.openLoop false
      else s.withSlu { s.slu with loop := .discrepant, discrepancyTimer := true } := by
  obtain ⟨hclosed, hopen⟩ := bothClosed_bothOpen_of_ne h
  simp [State.followChannels, hloop, hclosed, hopen]

/-- R143: a Discrepant loop stays so while the channels differ. -/
theorem State.followChannels_differ_discrepant (hloop : s.slu.loop = .discrepant)
    (h : (s.slu.channels.get .a).filtered ≠ (s.slu.channels.get .b).filtered) : s.followChannels = s := by
  obtain ⟨hclosed, hopen⟩ := bothClosed_bothOpen_of_ne h
  simp [State.followChannels, hloop, hclosed, hopen]

/-- R143: an Open loop stays so until both channels are closed. -/
theorem State.followChannels_opened (hloop : s.slu.loop = .opened) (h : ¬ ∀ x, (s.slu.channels.get x).filtered = true) :
    s.followChannels = s := by
  have hnot : ¬ ((s.slu.channels.get .a).filtered = true ∧ (s.slu.channels.get .b).filtered = true) :=
    mt (LoopChannel.forall_iff (P := fun x => (s.slu.channels.get x).filtered = true) .a).mpr h
  simp only [State.followChannels, hloop, Bool.and_eq_true, if_neg hnot]

end

/-! ## A channel's filter timer and the discrepancy timer (R143) -/

/-- The part once a channel's filtered state has taken its raw level. -/
def State.channelSettled (s : State) (c : LoopChannel) : State := s.withSlu { s.slu with
  channels := s.slu.channels.set c ⟨(s.slu.channels.get c).raw, (s.slu.channels.get c).raw, false⟩ }

section
variable {s : State} {c : LoopChannel}

theorem exec_loopFilterExpiry_stopped (hr : s.slu.heldInReset = false) (ht : (s.slu.channels.get c).timer = false) :
    exec (.loopFilterExpiry c) s = .next s :=
  (State.whileRunning_of_running hr fun t => t.channelSettles c).trans (congrArg Host.Outcome.next (if_neg (by simp [ht])))

theorem exec_loopFilterExpiry_running (hr : s.slu.heldInReset = false) (ht : (s.slu.channels.get c).timer = true) :
    exec (.loopFilterExpiry c) s = .next (s.channelSettled c).followChannels :=
  (State.whileRunning_of_running hr fun t => t.channelSettles c).trans (congrArg Host.Outcome.next (if_pos ht))

/-- What holds of both filtered states holds of the settled channel's raw level and of the other's filtered state. -/
theorem State.channelSettled_forall {v : Bool} : (∀ x, ((s.channelSettled c).slu.channels.get x).filtered = v)
    ↔ (s.slu.channels.get c).raw = v ∧ (s.slu.channels.get (if c = .a then .b else .a)).filtered = v := by
  rw [LoopChannel.forall_iff c]
  cases c <;> rfl

theorem State.channelSettled_differ
    (h : (s.slu.channels.get c).raw ≠ (s.slu.channels.get (if c = .a then .b else .a)).filtered) :
    ((s.channelSettled c).slu.channels.get .a).filtered ≠ ((s.channelSettled c).slu.channels.get .b).filtered := by
  cases c
  · exact h
  · exact h.symm

theorem exec_discrepancyTimerExpiry_stopped (hr : s.slu.heldInReset = false) (ht : s.slu.discrepancyTimer = false) :
    exec .discrepancyTimerExpiry s = .next s :=
  (State.whileRunning_of_running hr State.discrepancyExpires).trans
    (congrArg Host.Outcome.next (if_neg (by simp [ht])))

theorem exec_discrepancyTimerExpiry_discrepant (hr : s.slu.heldInReset = false) (ht : s.slu.discrepancyTimer = true)
    (hloop : s.slu.loop = .discrepant) : exec .discrepancyTimerExpiry s = .next (s.openLoop true) :=
  (State.whileRunning_of_running hr State.discrepancyExpires).trans
    (congrArg Host.Outcome.next ((if_pos ht).trans (if_pos hloop)))

end

/-- Settles O46: the raw level's change, then the loop state by the two filtered states, then the discrepancy timer. -/
theorem loopStateFollowsChannels : Obligations.LoopStateFollowsChannels := by
  intro s c level k raw
  refine ⟨exec_loopChannelChange_same, fun h hr => ?starts, fun h hheld => ?held, fun hr =>
    ⟨exec_loopFilterExpiry_stopped hr, fun ht => ?settles, exec_discrepancyTimerExpiry_stopped hr,
      exec_discrepancyTimerExpiry_discrepant hr⟩⟩
  case starts => rw [exec_loopChannelChange_new h, hr, Bool.not_false, Bool.or_true]; rfl
  case held => rw [exec_loopChannelChange_new h, hheld, Bool.not_true, Bool.or_false]; rfl
  case settles =>
    intro u other act
    have hact : act = .next u.followChannels := exec_loopFilterExpiry_running hr ht
    rw [hact]
    refine ⟨fun hc ho => ?closed, fun hloop hdiffer hd => ?discrepant, fun hloop hdiffer hd => ?armingOpens,
      fun hloop hc ho => ?bothOpen, fun hloop hdiffer => ?stays, fun hloop hopen => ?staysOpen⟩
    case closed =>
      exact congrArg Host.Outcome.next (State.followChannels_closed (State.channelSettled_forall.mpr ⟨hc, ho⟩))
    case discrepant =>
      exact congrArg Host.Outcome.next
        ((State.followChannels_differ_closed (s := u) hloop (State.channelSettled_differ hdiffer)).trans (if_neg hd))
    case armingOpens =>
      exact congrArg Host.Outcome.next
        ((State.followChannels_differ_closed (s := u) hloop (State.channelSettled_differ hdiffer)).trans (if_pos hd))
    case bothOpen =>
      exact congrArg Host.Outcome.next
        (State.followChannels_bothOpen (s := u) hloop (State.channelSettled_forall.mpr ⟨hc, ho⟩))
    case stays =>
      exact congrArg Host.Outcome.next
        (State.followChannels_differ_discrepant (s := u) hloop (State.channelSettled_differ hdiffer))
    case staysOpen =>
      refine congrArg Host.Outcome.next (State.followChannels_opened (s := u) hloop fun hall => ?_)
      obtain ⟨hc, ho⟩ := State.channelSettled_forall.mp hall
      exact hopen.elim (ne_false_of_eq_true hc) (ne_false_of_eq_true ho)

/-! ## Loop openings (R144) -/

section
variable {s : State} {mark : Bool}

theorem State.openLoop_inactive (h : ¬ s.dsu.state.isActive = true) :
    s.openLoop mark = s.withSlu { s.slu with loop := .opened, discrepancyTimer := false } := if_neg h

/-- What SLU does at an opening before the device follows: the loop Open, SAFETY LOOP, the brace outputs off, the opening
handed to BRC (R144). -/
def State.openingRaised (s : State) (mark : Bool) : State :=
  (((s.withSlu { s.slu with loop := .opened, discrepancyTimer := false }).raise
    ⟨.safetyLoop, .all, { CauseData.nothing with discrepancyMark := mark }⟩).outputsOff).handCut .loopOpening

theorem State.openLoop_active (h : s.dsu.state.isActive = true) : s.openLoop mark
    = (s.openingRaised mark).deviceOnOpening.post .slu allPorts ⟨.eStop, 7, .absent, if mark then 2 else 1⟩ := if_pos h

/-- R139, R144: an opening in Arming fails the relay test at item 40. -/
theorem State.openLoop_arming (h : s.dsu.state = .arming) : s.openLoop mark
    = ((s.openingRaised mark).failArming 40).post .slu allPorts ⟨.eStop, 7, .absent, if mark then 2 else 1⟩ := by
  have hfails : (s.openingRaised mark).deviceOnOpening = (s.openingRaised mark).failArming 40 := if_pos h
  rw [State.openLoop_active (DeviceState.isActive_iff.mpr (.inl h)), hfails]

theorem State.openLoop_armed (h : s.dsu.state = .armed ∨ s.dsu.state = .disarming) : s.openLoop mark
    = ((s.openingRaised mark).changeDevice .standby).post .slu allPorts ⟨.eStop, 7, .absent, if mark then 2 else 1⟩ := by
  have hother : s.dsu.state ≠ .arming := by rcases h with h | h <;> simp [h]
  have hchanges : (s.openingRaised mark).deviceOnOpening = (s.openingRaised mark).changeDevice .standby := if_neg hother
  rw [State.openLoop_active (DeviceState.isActive_iff.mpr (.inr h)), hchanges]

/-! ## Drive trips (R145) -/

variable {m : Mover}

theorem exec_driveTripFilterExpiry (hr : s.slu.heldInReset = false) (m : Mover) :
    exec (.driveTripFilterExpiry m) s = .next (s.tripInputSettles m) :=
  State.whileRunning_of_running hr fun t => t.tripInputSettles m

theorem State.tripInputSettles_stopped (ht : (s.slu.trips.get m).timer = false) : s.tripInputSettles m = s :=
  if_neg (by simp [ht])

/-- R145: only a filtered change to active raises DRIVE TRIP. -/
theorem State.tripInputSettles_running (ht : (s.slu.trips.get m).timer = true) : s.tripInputSettles m
    = if (s.slu.trips.get m).raw = true ∧ (s.slu.trips.get m).filtered = false then
        (s.withSlu { s.slu with trips := s.slu.trips.set m (s.slu.trips.get m).settles }).raiseDriveTrip m
      else s.withSlu { s.slu with trips := s.slu.trips.set m (s.slu.trips.get m).settles } := by
  simp only [State.tripInputSettles, if_pos ht, Bool.and_eq_true, Bool.not_eq_true']

end

/-- Settles O47: a loop opening by the device state, then a drive-trip input's level and its filter timer. -/
theorem loopOpeningsAndDriveTripsAct : Obligations.LoopOpeningsAndDriveTripsAct := by
  refine ⟨fun s mark => ⟨fun h1 h2 h3 => ?inactive, fun hs => ?leaves, fun m ph hs hstep => ?arming⟩,
    fun s m level => ⟨exec_driveTripInputChange_same, exec_driveTripInputChange_new, fun hr ht => ?stopped,
      fun hr ht hquiet => ?quiet, fun hr ht hraw hfiltered => ?raises⟩⟩
  case inactive => exact State.openLoop_inactive (DeviceState.isActive_iff.not.mpr (by simp [h1, h2, h3]))
  case leaves => exact State.openLoop_armed hs
  case arming => rw [State.openLoop_arming hs, State.failArming_eq (s.openingRaised mark) m ph 40 hstep]; rfl
  case stopped => rw [exec_driveTripFilterExpiry hr, State.tripInputSettles_stopped ht]
  case quiet =>
    rw [exec_driveTripFilterExpiry hr, State.tripInputSettles_running ht, if_neg fun ⟨hraw, hfiltered⟩ =>
      hquiet.elim (ne_false_of_eq_true hraw) (ne_true_of_eq_false hfiltered)]
    rfl
  case raises =>
    rw [exec_driveTripFilterExpiry hr, State.tripInputSettles_running ht, if_pos ⟨hraw, hfiltered⟩]
    rfl

end Sys2Proof.Machine
end

section
/-! SUPPORT. The Station Port Unit (chapter 10): bytes and frames, replies sent and silence, the grants of the arbiter, the
handler's checks, and MASK. It settles O7, O8, O9, O10, O11 and O12. -/

namespace Sys2Proof.Machine

/-! ## Bytes at a receiver (R149) -/

section
variable {r : PortRec} {b : Byte} {taken : List Byte}

theorem PortRec.byte_hunting_other (h : r.receiver = .hunting) (hb : b ≠ 0xA5#8) (framingError : Bool) :
    r.byte b framingError = r := by
  simp [PortRec.byte, h, hb]

theorem PortRec.byte_hunting_start (h : r.receiver = .hunting) (framingError : Bool) :
    r.byte 0xA5#8 framingError = { r with receiver := .receiving [] } := by
  simp [PortRec.byte, h]

theorem PortRec.byte_framingError (h : r.receiver = .receiving taken) :
    r.byte b true = { r with receiver := .hunting } := by
  simp [PortRec.byte, h]

theorem PortRec.byte_receiving (h : r.receiver = .receiving taken) : r.byte b false = r.receive taken b := by
  simp [PortRec.byte, h]

theorem lengthBad_iff {n : Nat} : lengthBad n = true ↔ n < 4 ∨ 52 < n := by simp [lengthBad]

theorem PortRec.receive_badLength (hb : b.toNat < 4 ∨ 52 < b.toNat) :
    r.receive [] b = { r with receiver := .hunting } := if_pos ⟨rfl, lengthBad_iff.mpr hb⟩

/-- A byte after Length, or a Length within its bounds, is no bad Length (R149). -/
theorem not_badLength (h : taken ≠ [] ∨ (4 ≤ b.toNat ∧ b.toNat ≤ 52)) :
    ¬ (taken = [] ∧ lengthBad b.toNat = true) := by
  rw [lengthBad_iff]
  rintro ⟨hempty, hbad⟩
  rcases h with h | h
  · exact h hempty
  · omega

theorem PortRec.receive_last (h : taken ≠ [] ∨ (4 ≤ b.toNat ∧ b.toNat ≤ 52))
    (hsize : (taken ++ [b]).length = fieldAt (taken ++ [b]) 0 + 2) :
    r.receive taken b = { r with receiver := .hunting, complete := r.complete ++ [taken ++ [b]] } :=
  (if_neg (not_badLength h)).trans (if_pos hsize)

theorem PortRec.receive_more (h : taken ≠ [] ∨ (4 ≤ b.toNat ∧ b.toNat ≤ 52))
    (hsize : (taken ++ [b]).length ≠ fieldAt (taken ++ [b]) 0 + 2) :
    r.receive taken b = { r with receiver := .receiving (taken ++ [b]) } :=
  (if_neg (not_badLength h)).trans (if_neg hsize)

end

@[simp] theorem State.setPort_self (s : State) (p : Port) : s.setPort p (s.spu.ports.get p) = s := by
  simp [State.setPort, State.withSpu]

section
variable {s : State}

theorem exec_stationPortByte (hr : s.slu.heldInReset = false) (p : Port) (b : Byte) (framingError : Bool) :
    exec (.stationPortByte p b framingError) s = .next (s.setPort p ((s.spu.ports.get p).byte b framingError)) :=
  State.whileRunning_of_running hr fun t => t.modifyPort p fun r => r.byte b framingError

theorem exec_frameTimerExpiry (hr : s.slu.heldInReset = false) (p : Port) :
    exec (.frameTimerExpiry p) s = .next (s.setPort p { s.spu.ports.get p with receiver := .hunting }) :=
  State.whileRunning_of_running hr fun t => t.modifyPort p fun r => { r with receiver := .hunting }

end

/-- Settles O7: the byte by the receiver's state, in Receiving by its Length and the frame's size. -/
theorem receiverTakesBytes : Obligations.ReceiverTakesBytes := by
  intro s p b fe hr
  refine ⟨fun h hb => ?other, fun h hb => ?start, fun taken h hfe => ?broken, fun h hfe hb => ?badLength,
    fun taken h hfe hb hsize => ?last, fun taken h hfe hb hsize => ?more, exec_frameTimerExpiry hr p⟩
  case other => rw [exec_stationPortByte hr, PortRec.byte_hunting_other h hb, State.setPort_self]
  case start => rw [exec_stationPortByte hr, hb, PortRec.byte_hunting_start h]
  case broken => rw [exec_stationPortByte hr, hfe, PortRec.byte_framingError h]
  case badLength => rw [exec_stationPortByte hr, hfe, PortRec.byte_receiving h, PortRec.receive_badLength hb]
  case last => rw [exec_stationPortByte hr, hfe, PortRec.byte_receiving h, PortRec.receive_last hb hsize]
  case more => rw [exec_stationPortByte hr, hfe, PortRec.byte_receiving h, PortRec.receive_more hb hsize]

/-! ## A frame from end to end (R149, R150, R152) -/

/-- The bytes after a frame's Length complete it exactly when as many have come as Length says, and two more (R149). -/
theorem PortRec.foldl_byte_receiving {r : PortRec} {len : Byte} {taken : List Byte} (bs : List Byte)
    (h : r.receiver = .receiving (len :: taken)) (hbs : bs ≠ []) (hsize : taken.length + bs.length = len.toNat + 1) :
    bs.foldl (fun x b => x.byte b false) r
      = { r with receiver := .hunting, complete := r.complete ++ [len :: taken ++ bs] } := by
  induction bs generalizing r taken with
  | nil => exact absurd rfl hbs
  | cons b bs ih =>
    have hlength : (len :: taken ++ [b]).length = taken.length + 2 := by simp
    have hfield : fieldAt (len :: taken ++ [b]) 0 = len.toNat := rfl
    rw [List.length_cons] at hsize
    rw [List.foldl_cons, PortRec.byte_receiving h]
    by_cases hlast : bs = []
    · subst hlast
      rw [PortRec.receive_last (.inl (List.cons_ne_nil _ _)) (by rw [hlength, hfield]; simpa using hsize)]
      rfl
    · have hpos : 0 < bs.length := List.length_pos_iff.mpr hlast
      rw [PortRec.receive_more (.inl (List.cons_ne_nil _ _)) (by rw [hlength, hfield]; omega),
        ih (taken := taken ++ [b]) rfl hlast (by simp; omega)]
      simp

theorem PortRec.foldl_byte_frame {r : PortRec} {len : Byte} {bs : List Byte} (h : r.receiver = .hunting)
    (hlen : 4 ≤ len.toNat ∧ len.toNat ≤ 52) (hsize : bs.length = len.toNat + 1) :
    (0xA5#8 :: len :: bs).foldl (fun x b => x.byte b false) r = { r with complete := r.complete ++ [len :: bs] } := by
  have hbs : bs ≠ [] := List.length_pos_iff.mp (by omega)
  rw [List.foldl_cons, PortRec.byte_hunting_start h, List.foldl_cons, PortRec.byte_receiving rfl,
    PortRec.receive_more (.inr hlen) (by simp [fieldAt, byteAt]),
    PortRec.foldl_byte_receiving bs rfl hbs (by simpa using hsize)]
  simp [← h]

theorem checkField_length (core : List Byte) : (checkField core).length = 2 := bytesOf_length 2 _

theorem coreOf_append (core : List Byte) : coreOf (core ++ checkField core) = core := by
  simp [coreOf, checkField_length]

/-- R150: the two tests of a complete frame, the check over Length through Body and the role. -/
theorem frameValid_iff {p : Port} {f : List Byte} : frameValid p f = true
    ↔ f.drop (f.length - 2) = checkField (f.take (f.length - 2)) ∧ fieldAt f 1 = portNumber p := by
  rw [frameValid, Bool.and_eq_true, decide_eq_true_eq, decide_eq_true_eq, coreOf]

theorem frameValid_append {p : Port} {core : List Byte} (hrole : fieldAt (core ++ checkField core) 1 = portNumber p) :
    frameValid p (core ++ checkField core) = true := by
  rw [frameValid, coreOf_append, Bool.and_eq_true, decide_eq_true_eq, decide_eq_true_eq]
  exact ⟨by simp [checkField_length], hrole⟩

theorem portNumber_toNat (p : Port) : (BitVec.ofNat 8 (portNumber p)).toNat = portNumber p := by cases p <;> rfl

/-- The bytes of a reply frame from Length through Body (R149). -/
def ReplyFrame.core (f : ReplyFrame) : List Byte :=
  frameCore (BitVec.ofNat 8 (portNumber f.role)) f.tag f.code f.body

section
variable (f : ReplyFrame)

theorem ReplyFrame.wire_eq : f.wire = 0xA5#8 :: (f.core ++ checkField f.core) := rfl

theorem ReplyFrame.foldl_byte_wire {r : PortRec} (h : r.receiver = .hunting) (hbody : f.body.length ≤ 48) :
    f.wire.foldl (fun x b => x.byte b false) r
      = { r with complete := r.complete ++ [f.core ++ checkField f.core] } := by
  have hlen : (BitVec.ofNat 8 (4 + f.body.length)).toNat = 4 + f.body.length := by
    rw [BitVec.toNat_ofNat]
    omega
  rw [ReplyFrame.wire_eq]
  exact PortRec.foldl_byte_frame h (by rw [hlen]; omega) (by simp [checkField_length, hlen]; omega)

theorem ReplyFrame.frameValid_core : frameValid f.role (f.core ++ checkField f.core) = true :=
  frameValid_append (portNumber_toNat f.role)

theorem ReplyFrame.requestOf_core : requestOf (f.core ++ checkField f.core) = ⟨f.tag, f.code, f.body⟩ := by
  rw [requestOf, coreOf_append]
  rfl

end

/-- Settles O8: the frame received is the frame's core with its check field, which is valid and reads back as given. -/
theorem framesRoundTrip : Obligations.FramesRoundTrip := fun _ p kind tag code body h hbody =>
  let f : ReplyFrame := ⟨kind, p, tag, code, body⟩
  ⟨f.core ++ checkField f.core, f.foldl_byte_wire h hbody, f.frameValid_core, f.requestOf_core⟩

/-! ## Complete frames (R150, R151) -/

section
variable {s : State} {r : PortRec} {p : Port} {f : List Byte} {timeout : Int}

theorem exec_completeFrame (hr : s.slu.heldInReset = false) {rest : List (List Byte)}
    (h : (s.spu.ports.get p).complete = f :: rest)
    (ht : PortRec.takeFrame { s.spu.ports.get p with complete := rest } p f s.cs.active.general.silenceTimeout = r) :
    exec (.completeFrame p) s = .next (s.setPort p r) := by
  refine (State.whileRunning_of_running hr fun t => t.testFrame p).trans (congrArg Host.Outcome.next ?_)
  simp only [State.testFrame, h, takeOldest, ht]

theorem PortRec.takeFrame_invalid (h : ¬ frameValid p f = true) : r.takeFrame p f timeout = r := if_neg h

theorem PortRec.takeFrame_queued (h : frameValid p f = true) (hroom : r.queue.length < 2) : r.takeFrame p f timeout
    = { r with link := .live, silence := .running timeout, queue := r.queue ++ [requestOf f] } :=
  (if_pos h).trans (if_pos hroom)

theorem PortRec.takeFrame_busy (h : frameValid p f = true) (hfull : 2 ≤ r.queue.length)
    (hroom : busyReplies r.output < 2) : r.takeFrame p f timeout = { r with
      link := .live, silence := .running timeout, output := r.output ++ [⟨.busy, p, byteAt f 2, 1, []⟩] } :=
  (if_pos h).trans ((if_neg (not_lt.mpr hfull)).trans (if_pos hroom))

theorem PortRec.takeFrame_unanswered (h : frameValid p f = true) (hfull : 2 ≤ r.queue.length)
    (hbusy : 2 ≤ busyReplies r.output) :
    r.takeFrame p f timeout = { r with link := .live, silence := .running timeout } :=
  (if_pos h).trans ((if_neg (not_lt.mpr hfull)).trans (if_neg (not_lt.mpr hbusy)))

end

/-- Settles O9: the frame discarded, then a valid one by the room in the queue and among the BUSY replies. -/
theorem completeFrameTested : Obligations.CompleteFrameTested := by
  intro s p f rest hr hcomplete
  dsimp only
  rw [← frameValid_iff]
  exact ⟨fun h => exec_completeFrame hr hcomplete (PortRec.takeFrame_invalid h),
    fun h hroom => exec_completeFrame hr hcomplete (PortRec.takeFrame_queued h hroom),
    fun h hfull hroom => exec_completeFrame hr hcomplete (PortRec.takeFrame_busy h hfull hroom),
    fun h hfull hbusy => exec_completeFrame hr hcomplete (PortRec.takeFrame_unanswered h hfull hbusy)⟩

/-! ## Replies sent and silence (R148, R152, R157) -/

section
variable {s : State} {p : Port}

theorem exec_replyFrameSent (hr : s.slu.heldInReset = false) {f : ReplyFrame} {rest : List ReplyFrame}
    (h : (s.spu.ports.get p).output = f :: rest) : exec (.replyFrameSent p) s = .next
      (if f.kind = .resetAccepted then
        (s.withSpu { s.spu with handler := .resetDue }).setPort p { s.spu.ports.get p with output := rest }
      else s.setPort p { s.spu.ports.get p with output := rest }) := by
  refine (State.whileRunning_of_running hr fun t => t.sendReply p).trans (congrArg Host.Outcome.next ?_)
  simp only [State.sendReply, h, takeOldest]
  rfl

theorem exec_silenceTimerExpiry (hr : s.slu.heldInReset = false) (p : Port) : exec (.silenceTimerExpiry p) s
    = .next (if (s.spu.ports.get p).silence.isRunning then s.goSilent p else s) :=
  State.whileRunning_of_running hr _

theorem silenceCause_eq (p : Port) : silenceCause p
    = ⟨if p = .venue then .venueSilence else .linkSilence, if p = .venue then .all else .role p, .nothing⟩ := by
  cases p <;> rfl

theorem otherPorts_eq (p : Port) : otherPorts p = allPorts.filter (fun q => q ≠ p) := by cases p <;> rfl

/-- R157: a port goes Silent, with its cause and the notice to the two other stations. -/
theorem State.goSilent_eq (s : State) (p : Port) : s.goSilent p = { s with
    spu := { s.spu with ports := s.spu.ports.set p { s.spu.ports.get p with link := .silent, silence := .stopped } }
    hand := { s.hand with
      causes := s.hand.causes ++ [silenceCause p]
      postings := s.hand.postings ++ [⟨.spu, otherPorts p, ⟨.linkSilent, 5, .station p, portNumber p⟩⟩] } } := rfl

end

/-- Settles O10: a reply sent by its kind, then an expiry of the silence timer where it runs and where it does not. -/
theorem repliesLeaveAndPortsFallSilent : Obligations.RepliesLeaveAndPortsFallSilent := by
  refine ⟨fun s p f rest hr hout => ?sent, fun s p hr => ?silence⟩
  case sent =>
    rw [exec_replyFrameSent hr hout]
    exact ⟨fun hkind => by rw [if_neg hkind], fun hkind => by rw [if_pos hkind]⟩
  case silence =>
    rw [exec_silenceTimerExpiry hr]
    refine ⟨fun hstopped => by rw [if_neg (by simp [hstopped])], fun hruns => ?_⟩
    rw [if_pos hruns, State.goSilent_eq, silenceCause_eq, otherPorts_eq]

/-! ## The port arbiter (R153) -/

theorem heldInArming_iff {b : Byte} : (∃ c, codeOfByte b = some c ∧ heldInArming c = true)
    ↔ b = 0x12#8 ∨ b = 0x10#8 ∨ b = 0x20#8 ∨ b = 0x21#8 := by
  simp only [← BitVec.toNat_inj, BitVec.toNat_ofNat]
  unfold codeOfByte
  split <;> simp_all [heldInArming]

/-- R139, R153: a head is held in Arming where its code is MOVE, RESERVE, BRACE or BRACE CLEAR. -/
theorem State.isHeld_iff {s : State} {r : Request} : s.isHeld r = true
    ↔ s.dsu.state = .arming ∧ (r.code = 0x12#8 ∨ r.code = 0x10#8 ∨ r.code = 0x20#8 ∨ r.code = 0x21#8) := by
  rw [← heldInArming_iff, State.isHeld, Bool.and_eq_true, beq_iff_eq]
  cases codeOfByte r.code <;> simp

/-- R153: the head of a port's queue that the arbiter may grant: not held, with room for its reply and, on the Venue port,
no storage write in flight. -/
theorem State.grantableHead_iff {s : State} {p : Port} {r : Request} : s.grantableHead p = some r
    ↔ (s.spu.ports.get p).queue.head? = some r ∧ ¬ s.isHeld r = true
      ∧ servedReplies (s.spu.ports.get p).output < 2 ∧ (p = .venue → s.cs.commit = none) := by
  unfold State.grantableHead
  cases (s.spu.ports.get p).queue with
  | nil => simp
  | cons x xs =>
    by_cases hx : x = r
    · subst hx
      simp [and_assoc]
    · simp [hx]

/-- R153: the free handler is granted the first grantable head in the cyclic order. -/
theorem State.grant_eq_some_iff {s : State} {p : Port} {r : Request} : s.grant = some (p, r)
    ↔ s.spu.handler = .free ∧ s.grantableHead p = some r ∧ ∃ before after,
      arbiterOrder s.spu.lastGranted = before ++ p :: after ∧ ∀ q ∈ before, ∀ x, ¬ s.grantableHead q = some x := by
  unfold State.grant
  split
  · next hfree =>
    simp only [hfree, true_and, List.findSome?_eq_some_iff, Option.map_eq_some_iff, Option.map_eq_none_iff,
      Prod.mk.injEq]
    simp only [Option.eq_none_iff_forall_ne_some]
    constructor
    · rintro ⟨before, q, after, hsplit, ⟨x, hx, rfl, rfl⟩, hbefore⟩
      exact ⟨hx, before, after, hsplit, hbefore⟩
    · rintro ⟨hp, before, after, hsplit, hbefore⟩
      exact ⟨before, p, after, hsplit, ⟨r, hp, rfl, rfl⟩, hbefore⟩
  · next hbusy => simp [hbusy]

theorem mem_arbiterOrder (last p : Port) : p ∈ arbiterOrder last := by cases last <;> cases p <;> decide

/-- R153: there is no grant where the handler is not free or no head is grantable. -/
theorem State.grant_eq_none_iff {s : State} :
    s.grant = none ↔ s.spu.handler ≠ .free ∨ ∀ p r, ¬ s.grantableHead p = some r := by
  unfold State.grant
  split
  · next hfree =>
    simp only [hfree, List.findSome?_eq_none_iff, mem_arbiterOrder, Option.map_eq_none_iff, forall_const, ne_eq,
      not_true_eq_false, false_or]
    simp only [Option.eq_none_iff_forall_ne_some, ne_eq]
  · next hbusy => simp [hbusy]

/-! ## The handler's checks (R154) -/

/-- Every request command is the serving of its row by the block that owns it (R153). -/
theorem exec_requestRow (r : Request) : ∃ settle, ∀ s, exec (requestRow r) s
    = s.whileRunning fun t => t.serve (requestRow r) settle := by
  unfold requestRow
  (repeat' split) <;> exact ⟨_, fun _ => rfl⟩

section
variable {s : State} {p : Port} {r : Request} {c : RequestCode}

/-- A request that fails a check is answered by it and reaches no block (R154). -/
theorem exec_refused (hr : s.slu.heldInReset = false) (hg : s.grant = some (p, r)) {o : ReplyOutcome}
    (h : (s.takeHead p).handlerRefusal p r = some o) : exec (requestRow r) s = .next (s.answered p r ⟨o, false, []⟩) := by
  obtain ⟨settle, hexec⟩ := exec_requestRow r
  rw [hexec, State.whileRunning_of_running hr]
  simp only [State.serve, hg, if_true, State.handle, h]
  rfl

theorem State.handlerRefusal_unknown (hc : codeOfByte r.code = none) : s.handlerRefusal p r = some .badRequest := by
  simp [State.handlerRefusal, hc]

theorem State.handlerRefusal_known (hc : codeOfByte r.code = some c) : s.handlerRefusal p r =
    if s.dsu.state = .locked ∧ servedInLocked c = false then some .locked
    else if roleMaySend c p = false then some .notPermitted
    else if bodyLengthOk c r.body.length = false then some .badRequest
    else if namesMover c = true ∧ wrongOwner p r.body = true then some .notOwner
    else none := by
  simp only [State.handlerRefusal, hc]

theorem State.handlerRefusal_locked (hc : codeOfByte r.code = some c) (hl : s.dsu.state = .locked)
    (hs : servedInLocked c = false) : s.handlerRefusal p r = some .locked := by
  rw [State.handlerRefusal_known hc, if_pos ⟨hl, hs⟩]

/-- What the checks after the first leave to be tested of a request that passes it (R142, R154). -/
theorem State.handlerRefusal_unlocked (hc : codeOfByte r.code = some c)
    (hl : s.dsu.state = .locked → servedInLocked c = true) : s.handlerRefusal p r =
    if roleMaySend c p = false then some .notPermitted
    else if bodyLengthOk c r.body.length = false then some .badRequest
    else if namesMover c = true ∧ wrongOwner p r.body = true then some .notOwner
    else none := by
  rw [State.handlerRefusal_known hc, if_neg fun ⟨hlocked, hs⟩ => by simp [hl hlocked] at hs]

theorem State.handlerRefusal_role (hc : codeOfByte r.code = some c)
    (hl : s.dsu.state = .locked → servedInLocked c = true) (hrole : roleMaySend c p = false) :
    s.handlerRefusal p r = some .notPermitted := by
  rw [State.handlerRefusal_unlocked hc hl, if_pos hrole]

theorem State.handlerRefusal_length (hc : codeOfByte r.code = some c)
    (hl : s.dsu.state = .locked → servedInLocked c = true) (hrole : roleMaySend c p = true)
    (hlen : bodyLengthOk c r.body.length = false) : s.handlerRefusal p r = some .badRequest := by
  rw [State.handlerRefusal_unlocked hc hl, if_neg (by simp [hrole]), if_pos hlen]

theorem State.handlerRefusal_owner (hc : codeOfByte r.code = some c)
    (hl : s.dsu.state = .locked → servedInLocked c = true) (hrole : roleMaySend c p = true)
    (hlen : bodyLengthOk c r.body.length = true) (hnames : namesMover c = true) (howner : wrongOwner p r.body = true) :
    s.handlerRefusal p r = some .notOwner := by
  rw [State.handlerRefusal_unlocked hc hl, if_neg (by simp [hrole]), if_neg (by simp [hlen]), if_pos ⟨hnames, howner⟩]

end

/-- Settles O11: the arbiter by `State.grant_eq_some_iff` and `State.grant_eq_none_iff`, then the checks in order, each
where the earlier ones are passed. -/
theorem handlerGrantsAndChecks : Obligations.HandlerGrantsAndChecks := by
  refine ⟨fun s => ?grants, fun s p r hr hg => ⟨fun hc => ?unknown, fun c hc => ?known⟩⟩
  case grants =>
    intro held grantable order
    have hgrantable : ∀ p r, s.grantableHead p = some r ↔ grantable p r := fun p r => by
      rw [State.grantableHead_iff, State.isHeld_iff]
      rfl
    have horder : arbiterOrder s.spu.lastGranted = order := rfl
    simp only [State.grant_eq_none_iff, State.grant_eq_some_iff, hgrantable, horder]
    exact ⟨fun p r before after hfree hsplit hp hbefore => ⟨hfree, hp, before, after, hsplit, hbefore⟩,
      fun p r h => h, trivial⟩
  case unknown =>
    have hrow : requestRow r = .unknownRequestCode := by simp [requestRow, hc]
    exact hrow ▸ exec_refused hr hg (State.handlerRefusal_unknown hc)
  case known =>
    exact ⟨fun hlocked hs => exec_refused hr hg (State.handlerRefusal_locked hc hlocked hs),
      fun hl hrole => exec_refused hr hg (State.handlerRefusal_role hc hl hrole),
      fun hl hrole hlen => exec_refused hr hg (State.handlerRefusal_length hc hl hrole hlen),
      fun hl hrole hlen hnames howner => exec_refused hr hg (State.handlerRefusal_owner hc hl hrole hlen hnames howner)⟩

/-! ## MASK (R158) -/

/-- A byte as an unsigned field of one byte (R149). -/
theorem byteField_toNat (v : Byte) : byteField v.toNat = [v] := by
  simp [byteField, bytesOf]

section
variable {s : State} {p : Port} {r : Request} {v : Byte}

/-- A MASK with a body of one byte passes every check of the handler (R142, R154). -/
theorem State.Asked.served_mask (h : s.Asked p r .mask) : s.Served p r .mask := ⟨h, fun _ => rfl, rfl, fun hn => nomatch hn⟩

theorem requestRow_mask (h : codeOfByte r.code = some .mask) : requestRow r = .mask := by
  simp [requestRow, h]

theorem exec_mask (h : s.Asked p r .mask) {t : State} {a : Answer} (hs : settleMask p r (s.takeHead p) = (t, some a)) :
    exec .mask s = .next (t.reply p r.tag a) :=
  serve_answers h.served_mask (requestRow_mask h.served_mask.code) hs

theorem settleMask_kept (hbody : r.body = [v]) (hv : v.toNat ≤ 6) : settleMask p r s
    = (s.setPort p { s.spu.ports.get p with mask := v.toNat }, some ⟨.done, false, [v]⟩) := by
  simp only [settleMask, hbody, fieldAt_singleton, Nat.min_eq_left hv, byteField_toNat, not_lt.mpr hv, decide_false]
  rfl

theorem settleMask_clamped (hbody : r.body = [v]) (hv : 6 < v.toNat) : settleMask p r s
    = (s.setPort p { s.spu.ports.get p with mask := 6 }, some ⟨.done, true, [6]⟩) := by
  simp only [settleMask, hbody, fieldAt_singleton, Nat.min_eq_right hv.le, hv, decide_true]
  rfl

end

/-- Settles O12: a value kept as given, and one held at 6. -/
theorem maskSetsPortMask : Obligations.MaskSetsPortMask := fun _ _ _ _ h hbody =>
  ⟨fun hv => exec_mask h (settleMask_kept hbody hv), fun hv => exec_mask h (settleMask_clamped hbody hv)⟩

end Sys2Proof.Machine
end

section
/-! SUPPORT. The status replies (chapter 10): the fields of a reply body, STATUS and MOVER STATUS. It settles O13 and
O14. -/

namespace Sys2Proof.Machine

/-! ## Fields of a body (R159, R160) -/

theorem byteField_eq (n : Nat) : byteField n = [BitVec.ofNat 8 n] := by
  simp [byteField, bytesOf]

@[simp] theorem fieldBytes_cons_succ (b : Byte) (xs : List Byte) (off size : Nat) :
    fieldBytes (b :: xs) (off + 1) size = fieldBytes xs off size := rfl

@[simp] theorem fieldBytes_cons_zero (b : Byte) (xs : List Byte) (size : Nat) :
    fieldBytes (b :: xs) 0 (size + 1) = b :: fieldBytes xs 0 size := rfl

@[simp] theorem fieldBytes_size_zero (xs : List Byte) (off : Nat) : fieldBytes xs off 0 = [] := rfl

/-- A field beyond the first part of a body is a field of the rest. -/
@[simp] theorem fieldBytes_append_right {xs ys : List Byte} {off size : Nat} (h : xs.length ≤ off) :
    fieldBytes (xs ++ ys) off size = fieldBytes ys (off - xs.length) size := by
  rw [fieldBytes, List.drop_append, List.drop_eq_nil_of_le h, List.nil_append, fieldBytes]

@[simp] theorem fieldBytes_zero_append {xs ys : List Byte} {size : Nat} (h : xs.length = size) :
    fieldBytes (xs ++ ys) 0 size = xs := by
  rw [fieldBytes, List.drop_zero, List.take_left' h]

@[simp] theorem fieldBytes_all {xs : List Byte} {size : Nat} (h : xs.length = size) : fieldBytes xs 0 size = xs := by
  rw [fieldBytes, List.drop_zero, List.take_of_length_le h.le]

/-- Of fields of one size, the field at a place. -/
theorem fieldBytes_flatten {fs : List (List Byte)} {w i : Nat} {f : List Byte} (hw : ∀ x ∈ fs, x.length = w)
    (h : fs[i]? = some f) : fieldBytes fs.flatten (w * i) w = f := by
  induction fs generalizing i with
  | nil => simp at h
  | cons x xs ih =>
    have hx : x.length = w := hw x List.mem_cons_self
    rw [List.flatten_cons]
    cases i with
    | zero =>
      obtain rfl : x = f := by simpa using h
      exact fieldBytes_zero_append hx
    | succ i =>
      rw [fieldBytes_append_right (by rw [hx, Nat.mul_succ]; omega), hx, Nat.mul_succ, Nat.add_sub_cancel]
      exact ih (fun y hy => hw y (List.mem_cons_of_mem x hy)) (by simpa using h)

theorem bitIf_eq (b : Bool) (k : Nat) : bitIf b k = b.toNat * 2 ^ k := by cases b <;> simp [bitIf]

/-- The flags byte of STATUS, bit by bit from the lowest (R159). -/
theorem statusFlags_eq (d : Dsu) (demand overflow : Bool) : statusFlags d demand overflow
    = Nat.bit d.token (Nat.bit d.permits (Nat.bit demand (Nat.bit overflow
      (Nat.bit d.flags.power (Nat.bit d.flags.line (Nat.bit d.flags.command (Nat.bit d.flags.fromLocked 0))))))) := by
  simp only [statusFlags, bitIf_eq, Nat.bit_val]
  omega

theorem statusFlags_getLsbD (d : Dsu) (demand overflow : Bool) :
    let n := BitVec.ofNat 8 (statusFlags d demand overflow)
    n.getLsbD 0 = d.token ∧ n.getLsbD 1 = d.permits ∧ n.getLsbD 2 = demand ∧ n.getLsbD 3 = overflow
      ∧ n.getLsbD 4 = d.flags.power ∧ n.getLsbD 5 = d.flags.line ∧ n.getLsbD 6 = d.flags.command
      ∧ n.getLsbD 7 = d.flags.fromLocked := by
  simp only [statusFlags_eq, BitVec.getLsbD_ofNat, Nat.testBit_bit_zero, Nat.testBit_bit_succ]
  simp

theorem optNumber_eq {α : Type} (f : α → Nat) (x : Option α) : optNumber f x = (x.map f).getD 0 := by cases x <;> rfl

theorem sourceNumber_eq (x : Option Port) : sourceNumber x = (x.map portNumber).getD 0 := by cases x <;> rfl

/-! ## STATUS (R159) -/

section
variable {s : State} {p : Port} {r : Request} {m : Mover} {d : Byte}

/-- The head taken changes nothing a STATUS shows. -/
theorem State.takeHead_statusBody (s : State) (q p : Port) (m : Mover) :
    (s.takeHead q).statusBody p m = s.statusBody p m := by
  have hlink : (fun x => byteField (linkStateNumber ((s.takeHead q).spu.ports.get x).link))
      = fun x => byteField (linkStateNumber (s.spu.ports.get x).link) := by
    funext x
    rw [State.takeHead_link]
  rw [State.statusBody, State.statusDevice, hlink]
  rfl

theorem requestRow_status (h : codeOfByte r.code = some .status) :
    requestRow r = if r.body.length = 2 then .moverStatus else .status := by
  simp [requestRow, h]

theorem exec_status (h : s.Served p r .status) (hbody : r.body = [d]) {a : Answer}
    (ha : answerStatus p r (s.takeHead p) = a) : exec .status s = .next (s.answered p r a) :=
  serve_answers h (by simp [requestRow_status h.code, hbody]) (congrArg (fun x => (s.takeHead p, some x)) ha)

theorem detailOf_none {n : Nat} (h : 5 < n) : detailOf p n = none := by
  rw [detailOf, if_neg (by omega), moverOfNumber_none]
  rintro m rfl
  cases m <;> simp [moverNumber] at h

/-- R159: 0 names the role's own detail mover, and a mover's number that mover. -/
theorem detailOf_some {n : Nat} (h : (n = 0 ∧ m = (if p = .pitch then .tray else .p1)) ∨ n = moverNumber m) :
    detailOf p n = some m := by
  rcases h with ⟨rfl, rfl⟩ | rfl
  · cases p <;> rfl
  · rw [detailOf, if_neg (by cases m <;> simp [moverNumber]), moverOfNumber_iff]

theorem answerStatus_unnamed (hbody : r.body = [d]) (h : 5 < d.toNat) :
    answerStatus p r s = ⟨.badRequest, false, []⟩ := by
  rw [answerStatus, hbody, fieldAt_singleton, detailOf_none h]
  rfl

theorem answerStatus_named (hbody : r.body = [d]) (h : detailOf p d.toNat = some m) :
    answerStatus p r s = ⟨.done, false, s.statusBody p m⟩ := by
  rw [answerStatus, hbody, fieldAt_singleton, h]
  rfl

end

/-- The four axis slots of a detail mover, those that a panel does not fill last (R159). -/
def State.slotList (s : State) (m : Mover) : List (List Byte) :=
  (axesOf m).map s.axisSlot ++ List.replicate (4 - (axesOf m).length) emptySlot

theorem State.axisSlots_eq (s : State) (m : Mover) : s.axisSlots m = (s.slotList m).flatten := by
  rw [State.axisSlots, State.slotList, List.flatten_append, List.flatMap_def]

theorem State.slotList_size (s : State) (m : Mover) : ∀ f ∈ s.slotList m, f.length = 5 := by
  intro f hf
  rcases List.mem_append.mp hf with hf | hf
  · obtain ⟨a, _, rfl⟩ := List.mem_map.mp hf
    rfl
  · rw [List.eq_of_mem_replicate hf]
    rfl

theorem State.slotList_axis {s : State} {m : Mover} {i : Nat} {a : Axis} (h : (axesOf m)[i]? = some a) :
    (s.slotList m)[i]? = some (s.axisSlot a) := by
  have hi : i < ((axesOf m).map s.axisSlot).length := by
    rw [List.length_map]
    exact (List.getElem?_eq_some_iff.mp h).1
  rw [State.slotList, List.getElem?_append_left hi, List.getElem?_map, h, Option.map_some]

theorem State.slotList_empty {s : State} {m : Mover} {i : Nat} (h : (axesOf m).length ≤ i) (hi : i < 4) :
    (s.slotList m)[i]? = some emptySlot := by
  rw [State.slotList, List.getElem?_append_right (by simpa using h), List.getElem?_replicate, if_pos]
  rw [List.length_map]
  omega

theorem axesOf_length_le (m : Mover) : (axesOf m).length ≤ 4 := by cases m <;> decide

theorem State.axisSlots_length (s : State) (m : Mover) : (s.axisSlots m).length = 20 := by
  rw [State.axisSlots_eq, List.length_flatten, List.map_congr_left (s.slotList_size m), List.map_const',
    List.sum_replicate]
  have := axesOf_length_le m
  simp [State.slotList]
  omega

/-- Offsets 0 to 27 of STATUS (R159). -/
def State.statusHead (s : State) (p : Port) (m : Mover) : List Byte :=
  let a := s.authorityOf m
  s.statusDevice p ++ (allMovers.flatMap (fun x => byteField (moverStateNumber (s.moverState x)))
    ++ byteField (moverNumber m) ++ bytesOf 1 (directionValue a.direction) ++ optField 3 a.authorityEnd
    ++ bytesOf 1 (a.untrimmed / 2))

theorem State.statusBody_eq (s : State) (p : Port) (m : Mover) :
    s.statusBody p m = s.statusHead p m ++ s.axisSlots m := by
  rw [State.statusBody, State.statusHead, List.append_assoc]
  rfl

theorem State.statusHead_length (s : State) (p : Port) (m : Mover) : (s.statusHead p m).length = 28 := rfl

theorem State.statusBody_slot {s : State} {p : Port} {m : Mover} {i : Nat} {f : List Byte}
    (h : (s.slotList m)[i]? = some f) : fieldBytes (s.statusBody p m) (28 + 5 * i) 5 = f := by
  rw [State.statusBody_eq, fieldBytes_append_right (by rw [State.statusHead_length]; omega), State.statusHead_length,
    Nat.add_sub_cancel_left, State.axisSlots_eq]
  exact fieldBytes_flatten (s.slotList_size m) h

/-- Settles O13: the fields up to offset 27 stand at fixed places of the body; the axis slots by
`State.statusBody_slot`. -/
theorem statusIsOnePicture : Obligations.StatusIsOnePicture := by
  refine fun s p r d h hbody => ⟨fun hd => exec_status h hbody (answerStatus_unnamed hbody hd),
    fun m hm => ⟨s.statusBody p m, ?answer, ?length, ?_, ?flags, ?_, ?_, ?_, ?_, ?_, ?_, ?_, ?_, ?_, ?_, ?movers, ?_, ?_, ?_,
      ?_, fun i a hi => ?axis, fun i hi hlt => ?empty⟩⟩
  case answer =>
    rw [exec_status h hbody (answerStatus_named hbody (detailOf_some hm)), State.takeHead_statusBody]
  case length => rw [State.statusBody_eq, List.length_append, State.statusHead_length, State.axisSlots_length]
  case flags =>
    have hbyte : byteAt (s.statusBody p m) 1
        = byteAt (byteField (statusFlags s.dsu s.brc.demand (s.nu.get p).overflow)) 0 := rfl
    rw [hbyte, byteField_eq]
    exact statusFlags_getLsbD ..
  case movers => exact fun x => by cases x <;> rfl
  case axis => exact State.statusBody_slot (State.slotList_axis hi)
  case empty => exact State.statusBody_slot (State.slotList_empty hi hlt)
  all_goals simp [State.statusBody_eq, State.statusHead, State.statusDevice, State.signature, State.braceState,
    State.authorityOf, allPorts, allMovers, optField, byteField, bytesOf_length]

/-! ## MOVER STATUS (R93, R160) -/

/-- R93, log 5: the time left on a running trip timer is at most the time it was started with, and not below 0. -/
theorem tripTimeLeft_running (n : Nat) (x : Int) :
    tripTimeLeft n (.running x) ≤ x ∧ (0 ≤ x → 0 ≤ tripTimeLeft n (.running x)) :=
  ⟨Int.min_le_right _ _, fun hx => Int.le_min.mpr ⟨Int.natCast_nonneg _, hx⟩⟩

theorem tripTimeLeft_not_running {n : Nat} {t : Timer} (h : t.isRunning = false) : tripTimeLeft n t = 0 := by
  cases t with
  | running x => cases h
  | stopped => rfl
  | expired => rfl

section
variable {s : State} {p : Port} {r : Request} {m : Mover} {d g : Byte}

theorem State.page_stop {n : Nat} (hn : n = 0) (timeLeft : Int) : s.page m n timeLeft = some (s.stopPage m timeLeft) :=
  hn ▸ rfl

theorem State.page_authority {n : Nat} (hn : n = 1) (timeLeft : Int) : s.page m n timeLeft = some (s.authorityPage m) :=
  hn ▸ rfl

theorem State.page_axis {i : Nat} {a : Axis} (h : (axesOf m)[i]? = some a) (timeLeft : Int) :
    s.page m (i + 2) timeLeft = some (s.axisPage a) := by
  rw [State.page, h, Option.map_some]

theorem State.page_none {n : Nat} (h : (axesOf m).length + 2 ≤ n) (timeLeft : Int) : s.page m n timeLeft = none := by
  obtain ⟨i, rfl⟩ := Nat.exists_eq_add_of_le' (Nat.le_of_add_left_le h)
  rw [State.page, List.getElem?_eq_none (Nat.le_of_add_le_add_right h), Option.map_none]

theorem exec_moverStatus (h : s.Served p r .status) (hbody : r.body = [d, g]) {t : State} {a : Answer}
    (hs : settleMoverStatus p r (s.takeHead p) = (t, some a)) : exec .moverStatus s = .next (t.reply p r.tag a) :=
  serve_answers h (by simp [requestRow_status h.code, hbody]) hs

theorem settleMoverStatus_unnamed (hbody : r.body = [d, g]) (hd : ∀ m, d.toNat ≠ moverNumber m) :
    settleMoverStatus p r s = (s, some ⟨.badRequest, false, []⟩) := by
  have hfield : fieldAt r.body 0 = d.toNat := by rw [hbody]; rfl
  rw [settleMoverStatus, hfield, moverOfNumber_none.mpr hd]
  rfl

/-- A MOVER STATUS that asks for a page its mover does not have (R160). -/
theorem settleMoverStatus_pageless (hbody : r.body = [d, g]) (hd : d.toNat = moverNumber m)
    (hg : (axesOf m).length + 2 ≤ g.toNat) : settleMoverStatus p r s = (s, some ⟨.badRequest, false, []⟩) := by
  have hmover : fieldAt r.body 0 = d.toNat := by rw [hbody]; rfl
  have hpage : fieldAt r.body 1 = g.toNat := by rw [hbody]; rfl
  simp only [settleMoverStatus, hmover, hpage, moverOfNumber_iff.mpr hd, State.page_none hg]
  rfl

/-- A MOVER STATUS that is answered with the page it asks for (R160, log 5). -/
theorem settleMoverStatus_page (hbody : r.body = [d, g]) (hd : d.toNat = moverNumber m) {bytes : List Byte}
    (hpage : s.page m g.toNat (tripTimeLeft s.freeCount (s.msu.get m).tripTimer) = some bytes) : settleMoverStatus p r s
      = (s.withFreeCount (s.freeCount + 1), some ⟨.done, false, [d, g] ++ bytes⟩) := by
  have hmover : fieldAt r.body 0 = d.toNat := by rw [hbody]; rfl
  have hnumber : fieldAt r.body 1 = g.toNat := by rw [hbody]; rfl
  have hheader : byteField (moverNumber m) ++ byteField g.toNat = [d, g] := by
    rw [← hd, byteField_toNat, byteField_toNat]
    rfl
  simp only [settleMoverStatus, hmover, hnumber, moverOfNumber_iff.mpr hd, hpage, hheader]
  rfl

theorem exec_moverStatus_page (h : s.Served p r .status) (hbody : r.body = [d, g]) (hd : d.toNat = moverNumber m)
    {bytes : List Byte} (hpage : s.page m g.toNat (tripTimeLeft s.freeCount (s.msu.get m).tripTimer) = some bytes) :
    exec .moverStatus s = .next (((s.takeHead p).withFreeCount (s.freeCount + 1)).reply p r.tag
      ⟨.done, false, [d, g] ++ bytes⟩) :=
  exec_moverStatus h hbody (settleMoverStatus_page (s := s.takeHead p) hbody hd hpage)

end

/-! ## The stop page (R160) -/

theorem causeNumbers_length (cs : List Cause) : (cs.flatMap fun c => byteField (causeNumber c)).length = cs.length := by
  simp [List.length_flatMap, byteField_eq]

theorem haltCauseField_length (cs : List Cause) : (haltCauseField cs).length = 11 := by
  simp [haltCauseField]

/-- R160: the places of the halt causes that are not used are 0. -/
theorem haltCauseField_eq {cs : List Cause} (h : cs.length ≤ 11) : haltCauseField cs
    = cs.flatMap (fun c => byteField (causeNumber c)) ++ List.replicate (11 - cs.length) 0#8 := by
  rw [haltCauseField, List.take_append, List.take_of_length_le (by rwa [causeNumbers_length]), causeNumbers_length,
    List.take_replicate, Nat.min_eq_left (Nat.sub_le _ _)]

/-- Settles O14: the refusals and the axis pages, the time left on the trip timer, then the stop page and the authority
page. Each field of a page is read off past the lengths of the fields before it. -/
theorem moverStatusPages : Obligations.MoverStatusPages := by
  refine ⟨fun s p r d g h hbody => ⟨fun hd => exec_moverStatus h hbody (settleMoverStatus_unnamed hbody hd),
    fun m hd => ⟨fun hg => exec_moverStatus h hbody (settleMoverStatus_pageless hbody hd hg), fun i a hg ha => ?axisPage⟩⟩,
    fun s p r d g m h hbody hd => ⟨fun x hx => hx ▸ tripTimeLeft_running _ x, tripTimeLeft_not_running,
      fun hg => ?stopPage, fun hg => ?authorityPage⟩⟩
  case axisPage =>
    refine ⟨_, exec_moverStatus_page h hbody hd (hg ▸ State.page_axis ha _), ?_⟩
    simp [State.axisPage, readerField, optField, byteField, flagByte, bytesOf_length]
  case stopPage =>
    refine ⟨_, exec_moverStatus_page h hbody hd (State.page_stop hg _), ?_⟩
    simpa [State.stopPage, State.authorityOf, optField, byteField, flagByte, bytesOf_length, optNumber_eq,
      haltCauseField_length] using @haltCauseField_eq (s.msu.get m).haltCauses
  case authorityPage =>
    refine ⟨_, exec_moverStatus_page h hbody hd (State.page_authority hg _), ?_⟩
    simp only [State.authorityPage, State.authorityOf]
    simp [optField, byteField, flagByte, bytesOf_length, sourceNumber_eq]

end Sys2Proof.Machine
end

section
/-! SUPPORT. The Notice Unit and the Fault Record (chapter 11): a posting delivered to its stations, NOTICE, the hand-overs
FR takes, FAULT READ and FAULT CLEAR. It settles O15 and O16. -/

namespace Sys2Proof.Machine

/-! ## The least and the most severe of a queue (R164, R165) -/

section
variable {q before after : List Notice} {y : Notice}

theorem leastSeverity_eq (hy : y ∈ q) (hleast : ∀ z ∈ q, y.severity ≤ z.severity) : leastSeverity q = y.severity := by
  have hmin : (q.map (·.severity)).min? = some y.severity :=
    List.min?_eq_some_iff.mpr ⟨List.mem_map_of_mem hy, List.forall_mem_map.mpr hleast⟩
  rw [leastSeverity, hmin, Option.getD_some]

theorem le_leastSeverity {v : Nat} (hv : v ≤ 8) (h : ∀ z ∈ q, v ≤ z.severity) : v ≤ leastSeverity q := by
  unfold leastSeverity
  cases hmin : (q.map (·.severity)).min? with
  | none => exact hv
  | some m =>
    obtain ⟨z, hz, rfl⟩ := List.mem_map.mp (List.min?_mem hmin)
    exact h z hz

theorem greatestSeverity_eq (hy : y ∈ q) (hmost : ∀ z ∈ q, z.severity ≤ y.severity) :
    greatestSeverity q = y.severity := by
  have hmax : (q.map (·.severity)).max? = some y.severity :=
    List.max?_eq_some_iff.mpr ⟨List.mem_map_of_mem hy, List.forall_mem_map.mpr hmost⟩
  rw [greatestSeverity, hmax, Option.getD_some]

/-- The notice taken of a severity is the oldest of that severity. -/
theorem takeSeverity_oldest (hbefore : ∀ z ∈ before, z.severity ≠ y.severity) :
    takeSeverity y.severity (before ++ y :: after) = some (y, before ++ after) :=
  takeNth_of_taken ⟨before, after, rfl, beq_self_eq_true _,
    List.countP_eq_zero.mpr fun z hz => by simpa using hbefore z hz, rfl⟩

/-! ## A notice at a full queue (R164) -/

variable {n : Notice}

theorem displace_lesser (h : n.severity ≠ 7) : displace q n = q := if_neg fun ⟨hn, _⟩ => h hn

theorem displace_unyielding (h : ∀ z ∈ q, 7 ≤ z.severity) : displace q n = q :=
  if_neg fun ⟨_, hless⟩ => not_lt.mpr (le_leastSeverity (by decide) h) hless

/-- R164: the notice displaced is the oldest of the least severe. -/
theorem displace_oldest (hn : n.severity = 7) (hy : y.severity < 7)
    (hleast : ∀ z ∈ before ++ y :: after, y.severity ≤ z.severity) (hbefore : ∀ z ∈ before, y.severity < z.severity) :
    displace (before ++ y :: after) n = before ++ after ++ [n] := by
  have hseverity : leastSeverity (before ++ y :: after) = y.severity :=
    leastSeverity_eq (List.mem_append_right _ List.mem_cons_self) hleast
  rw [displace, hseverity, if_pos ⟨hn, hy⟩, takeSeverity_oldest fun z hz => (hbefore z hz).ne']

/-! ## A notice delivered to one station (R163, R164) -/

variable {x : NoticeQueue}

theorem NoticeQueue.withQueue_of_ne_nil (hq : q ≠ []) (overflow : Bool) : x.withQueue q overflow = ⟨q, overflow, true⟩ := by
  simp [NoticeQueue.withQueue, hq]

theorem NoticeQueue.deliver_room (h : x.queue.length < 4) :
    x.deliver n = ⟨x.queue ++ [n], x.overflow, true⟩ := by
  rw [NoticeQueue.deliver, if_pos h, NoticeQueue.withQueue_of_ne_nil (by simp)]

/-- R164: a full queue keeps its length, and any delivery there sets the overflow flag. -/
theorem NoticeQueue.deliver_full (h : 4 ≤ x.queue.length) (hq : displace x.queue n = q) :
    x.deliver n = ⟨q, true, true⟩ := by
  have hlength : q.length = x.queue.length := hq ▸ displace_length x.queue n
  rw [NoticeQueue.deliver, if_neg (not_lt.mpr h), hq,
    NoticeQueue.withQueue_of_ne_nil (List.length_pos_iff.mp (by omega))]

end

/-! ## A posting delivered over its route (R163) -/

section
variable {s : State} {n : Notice}

/-- R163: what a posting makes of the queue of a station of its route. -/
def State.delivered (s : State) (n : Notice) (p : Port) : NoticeQueue :=
  if (s.spu.ports.get p).mask < n.severity then (s.nu.get p).deliver n else s.nu.get p

theorem State.deliverTo_eq (s : State) (n : Notice) (p : Port) :
    s.deliverTo n p = s.withNu (s.nu.set p (s.delivered n p)) := by
  unfold State.deliverTo State.delivered
  split
  · rfl
  · rw [PerPort.set_get_self]
    rfl

/-- A route touches the notice queues alone. -/
theorem foldl_deliverTo_frame (route : List Port) (s : State) : route.foldl (fun t p => t.deliverTo n p) s
    = s.withNu (route.foldl (fun t p => t.deliverTo n p) s).nu := by
  induction route generalizing s with
  | nil => rfl
  | cons p ps ih =>
    rw [List.foldl_cons, ih, State.deliverTo_eq]
    rfl

/-- R163: each station of a route receives the notice once, and no other does. -/
theorem foldl_deliverTo_nu {route : List Port} (hroute : route.Nodup) (s : State) (p : Port) :
    (route.foldl (fun t p => t.deliverTo n p) s).nu.get p = if p ∈ route then s.delivered n p else s.nu.get p := by
  induction route generalizing s with
  | nil => rfl
  | cons o os ih =>
    obtain ⟨ho, hos⟩ := List.nodup_cons.mp hroute
    rw [List.foldl_cons, ih hos, State.deliverTo_eq]
    by_cases hp : p = o
    · subst hp
      simp [ho]
    · simp [hp, State.delivered, PerPort.get_set_of_ne]

/-- NU takes the oldest posting in flight of a block (log 22). -/
theorem exec_noticePosting (hr : s.slu.heldInReset = false) {src : Block} {x : Posting} {rest : List Posting}
    (h : Taken (fun y : Posting => y.source == src) 0 s.hand.postings x rest) : exec (.noticePosting src) s
      = .next (x.route.foldl (fun t p => t.deliverTo x.notice p) (s.withHand { s.hand with postings := rest })) := by
  refine (State.whileRunning_of_running hr fun t => t.takePosting src).trans (congrArg Host.Outcome.next ?_)
  simp only [State.takePosting, takeNth_of_taken h]

end

/-! ## NOTICE (R165) -/

section
variable {s : State} {p : Port} {r : Request} {x : NoticeQueue} {n : Notice} {before after : List Notice}

theorem NoticeQueue.fetch_empty (h : x.queue = []) : x.fetch = (x, ⟨.none, false, []⟩) := by
  rw [NoticeQueue.fetch, h]
  rfl

/-- R165: the notice fetched is the oldest of the most severe; the flag and the line go with the last one. -/
theorem NoticeQueue.fetch_oldest (h : x.queue = before ++ n :: after) (hmost : ∀ z ∈ x.queue, z.severity ≤ n.severity)
    (hbefore : ∀ z ∈ before, z.severity < n.severity) :
    let left := before ++ after
    let flag := x.overflow && decide (left ≠ [])
    x.fetch = (⟨left, flag, decide (left ≠ [])⟩, ⟨.done, false, noticeBody n left.length flag⟩) := by
  have hseverity : greatestSeverity x.queue = n.severity :=
    greatestSeverity_eq (h ▸ List.mem_append_right _ List.mem_cons_self) hmost
  have hflag : ∀ xs : List Notice, (!xs.isEmpty) = decide (xs ≠ []) := fun xs => by cases xs <;> rfl
  dsimp only
  rw [NoticeQueue.fetch, hseverity, h, takeSeverity_oldest fun z hz => (hbefore z hz).ne]
  simp only [NoticeQueue.withQueue, hflag]
  rfl

theorem requestRow_notice (h : codeOfByte r.code = some .notice) : requestRow r = .notice := by
  simp [requestRow, h]

theorem exec_notice (h : s.Served p r .notice) {a : Answer} (hx : (s.nu.get p).fetch = (x, a)) :
    exec .notice s = .next (((s.takeHead p).withNu (s.nu.set p x)).reply p r.tag a) :=
  serve_answers h (requestRow_notice h.code)
    (congrArg (fun y => ((s.takeHead p).withNu (s.nu.set p y.1), some y.2)) hx)

theorem subjectField_length (x : Subject) : (subjectField x).length = 2 := by
  rcases x with _ | _ | ⟨_ | _, _⟩ | _ | _ <;> rfl

/-- The fields of a NOTICE's reply, in the order they stand in it (R165). -/
theorem noticeBody_fields (n : Notice) (left : Nat) (overflow : Bool) :
    let body := noticeBody n left overflow
    body.length = 10 ∧ fieldBytes body 0 1 = byteField (noticeKindNumber n.kind) ∧ fieldBytes body 1 1 = byteField n.severity
      ∧ fieldBytes body 2 2 = subjectField n.subject ∧ fieldBytes body 4 4 = bytesOf 4 n.value
      ∧ fieldBytes body 8 1 = byteField left ∧ fieldBytes body 9 1 = [flagByte overflow] := by
  simp [noticeBody, subjectField_length, byteField_eq, bytesOf_length]

end

/-- Settles O15: a posting by the station's place in its route, its mask and the room in its queue; NOTICE by an empty queue
and by the oldest of its most severe notices. -/
theorem noticesQueuedAndFetched : Obligations.NoticesQueuedAndFetched := by
  refine ⟨fun s src x rest hr htaken hroute => ?posting, fun s p r h => ⟨fun hempty => ?none,
    fun before n after hsplit hmost hbefore => ?fetched⟩⟩
  case posting =>
    have hnu := foldl_deliverTo_nu hroute (n := x.notice) (s.withHand { s.hand with postings := rest })
    refine ⟨_, exec_noticePosting hr htaken, foldl_deliverTo_frame _ _,
      fun p => ⟨fun hnot => ?passed, fun hp hmask => ?reached⟩⟩
    case passed =>
      rw [hnu]
      split
      · next hp => exact if_neg fun hmask => hnot ⟨hp, hmask⟩
      · rfl
    case reached =>
      have hdelivered := (hnu p).trans ((if_pos hp).trans (if_pos hmask))
      simp only [hdelivered]
      refine ⟨fun hroom => NoticeQueue.deliver_room hroom,
        fun hfull hn => NoticeQueue.deliver_full hfull (displace_lesser hn),
        fun hfull _ hq => NoticeQueue.deliver_full hfull (displace_unyielding hq),
        fun before y after hfull hn hsplit hy hleast hbefore => NoticeQueue.deliver_full hfull ?_⟩
      rw [hsplit] at hleast
      exact (congrArg (displace · x.notice) hsplit).trans (displace_oldest hn hy hleast hbefore)
  case none =>
    rw [exec_notice h (NoticeQueue.fetch_empty hempty), PerPort.set_get_self]
    rfl
  case fetched =>
    obtain ⟨hlength, hkind, hseverity, hsubject, hvalue, hleft, hflag⟩ := noticeBody_fields n (before ++ after).length
      ((s.nu.get p).overflow && decide (before ++ after ≠ []))
    have hnamed : ∀ x, n.subject = x → _ = subjectField x := fun x hx => hx ▸ hsubject
    exact ⟨_, exec_notice h (NoticeQueue.fetch_oldest hsplit hmost hbefore), hlength, hkind, hseverity, hnamed .absent,
      fun m => hnamed (.mover m), fun k => hnamed (.zone .runway k), fun k => hnamed (.zone .tray k),
      fun b => hnamed (.brace b), fun q => hnamed (.station q), hvalue, hleft, hflag⟩

/-! ## The hand-overs FR takes (R167) -/

/-- The causes FR records, as R167 lists them. -/
def recordedCauses : List Cause :=
  [.safetyLoop, .driveTrip, .overspeed, .overrun, .rollback, .uncommandedMotion, .skewTrip, .readerLoss,
    .readerDiscrepancy, .braceLost, .linkSilence, .venueSilence, .braceStalled, .brakeFault, .relayStuck]

theorem isRecorded_iff {c : Cause} : isRecorded c = true ↔ c ∈ recordedCauses := by cases c <;> decide

section
variable {c : Cause} {es : List SummaryEntry}

theorem enterSummary_new (h : ∀ e ∈ es, e.cause ≠ c) : enterSummary c es = es ++ [⟨c, false⟩] :=
  if_neg (by simpa using h)

theorem enterSummary_again (h : ∃ e ∈ es, e.cause = c) :
    enterSummary c es = es.map fun e => if e.cause = c then ⟨e.cause, true⟩ else e :=
  if_pos (by simpa using h)

end

section
variable {s : State} {n : Nat} {f : FaultMessage} {rest : List FaultMessage}

theorem State.recordFault_unrecorded (h : f.cause ∉ recordedCauses) : s.recordFault f = s :=
  if_neg (isRecorded_iff.not.mpr h)

theorem State.recordFault_first (h : f.cause ∈ recordedCauses) (hr : s.fr.record = none) :
    s.recordFault f = s.withFr ⟨some (s.capture f), [⟨f.cause, false⟩]⟩ := by
  rw [State.recordFault, if_pos (isRecorded_iff.mpr h), hr]

theorem State.recordFault_later (h : f.cause ∈ recordedCauses) (hr : s.fr.record ≠ none) {es : List SummaryEntry}
    (hes : enterSummary f.cause s.fr.summary = es) : s.recordFault f = s.withFr ⟨s.fr.record, es⟩ := by
  obtain ⟨c, hc⟩ := Option.ne_none_iff_exists'.mp hr
  simp only [State.recordFault, if_pos (isRecorded_iff.mpr h), hc, hes]

/-- FR takes the hand-over the command names (log 1, log 26). -/
theorem exec_causeHandover (hr : s.slu.heldInReset = false) (h : Taken (fun _ => true) n s.hand.faults f rest) {t : State}
    (ht : (s.withHand { s.hand with faults := rest }).recordFault f = t) : exec (.causeHandover n) s = .next t := by
  refine (State.whileRunning_of_running hr fun t => t.takeFault n).trans (congrArg Host.Outcome.next ?_)
  simp only [State.takeFault, takeNth_of_taken h, ht]

end

/-! ## FAULT READ and FAULT CLEAR (R168) -/

section
variable {s : State} {p : Port} {r : Request}

theorem requestRow_faultRead (h : codeOfByte r.code = some .faultRead) : requestRow r = .faultRead := by
  simp [requestRow, h]

theorem exec_faultRead (h : s.Served p r .faultRead) :
    exec .faultRead s = .next (s.answered p r ⟨.done, false, s.fr.body⟩) :=
  serve_answers h (requestRow_faultRead h.code) rfl

theorem requestRow_faultClear (h : codeOfByte r.code = some .faultClear) : requestRow r = .faultClear := by
  simp [requestRow, h]

/-- R168: the record, the summary and the reset cause flags are cleared. -/
theorem settleFaultClear_done (hl : s.dsu.state ≠ .locked) : settleFaultClear p r s = ({ s with
    fr := ⟨none, []⟩, dsu := { s.dsu with flags := ⟨false, false, false, false⟩ } }, some ⟨.done, false, []⟩) :=
  if_neg hl

theorem exec_faultClear (h : s.Served p r .faultClear) : exec .faultClear s = .next ({ s.takeHead p with
    fr := ⟨none, []⟩, dsu := { s.dsu with flags := ⟨false, false, false, false⟩ } }.reply p r.tag ⟨.done, false, []⟩) :=
  serve_answers h (requestRow_faultClear h.code) (settleFaultClear_done (s := s.takeHead p) (h.not_locked rfl))

end

/-! ## The body of FAULT READ (R168) -/

/-- The presence byte, bit by bit from the lowest (R168). -/
theorem presenceByte_eq (d : RecordedData) : presenceByte d
    = Nat.bit d.lead.isSome (Nat.bit d.primary.isSome (Nat.bit d.check.isSome (Nat.bit d.speed.isSome
      (Nat.bit d.axisCeiling.isSome (Nat.bit d.authorityEnd.isSome 0))))) := by
  simp only [presenceByte, bitIf_eq, Nat.bit_val]
  omega

theorem presenceByte_getLsbD (d : RecordedData) :
    let n := BitVec.ofNat 8 (presenceByte d)
    n.getLsbD 0 = d.lead.isSome ∧ n.getLsbD 1 = d.primary.isSome ∧ n.getLsbD 2 = d.check.isSome
      ∧ n.getLsbD 3 = d.speed.isSome ∧ n.getLsbD 4 = d.axisCeiling.isSome ∧ n.getLsbD 5 = d.authorityEnd.isSome := by
  simp only [presenceByte_eq, BitVec.getLsbD_ofNat, Nat.testBit_bit_zero, Nat.testBit_bit_succ]
  simp

theorem recordBytes_length (x : Option Captured) : (recordBytes x).length = 31 := by
  cases x with
  | none => rfl
  | some c => simp [recordBytes, capturedBytes, optField, byteField, bytesOf_length]

/-- A field of one byte, as a byte. -/
theorem byteAt_of_fieldBytes {body : List Byte} {i : Nat} {b : Byte} (h : fieldBytes body i 1 = [b]) :
    byteAt body i = b := by
  rw [fieldBytes] at h
  rw [byteAt, ← List.head?_drop]
  cases hdrop : body.drop i with
  | nil => simp [hdrop] at h
  | cons x xs => simpa [hdrop] using h

section
variable (f : Fr)

theorem Fr.body_length : f.body.length = 32 + f.summary.length := by
  simp [Fr.body, recordBytes_length, summaryByte, byteField_eq, List.length_flatMap]
  omega

theorem Fr.body_record : fieldBytes f.body 0 31 = recordBytes f.record := by
  rw [Fr.body, List.append_assoc, fieldBytes_zero_append (recordBytes_length _)]

theorem Fr.body_count : fieldBytes f.body 31 1 = byteField f.summary.length := by
  simp [Fr.body, recordBytes_length, byteField_eq]

variable {f}

/-- The entries of the summary follow the count, a byte each (R168). -/
theorem Fr.body_entry {i : Nat} {e : SummaryEntry} (h : f.summary[i]? = some e) :
    fieldBytes f.body (32 + i) 1 = summaryByte e := by
  have hhead : (recordBytes f.record ++ byteField f.summary.length).length = 32 := by
    rw [List.length_append, recordBytes_length, byteField_eq, List.length_singleton]
  have hentry := fieldBytes_flatten (fs := f.summary.map summaryByte) (w := 1) (i := i) (f := summaryByte e)
    (List.forall_mem_map.mpr fun x _ => bytesOf_length 1 _) (by rw [List.getElem?_map, h, Option.map_some])
  rw [Fr.body, fieldBytes_append_right (by omega), hhead, Nat.add_sub_cancel_left, List.flatMap_def]
  simpa using hentry

end

/-- Settles O16: a hand-over by its cause, the record and the summary; FAULT READ, each field of the record read off past
the lengths of the fields before it; FAULT CLEAR. -/
theorem faultRecordKeepsTheFirst : Obligations.FaultRecordKeepsTheFirst := by
  refine ⟨fun s n f rest hr htaken => ?handover, fun s p r h => ?read, fun s p r h => exec_faultClear h⟩
  case handover =>
    intro recorded u
    have hexec : ∀ {t}, u.recordFault f = t → exec (.causeHandover n) s = .next t := exec_causeHandover hr htaken
    exact ⟨fun hc => hexec (State.recordFault_unrecorded hc), fun hc hnone => hexec (State.recordFault_first hc hnone),
      fun hc hsome hnew => hexec (State.recordFault_later (s := u) hc hsome (enterSummary_new hnew)),
      fun hc hsome hagain => hexec (State.recordFault_later (s := u) hc hsome (enterSummary_again hagain))⟩
  case read =>
    refine ⟨_, exec_faultRead h, s.fr.body_length, s.fr.body_count, fun i e he => Fr.body_entry he, fun hnone => ?empty,
      fun c hc => ?captured⟩
    case empty =>
      rw [Fr.body_record, hnone]
      rfl
    case captured =>
      refine ⟨?_, ?_, ?_, ?_, ?_, ?presence, ?_, ?_, ?_, ?_, ?_, ?_, ?_, ?_, ?_⟩
      case' presence =>
        rw [byteAt_of_fieldBytes (b := BitVec.ofNat 8 (presenceByte c.data))]
        · exact presenceByte_getLsbD _
      all_goals simp [Fr.body, hc, recordBytes, capturedBytes, optField, byteField_eq, bytesOf_length, optNumber_eq,
        sourceNumber_eq]

end Sys2Proof.Machine
end

section
/-! SUPPORT. isqrt of the Conventions (00_scope.md): each bit settled narrows the range that holds the root. It settles
O27. -/

namespace Sys2Proof.Machine

/-- With the root of `n` at `r` or above it and below `r + 2 ^ k`, the `k` bits that are left settle it: each bit is set
where the square of the midpoint does not exceed `n`. -/
theorem isqrtFrom_isRoot {n k r : Nat} (hle : r * r ≤ n) (hlt : n < (r + 2 ^ k) * (r + 2 ^ k)) :
    isqrtFrom n k r * isqrtFrom n k r ≤ n ∧ n < (isqrtFrom n k r + 1) * (isqrtFrom n k r + 1) := by
  induction k generalizing r with
  | zero => exact ⟨hle, hlt⟩
  | succ k ih =>
    rw [isqrtFrom]
    split
    · next hset =>
      have hupper : r + 2 ^ k + 2 ^ k = r + 2 ^ (k + 1) := by omega
      exact ih hset (hupper ▸ hlt)
    · next hclear => exact ih hle (Nat.lt_of_not_le hclear)

/-- The bits that isqrt settles reach above the root. -/
theorem lt_sq_two_pow_half_log2 (n : Nat) : n < 2 ^ (n.log2 / 2 + 1) * 2 ^ (n.log2 / 2 + 1) :=
  calc n < 2 ^ (n.log2 + 1) := Nat.lt_log2_self
    _ ≤ 2 ^ (n.log2 / 2 + 1 + (n.log2 / 2 + 1)) := Nat.pow_le_pow_right Nat.two_pos (by omega)
    _ = 2 ^ (n.log2 / 2 + 1) * 2 ^ (n.log2 / 2 + 1) := Nat.pow_add ..

/-- Settles O27: at first the root lies between 0 and the power of two above it. -/
theorem isqrtIsGreatestRoot : Obligations.IsqrtIsGreatestRoot := fun n =>
  isqrtFrom_isRoot (r := 0) (Nat.zero_le n) (by simpa using lt_sq_two_pow_half_log2 n)

end Sys2Proof.Machine
end

section
/-! SUPPORT. The queue of waiting commands (log 3, log 30): a step takes its front, and every command completes and
leaves it. It settles O1 and O2. -/

namespace Sys2Proof.Machine

/-! ## The step (log 3) -/

section
variable {s : State}

theorem step_of_pending_cons {c : Instr} {rest : List Instr} (h : s.pending = c :: rest) :
    step s = exec c (s.withPending rest) := by simp [step, h]

theorem step_of_pending_nil (h : s.pending = []) : step s = .next s := by simp [step, h]

/-- The last replacement of the queue stands. -/
@[simp] theorem State.withPending_withPending (s : State) (q r : List Instr) :
    (s.withPending q).withPending r = s.withPending r := rfl

end

/-- Settles O1: the step by the queue that the state was given. -/
theorem stepRunsFrontCommand : Obligations.StepRunsFrontCommand := fun c rest s =>
  ⟨by rw [step_of_pending_cons (s.withPending_pending (c :: rest)), State.withPending_withPending],
    step_of_pending_nil (s.withPending_pending [])⟩

/-! ## Commands that complete and leave the queue (log 30) -/

/-- An outcome is a next state with the queue of waiting commands as `s` has it. -/
def State.CompletesWith (s : State) (o : Host.Outcome State Fault Refusal) : Prop :=
  ∃ t, o = .next t ∧ t.pending = s.pending

section
variable {s : State}

/-- A command whose frame names the queue leaves it. -/
theorem completes_of_frame {o : Host.Outcome State Fault Refusal} {Q : State → Prop}
    (hframe : ∃ t, o = .next t ∧ Q t) (hqueue : ∀ t, Q t → t.pending = s.pending := by intro t ht; simp [ht]) :
    s.CompletesWith o :=
  hframe.imp fun t ⟨ho, ht⟩ => ⟨ho, hqueue t ht⟩

/-- A command that the part takes only while it runs leaves the queue where its effect does. -/
theorem completes_whileRunning {f : State → State} (hf : (f s).pending = s.pending) :
    s.CompletesWith (s.whileRunning f) := by
  refine ⟨_, rfl, ?_⟩
  split
  · rfl
  · exact hf

end

/-- Every command completes and leaves the queue: the four resets set every block and take the queue over, and the frame
of every other command names the queue. -/
theorem exec_completesWith (c : Instr) (s : State) : s.CompletesWith (exec c s) := by
  cases c with
  | powerOnReset => exact ⟨_, rfl, s.resetTo_pending _⟩
  | lineReset =>
    refine completes_whileRunning ?_
    split
    · exact s.resetTo_pending _
    · rfl
  | resetLineRelease =>
    refine ⟨_, rfl, ?_⟩
    split
    · exact s.lineReleased.resetTo_pending _
    · rfl
  | commandedReset =>
    refine completes_whileRunning ?_
    split
    · exact s.resetTo_pending _
    · rfl
  | resetLineAssertion => exact completes_of_frame (execResetLineAssertion_frame s)
  | completeFrame p => exact completes_of_frame (execCompleteFrame_frame p s)
  | frameTimerExpiry p => exact completes_of_frame (execFrameTimerExpiry_frame p s)
  | replyFrameSent p => exact completes_of_frame (execReplyFrameSent_frame p s)
  | silenceTimerExpiry p => exact completes_of_frame (execSilenceTimerExpiry_frame p s)
  | unknownRequestCode => exact completes_of_frame (execUnknownRequestCode_frame s)
  | status => exact completes_of_frame (execStatus_frame s)
  | moverStatus => exact completes_of_frame (execMoverStatus_frame s)
  | notice => exact completes_of_frame (execNotice_frame s)
  | mask => exact completes_of_frame (execMask_frame s)
  | reserve => exact completes_of_frame (execReserve_frame s)
  | release => exact completes_of_frame (execRelease_frame s)
  | move => exact completes_of_frame (execMove_frame s)
  | stop => exact completes_of_frame (execStop_frame s)
  | clear => exact completes_of_frame (execClear_frame s)
  | braceEngage => exact completes_of_frame (execBraceEngage_frame s)
  | braceWithdraw => exact completes_of_frame (execBraceWithdraw_frame s)
  | braceClear => exact completes_of_frame (execBraceClear_frame s)
  | barrierClose => exact completes_of_frame (execBarrierClose_frame s)
  | barrierOpen => exact completes_of_frame (execBarrierOpen_frame s)
  | permitsOff => exact completes_of_frame (execPermitsOff_frame s)
  | permitsOn => exact completes_of_frame (execPermitsOn_frame s)
  | arm => exact completes_of_frame (execArm_frame s)
  | standby => exact completes_of_frame (execStandby_frame s)
  | reset => exact completes_of_frame (execReset_frame s)
  | faultRead => exact completes_of_frame (execFaultRead_frame s)
  | faultClear => exact completes_of_frame (execFaultClear_frame s)
  | configRead => exact completes_of_frame (execConfigRead_frame s)
  | configWrite => exact completes_of_frame (execConfigWrite_frame s)
  | commit => exact completes_of_frame (execCommit_frame s)
  | storageWriteComplete ok => exact completes_of_frame (execStorageWriteComplete_frame ok s)
  | readingArrival bus f => exact completes_of_frame (execReadingArrival_frame bus f s)
  | gapTimerExpiry a role => exact completes_of_frame (execGapTimerExpiry_frame a role s)
  | lossTimerExpiry a => exact completes_of_frame (execLossTimerExpiry_frame a s)
  | validityChange a => exact completes_of_frame (execValidityChange_frame a s)
  | positionUpdateZT m => exact completes_of_frame (execPositionUpdateZT_frame m s)
  | positionUpdateASU m => exact completes_of_frame (execPositionUpdateASU_frame m s)
  | authorityConsumed m => exact completes_of_frame (execAuthorityConsumed_frame m s)
  | positionUpdateMSU m => exact completes_of_frame (execPositionUpdateMSU_frame m s)
  | immediateCauseTaken n => exact completes_of_frame (execImmediateCauseTaken_frame n s)
  | controlledCauseTaken n => exact completes_of_frame (execControlledCauseTaken_frame n s)
  | holdCauseTaken n => exact completes_of_frame (execHoldCauseTaken_frame n s)
  | deviceStateChangeMSU => exact completes_of_frame (execDeviceStateChangeMSU_frame s)
  | tripTimerExpiry m => exact completes_of_frame (execTripTimerExpiry_frame m s)
  | readbackTimerExpiry m => exact completes_of_frame (execReadbackTimerExpiry_frame m s)
  | readbackContactChange m closed => exact completes_of_frame (execReadbackContactChange_frame m closed s)
  | stepTimerExpiry => exact completes_of_frame (execStepTimerExpiry_frame s)
  | moverStateChange => exact completes_of_frame (execMoverStateChange_frame s)
  | loopChannelChange c closed => exact completes_of_frame (execLoopChannelChange_frame c closed s)
  | loopFilterExpiry c => exact completes_of_frame (execLoopFilterExpiry_frame c s)
  | discrepancyTimerExpiry => exact completes_of_frame (execDiscrepancyTimerExpiry_frame s)
  | driveTripInputChange m active => exact completes_of_frame (execDriveTripInputChange_frame m active s)
  | driveTripFilterExpiry m => exact completes_of_frame (execDriveTripFilterExpiry_frame m s)
  | braceSwitchChange b engaged withdrawn =>
    exact completes_of_frame (execBraceSwitchChange_frame b engaged withdrawn s)
  | braceSwitchLoss => exact completes_of_frame (execBraceSwitchLoss_frame s)
  | operationTimerExpiry b => exact completes_of_frame (execOperationTimerExpiry_frame b s)
  | cutShort => exact completes_of_frame (execCutShort_frame s)
  | demandConditionTest src => exact completes_of_frame (execDemandConditionTest_frame s src)
  | anemometerPulse n => exact completes_of_frame (execAnemometerPulse_frame n s)
  | intervalClosure => exact completes_of_frame (execIntervalClosure_frame s)
  | noticePosting src => exact completes_of_frame (execNoticePosting_frame src s)
  | causeHandover n => exact completes_of_frame (execCauseHandover_frame n s)
  | stationPortByte p b framingError => exact completes_of_frame (execStationPortByte_frame p b framingError s)

/-- Settles O2: command by command. -/
theorem everyCommandCompletes : Obligations.EveryCommandCompletes := exec_completesWith

end Sys2Proof.Machine
end

section
/-! SUPPORT. The records of movers, their authority and relays, the arming step and the commit in flight: the laws that every
step keeps (chapters 4, 6 and 9, R153). It settles O57. -/

namespace Sys2Proof.Machine

/-! ## The laws of one mover's records (R60, R93, R103) -/

/-- What `State.MoverSound` says of a mover's record and its authority record; `tested` stands for the close phase of the
relay's own test. -/
def MoverRec.SoundWith (r : MoverRec) (a : Authority) (tested : Prop) : Prop :=
  r.Sound ∧ a.Sound r.state ∧ (r.relayClosed = true → r.state.hasAuthority = true ∨ tested)

theorem State.moverSound_iff {s : State} {m : Mover} : s.MoverSound m
    ↔ (s.msu.get m).SoundWith (s.authorityOf m) (s.dsu.armingStep = some (m, .close)) := Iff.rfl

/-- Whether an authority record has the direction and the end a mover with authority must have (R60). -/
def Authority.Given (a : Authority) : Prop := a.direction ≠ none ∧ a.authorityEnd ≠ none

theorem Authority.Given.sound {a : Authority} {st : MoverState} (h : a.Given) (hst : st.hasAuthority = true) :
    a.Sound st := by
  refine ⟨fun _ => h, fun hrest => ?_⟩
  rw [MoverState.moving_of_hasAuthority hst] at hrest
  cases hrest

/-- R60: neither direction nor end is asked of a mover at rest. -/
theorem Authority.ended_sound (a : Authority) {st : MoverState} (hst : st.atRest = true) : a.ended.Sound st := by
  refine ⟨fun hauth => ?_, fun _ => ⟨rfl, rfl, rfl, rfl, rfl⟩⟩
  rw [MoverState.moving_of_hasAuthority hauth] at hst
  cases hst

/-- R60 asks nothing of the record of a Tripped mover. -/
theorem Authority.tripped_sound (a : Authority) : a.Sound .tripped := ⟨nofun, nofun⟩

namespace MoverRec.SoundWith

variable {r : MoverRec} {a : Authority} {tested : Prop}

theorem given (h : r.SoundWith a tested) (hauth : r.state.hasAuthority = true) : a.Given := h.2.1.1 hauth

/-- A relay counts as tested under any condition that holds where the former did. -/
theorem underTest (h : r.SoundWith a tested) {tested' : Prop} (htest : tested → tested') : r.SoundWith a tested' :=
  ⟨h.1, h.2.1, fun hclosed => (h.2.2 hclosed).imp_right htest⟩

/-- R103: a relay commanded open needs neither authority nor a test. -/
theorem opened (h : r.SoundWith a tested) (tested' : Prop) (timer : Bool) :
    ({ r with relayClosed := false, readbackTimer := timer } : MoverRec).SoundWith a tested' := ⟨h.1, h.2.1, nofun⟩

/-- R138: a relay under its own test is commanded to the phase's state, and closed only in the close phase. -/
theorem commanded (h : r.SoundWith a tested) {closed : Bool} {tested' : Prop} (htest : closed = true → tested') :
    ({ r with relayClosed := closed } : MoverRec).SoundWith a tested' := ⟨h.1, h.2.1, fun hclosed => .inr (htest hclosed)⟩

/-- A mover with authority may have another end and direction, so long as it has both. -/
theorem regiven (h : r.SoundWith a tested) {b : Authority} (hauth : r.state.hasAuthority = true) (hb : b.Given) :
    r.SoundWith b tested := ⟨h.1, hb.sound hauth, h.2.2⟩

theorem stopEnd_none (h : r.SoundWith a tested) (hst : r.state ≠ .stopping) : r.stopEnd = none := by
  by_contra hend
  exact hst (h.1.1.mp hend)

theorem timer_stopped (h : r.SoundWith a tested) (hst : r.state ≠ .tripped) : ¬ r.tripTimer.isRunning = true :=
  fun hrunning => hst (h.1.2.1 hrunning)

/-- R103: without authority a relay is closed for its own test alone. -/
theorem tested_of_closed (h : r.SoundWith a tested) (hst : r.state.hasAuthority = false) (hclosed : r.relayClosed = true) :
    tested := (h.2.2 hclosed).resolve_left (by simp [hst])

/-- R99: a Parked mover goes to Halted. -/
theorem halted (h : r.SoundWith a tested) (hst : r.state = .parked) (c : Option Cause) (halts : List Cause) :
    ({ r with state := .halted, stopCause := c, haltCauses := halts } : MoverRec).SoundWith a.ended tested := by
  have hend := h.stopEnd_none (by simp [hst])
  have htimer := h.timer_stopped (by simp [hst])
  exact ⟨⟨by simp [hend], fun hrunning => absurd hrunning htimer, nofun⟩, a.ended_sound rfl,
    fun hclosed => .inr (h.tested_of_closed (by simp [hst, MoverState.hasAuthority]) hclosed)⟩

/-- R96: a mover with authority goes to Stopping. -/
theorem stopping (h : r.SoundWith a tested) (hst : r.state = .permitted) (c : Option Cause) (e : StopEnd)
    (halts : List Cause) :
    ({ r with state := .stopping, stopCause := c, stopEnd := some e, haltCauses := halts } : MoverRec).SoundWith a
      tested := by
  have htimer := h.timer_stopped (by simp [hst])
  exact ⟨⟨by simp, fun hrunning => absurd hrunning htimer, nofun⟩,
    Authority.Given.sound (h.given (by simp [hst, MoverState.hasAuthority])) rfl, fun _ => .inl rfl⟩

/-- R98, R99: a mover that is not Parked may have any stop cause and halt causes, and a Stopping one any stop end. -/
theorem recaused (h : r.SoundWith a tested) (hst : r.state ≠ .parked) (c : Option Cause) (halts : List Cause)
    {e : Option StopEnd} (he : e ≠ none ↔ r.state = .stopping) :
    ({ r with stopEnd := e, stopCause := c, haltCauses := halts } : MoverRec).SoundWith a tested :=
  ⟨⟨he, h.1.2.1, fun hparked => absurd hparked hst⟩, h.2⟩

/-- R97, R79: a mover with authority parks, its relay commanded open. -/
theorem parks (h : r.SoundWith a tested) (hst : r.state.hasAuthority = true) (lead : Option Int) (timer : Bool) :
    ({ r with
      state := .parked, stopCause := none, stopEnd := none, haltCauses := [], parkedPosition := lead
      uncommandedOpen := false, relayClosed := false, readbackTimer := timer } : MoverRec).SoundWith a.ended tested := by
  have htimer := h.timer_stopped (by rintro htripped; simp [htripped, MoverState.hasAuthority] at hst)
  exact ⟨⟨by simp, fun hrunning => absurd hrunning htimer, fun _ => ⟨rfl, rfl⟩⟩, a.ended_sound rfl, nofun⟩

/-- R97: a mover with authority comes to rest Halted, its relay commanded open. -/
theorem stops (h : r.SoundWith a tested) (hst : r.state.hasAuthority = true) (lead : Option Int) (timer : Bool) :
    ({ r with
      state := .halted, stopEnd := none, parkedPosition := lead, uncommandedOpen := false, relayClosed := false
      readbackTimer := timer } : MoverRec).SoundWith a.ended tested := by
  have htimer := h.timer_stopped (by rintro htripped; simp [htripped, MoverState.hasAuthority] at hst)
  exact ⟨⟨by simp, fun hrunning => absurd hrunning htimer, nofun⟩, a.ended_sound rfl, nofun⟩

/-- R100: a Tripped mover goes to Halted. -/
theorem tripEnds (h : r.SoundWith a tested) (hst : r.state = .tripped) (lead : Option Int) :
    ({ r with
      state := .halted, tripTimer := .stopped, parkedPosition := lead, uncommandedOpen := false } : MoverRec).SoundWith
      a.ended tested := by
  have hend := h.stopEnd_none (by simp [hst])
  exact ⟨⟨by simp [hend], nofun, nofun⟩, a.ended_sound rfl,
    fun hclosed => .inr (h.tested_of_closed (by simp [hst, MoverState.hasAuthority]) hclosed)⟩

/-- R107: a Halted mover goes to Parked, without a cause. -/
theorem clears (h : r.SoundWith a tested) (hst : r.state = .halted) (lead : Option Int) :
    ({ r with
      state := .parked, stopCause := none, haltCauses := [], parkedPosition := lead
      uncommandedOpen := false } : MoverRec).SoundWith a.ended tested := by
  have hend := h.stopEnd_none (by simp [hst])
  have htimer := h.timer_stopped (by simp [hst])
  exact ⟨⟨by simp [hend], fun hrunning => absurd hrunning htimer, fun _ => ⟨rfl, rfl⟩⟩, a.ended_sound rfl,
    fun hclosed => .inr (h.tested_of_closed (by simp [hst, MoverState.hasAuthority]) hclosed)⟩

/-- R65: a Parked mover goes to Permitted, with an end and a direction given. -/
theorem permitted (h : r.SoundWith a tested) (hst : r.state = .parked) {b : Authority} (hb : b.Given) (timer : Bool) :
    ({ r with
      state := .permitted, haltCauses := [], uncommandedOpen := false, relayClosed := true
      readbackTimer := timer } : MoverRec).SoundWith b tested := by
  have hend := h.stopEnd_none (by simp [hst])
  have htimer := h.timer_stopped (by simp [hst])
  exact ⟨⟨by simp [hend], fun hrunning => absurd hrunning htimer, nofun⟩, hb.sound rfl, fun _ => .inl rfl⟩

/-- R101: a trip timer that has expired runs no more. -/
theorem timerExpires (h : r.SoundWith a tested) : ({ r with tripTimer := .expired } : MoverRec).SoundWith a tested :=
  ⟨⟨h.1.1, nofun, h.1.2.2⟩, h.2⟩

end MoverRec.SoundWith

/-- R99, R102: the record of a mover that trips, whatever it was before. -/
theorem State.trippedRecord_sound (s : State) (m : Mover) (c : Cause) (halts : List Cause) (a : Authority) (tested : Prop) :
    (s.trippedRecord m c halts).SoundWith a tested := ⟨⟨by simp [State.trippedRecord], fun _ => rfl, nofun⟩, a.tripped_sound, nofun⟩

/-! ## What the laws read of the state -/

section
variable {s t : State} {m : Mover}

/-- The laws read MSU's records, the authority records, DSU and CS alone. -/
theorem State.MoversSound.of_records (h : s.MoversSound) (hmsu : t.msu = s.msu := by simp)
    (hauth : t.asu.authority = s.asu.authority := by simp) (hdsu : t.dsu = s.dsu := by simp) (hcs : t.cs = s.cs := by simp) :
    t.MoversSound := by
  simpa only [State.MoversSound, State.MoverSound, State.RelaySound, State.moverState, State.authorityOf, hmsu, hauth,
    hdsu, hcs] using h

/-- The laws hold where one mover's records are replaced by sound ones. -/
theorem State.MoversSound.change (h : s.MoversSound) {r : MoverRec} {a : Authority}
    (hr : r.SoundWith a (s.dsu.armingStep = some (m, .close))) (hmsu : t.msu = s.msu.set m r)
    (hauth : t.asu.authority = s.asu.authority.set m a) (hdsu : t.dsu = s.dsu := by simp) (hcs : t.cs = s.cs := by simp) :
    t.MoversSound := by
  obtain ⟨hmovers, hstep, hcommit⟩ := h
  refine ⟨fun o => ?_, by rwa [hdsu], by rwa [hcs, hdsu]⟩
  rw [State.moverSound_iff, State.authorityOf, hmsu, hauth, hdsu]
  by_cases ho : o = m
  · subst ho
    simpa using hr
  · rw [PerMover.get_set_of_ne _ _ _ _ ho, PerMover.get_set_of_ne _ _ _ _ ho]
    exact hmovers o

/-- The same where MSU's record alone is replaced. -/
theorem State.MoversSound.setMover (h : s.MoversSound) {r : MoverRec}
    (hr : r.SoundWith (s.authorityOf m) (s.dsu.armingStep = some (m, .close))) : (s.setMover m r).MoversSound :=
  h.change hr rfl (PerMover.set_get_self _ _).symm rfl rfl

/-- The same where the authority record alone is replaced, of a mover that keeps direction and end. -/
theorem State.MoversSound.regiven (h : s.MoversSound) {a : Authority} (hm : (s.moverState m).hasAuthority = true)
    (hauth : t.asu.authority = s.asu.authority.set m a) (ha : a.Given) (hmsu : t.msu = s.msu := by simp)
    (hdsu : t.dsu = s.dsu := by simp) (hcs : t.cs = s.cs := by simp) : t.MoversSound :=
  h.change ((State.moverSound_iff.mp (h.1 m)).regiven hm ha) (hmsu.trans (PerMover.set_get_self _ _).symm) hauth hdsu hcs

theorem State.MoversSound.records (h : s.MoversSound) (m : Mover) :
    (s.msu.get m).SoundWith (s.authorityOf m) (s.dsu.armingStep = some (m, .close)) := h.1 m

/-- What is in flight is none of the laws' concern: so a notice posted or a cause handed on keeps them. -/
theorem State.MoversSound.withHand (h : s.MoversSound) (x : Handovers) : (s.withHand x).MoversSound := h

theorem State.MoversSound.parkingConversion (h : s.MoversSound) (m : Mover) : (s.parkingConversion m).MoversSound :=
  h.of_records

/-- R136: outside Arming no relay is under test. -/
theorem State.MoversSound.step_none (h : s.MoversSound) (hs : s.dsu.state ≠ .arming) : s.dsu.armingStep = none := by
  by_contra hstep
  exact hs (h.2.1.mp hstep)

/-- R136: in Arming a relay is under test. -/
theorem State.MoversSound.step_some (h : s.MoversSound) (hs : s.dsu.state = .arming) :
    ∃ m ph, s.dsu.armingStep = some (m, ph) := by
  obtain ⟨⟨m, ph⟩, hstep⟩ := Option.ne_none_iff_exists'.mp (h.2.1.mpr hs)
  exact ⟨m, ph, hstep⟩

/-- R10: outside Configuring no storage write is in flight. -/
theorem State.MoversSound.commit_none (h : s.MoversSound) (hs : s.dsu.state ≠ .configuring) : s.cs.commit = none := by
  by_contra hcommit
  exact hs (h.2.2 hcommit).1

end

/-! ## The authority and ceilings of movers that have authority (R50, R60, R66, R68, R75, R96) -/

section
variable {s : State} {m : Mover}

/-- R72: a cap descent worked out again touches the cap in use and the descent alone. -/
theorem workDescent_caps (g : MoverParams) (d : Direction) (lead : Int) (a : Authority) :
    ∃ cap descent, workDescent g d lead a = { a with capInUse := cap, descent := descent } := by
  simp only [workDescent]
  split
  · exact ⟨_, _, rfl⟩
  · split <;> exact ⟨_, _, rfl⟩

/-- R71: the comparison touches the caps and the descent alone. -/
theorem compareCap_caps (g : MoverParams) (d : Direction) (lead target : Int) (a : Authority) :
    ∃ cap descent, compareCap g d lead target a = { a with targetCap := target, capInUse := cap, descent := descent } := by
  simp only [compareCap]
  split
  · exact ⟨_, _, rfl⟩
  · split
    · split <;> exact ⟨_, _, rfl⟩
    · exact ⟨_, _, rfl⟩

/-- Stage 4 touches the caps and the descent alone (R71, R72). -/
theorem stageCap_caps (g : MoverParams) (d : Direction) (lead target : Int) (work : CapWork) (a : Authority) :
    ∃ targetCap cap descent, stageCap g d lead target work a
      = { a with targetCap := targetCap, capInUse := cap, descent := descent } := by
  cases work with
  | afresh => exact ⟨_, _, _, rfl⟩
  | asItStands => exact ⟨_, _, _, rfl⟩
  | compared =>
    obtain ⟨_, _, hworked⟩ := workDescent_caps g d lead a
    obtain ⟨_, _, hcompared⟩ := compareCap_caps g d lead target (workDescent g d lead a)
    rw [stageCap_compared, hcompared, hworked]
    exact ⟨_, _, _, rfl⟩

/-- A computation of the ceilings replaces the mover's own authority record, and leaves its direction and end. -/
theorem State.computeCeilings_authority (s : State) (m : Mover) (mo : Motion) (work : CapWork) :
    ∃ a, (s.computeCeilings m mo work).asu.authority = s.asu.authority.set m a
      ∧ a.direction = (s.authorityOf m).direction ∧ a.authorityEnd = (s.authorityOf m).authorityEnd := by
  simp only [State.computeCeilings]
  split
  · next d _ _ _ =>
    obtain ⟨_, _, _, hcaps⟩ := stageCap_caps (s.params m) d mo.lead
      (targetCapOf (s.params m) (isPanel m) s.wm.state mo.substituted) work (s.authorityOf m)
    exact ⟨_, rfl, by rw [hcaps], by rw [hcaps]⟩
  · exact ⟨_, (PerMover.set_get_self _ _).symm, rfl, rfl⟩

theorem State.MoversSound.computeCeilings (h : s.MoversSound) (hm : (s.moverState m).hasAuthority = true) (mo : Motion)
    (work : CapWork) : (s.computeCeilings m mo work).MoversSound := by
  obtain ⟨a, hauth, hd, he⟩ := s.computeCeilings_authority m mo work
  exact h.regiven hm hauth (by rw [Authority.Given, hd, he]; exact (h.records m).given hm)

theorem State.MoversSound.computeCeilingsNow (h : s.MoversSound) (hm : (s.moverState m).hasAuthority = true)
    (fresh : Bool) : (s.computeCeilingsNow m fresh).MoversSound := by
  unfold State.computeCeilingsNow
  split
  · exact h.computeCeilings hm _ _
  · exact h

/-- R66: the clip sets the end of a mover with authority alone. -/
theorem State.MoversSound.clipOne (h : s.MoversSound) (view : Mover → Option Motion) (m : Mover) :
    (s.clipOne view m).MoversSound := by
  simp only [State.clipOne]
  split
  · next hd _ _ =>
    split
    · next hm => exact h.regiven hm rfl ⟨by simp [hd], nofun⟩
    · exact h
  · exact h

theorem State.MoversSound.clipAll (h : s.MoversSound) (u : PositionUpdate) : (s.clipAll u).MoversSound := by
  unfold State.clipAll
  split
  · exact foldl_preserves State.MoversSound _ (fun t q ht => ht.clipOne _ q) _ _ h
  · exact h

/-- R50: a release draws the end back, and no more. -/
theorem State.MoversSound.shortenAuthority (h : s.MoversSound) (hm : (s.moverState m).hasAuthority = true) :
    (s.shortenAuthority m).MoversSound := by
  simp only [State.shortenAuthority]
  split
  · next hd _ _ => exact h.regiven hm rfl ⟨by simp [hd], nofun⟩
  · exact h

theorem State.MoversSound.spreadTest (h : s.MoversSound) (u : PositionUpdate) : (s.spreadTest u).MoversSound := by
  simp only [State.spreadTest]
  split
  · exact h
  · split
    · split <;> split <;> exact h.of_records
    · exact h

/-- R75: supervision marks the record of a mover with authority. -/
theorem State.MoversSound.superviseCeiling (h : s.MoversSound) {u : PositionUpdate}
    (hm : (s.moverState u.mover).hasAuthority = true) (forward : Int) : (s.superviseCeiling u forward).MoversSound := by
  have hgiven := (h.records u.mover).given hm
  simp only [State.superviseCeiling]
  split <;> exact h.regiven hm rfl hgiven

theorem State.MoversSound.supervise (h : s.MoversSound) {u : PositionUpdate}
    (hm : (s.moverState u.mover).hasAuthority = true) : (s.supervise u).MoversSound := by
  have hcauses : ∀ {t : State} (cs : List Cause), t.MoversSound → (t.raiseEach u cs).MoversSound :=
    fun cs ht => ht.of_records
  have hconsumed : ∀ {consumed : Prop} [Decidable consumed] {t : State}, t.MoversSound →
      (if consumed then t.handConsumed u.mover else t).MoversSound := by
    intro consumed _ t ht
    split
    · exact ht.withHand _
    · exact ht
  simp only [State.supervise]
  split
  · next d _ _ _ _ _ =>
    have hmarked := h.superviseCeiling hm (u.axisSpeed * d.sign)
    have hchecked : ((s.superviseCeiling u (u.axisSpeed * d.sign)).superviseIntervention u
        (u.axisSpeed * d.sign)).1.MoversSound := hmarked.of_records (hauth := rfl)
    exact hconsumed (hcauses _ hchecked)
  · exact h

/-- R68. -/
theorem State.MoversSound.superviseUpdate (h : s.MoversSound) (u : PositionUpdate) :
    (s.superviseUpdate u).MoversSound := by
  have hclipped := h.clipAll u
  have hstate : ∀ q, (s.clipAll u).moverState q = s.moverState q := fun q => by simp [State.moverState]
  unfold State.superviseUpdate
  dsimp only
  split
  · next hm =>
    split
    · next mo _ =>
      have hcomputed := hclipped.computeCeilings (m := u.mover) (by rwa [hstate]) mo .compared
      exact (hcomputed.spreadTest u).supervise (by simpa [State.moverState] using hm)
    · exact (hclipped.spreadTest u).supervise (by simpa [State.moverState] using hm)
  · exact hclipped.spreadTest u

/-- R68, one update taken. -/
theorem State.MoversSound.takeUpdateAsu (h : s.MoversSound) (m : Mover) : (s.takeUpdateAsu m).MoversSound := by
  unfold State.takeUpdateAsu
  split
  · exact (h.withHand _).superviseUpdate _
  · exact h

/-! ## The states of a mover (R96 to R107) -/

/-- R99, R102. -/
theorem State.MoversSound.tripMover (h : s.MoversSound) (m : Mover) (c : Cause) (halts : List Cause) :
    (s.tripMover m c halts).MoversSound := by
  rw [State.tripMover_fields]
  exact h.change (s.trippedRecord_sound m c halts _ _) rfl rfl rfl rfl

/-- R99, a Parked mover. -/
theorem State.MoversSound.haltParked (h : s.MoversSound) (hm : s.moverState m = .parked) (c : Cause) :
    (s.haltParked m c).MoversSound := by
  refine State.MoversSound.withHand (State.MoversSound.parkingConversion ?_ m) _
  exact h.change ((h.records m).halted hm _ _) rfl rfl rfl rfl

/-- R99, a Tripped or Halted mover. -/
theorem State.MoversSound.joinHaltCauses (h : s.MoversSound) (hm : s.moverState m ≠ .parked) (c : Cause) :
    (s.joinHaltCauses m c).MoversSound :=
  h.setMover ((h.records m).recaused hm _ _ (h.records m).1.1)

theorem State.MoversSound.applyImmediate (h : s.MoversSound) (c : Cause) (m : Mover) :
    (s.applyImmediate c m).MoversSound := by
  unfold State.applyImmediate
  split
  · exact h.tripMover m c _
  · exact h.tripMover m c _
  · next hm => exact h.haltParked hm c
  · next hm => exact h.joinHaltCauses (by simp [hm]) c
  · next hm => exact h.joinHaltCauses (by simp [hm]) c

/-- R96. -/
theorem State.MoversSound.drawBack (h : s.MoversSound) (hm : (s.moverState m).hasAuthority = true) :
    (s.drawBack m).MoversSound := by
  simp only [State.drawBack]
  split
  · next hd _ _ => exact h.regiven hm rfl ⟨by simp [hd], nofun⟩
  · exact h

/-- R96. -/
theorem State.MoversSound.startStop (h : s.MoversSound) (hm : s.moverState m = .permitted) (c : Cause) :
    (s.startStop c m).MoversSound := by
  have hstopping := h.setMover ((h.records m).stopping hm (some c) (endOfCause c)
    (if isHalting c then addCause c (s.msu.get m).haltCauses else (s.msu.get m).haltCauses))
  set s1 := s.setMover m { s.msu.get m with
    state := .stopping, stopCause := some c, stopEnd := some (endOfCause c)
    haltCauses := if isHalting c then addCause c (s.msu.get m).haltCauses else (s.msu.get m).haltCauses } with hs1
  have hauth : (s1.moverState m).hasAuthority = true := by
    simp [hs1, State.moverState, State.setMover, MoverState.hasAuthority]
  have hdrawn : ((s1.drawBack m).moverState m).hasAuthority = true := by simpa [State.moverState] using hauth
  exact ((hstopping.drawBack hauth).computeCeilingsNow hdrawn false).withHand _

/-- R98. -/
theorem State.MoversSound.hardenStop (h : s.MoversSound) (hm : s.moverState m = .stopping) (c : Cause) :
    (s.hardenStop c m).MoversSound := by
  have hparked : (s.msu.get m).state ≠ .parked := by rw [show (s.msu.get m).state = .stopping from hm]; simp
  simp only [State.hardenStop]
  split
  · have hhardened := fun c' halts => h.setMover ((h.records m).recaused hparked c' halts (e := some .halted)
      (by simp [show (s.msu.get m).state = .stopping from hm]))
    split
    · exact hhardened _ _
    · exact (hhardened _ _).withHand _
  · exact h

theorem State.MoversSound.applyCause (h : s.MoversSound) (c : Cause) (m : Mover) : (s.applyCause c m).MoversSound := by
  have hcontrolled : (s.applyControlled c m).MoversSound := by
    unfold State.applyControlled
    split
    · next hm => exact h.startStop hm c
    · next hm => exact h.hardenStop hm c
    all_goals exact h
  unfold State.applyCause
  split
  · exact h.applyImmediate c m
  · exact hcontrolled
  · exact h
  · exact h

/-- R94. -/
theorem State.MoversSound.takeCause (h : s.MoversSound) (c : CauseMessage) : (s.takeCause c).MoversSound := by
  have hcauses : (c.scope.movers.foldl (fun t m => t.applyCause c.cause m) s).MoversSound :=
    foldl_preserves State.MoversSound _ (fun _ m ht => ht.applyCause c.cause m) _ _ h
  exact hcauses.withHand _

theorem State.MoversSound.takeCauseOf (h : s.MoversSound) (c : CauseClass) (n : Nat) : (s.takeCauseOf c n).MoversSound := by
  unfold State.takeCauseOf
  split
  · exact (h.withHand _).takeCause _
  · exact h

/-- R97, R79. -/
theorem State.MoversSound.comeToRest (h : s.MoversSound) (hm : (s.moverState m).hasAuthority = true) (e : StopEnd)
    (lead : Int) : (s.comeToRest m e lead).MoversSound := by
  cases e with
  | parked =>
    rw [State.comeToRest_parked]
    refine State.MoversSound.withHand (State.MoversSound.parkingConversion ?_ m) _
    exact h.change ((h.records m).parks hm _ _) rfl rfl rfl rfl
  | halted =>
    rw [State.comeToRest_halted]
    refine State.MoversSound.parkingConversion ?_ m
    exact h.change ((h.records m).stops hm _ _) rfl rfl rfl rfl

/-- R100. -/
theorem State.MoversSound.endTrip (h : s.MoversSound) (hm : s.moverState m = .tripped) (lead : Int) :
    (s.endTrip m lead).MoversSound := by
  refine State.MoversSound.parkingConversion ?_ m
  exact h.change ((h.records m).tripEnds hm _) rfl rfl rfl rfl

/-- R79. -/
theorem State.MoversSound.takeConsumption (h : s.MoversSound) (m : Mover) : (s.takeConsumption m).MoversSound := by
  have hconsume : ∀ {t : State}, t.MoversSound → (t.consume m).MoversSound := by
    intro t ht
    unfold State.consume
    dsimp only
    split
    · next hm _ _ _ =>
      split
      · exact ht.comeToRest (by simp [hm, MoverState.hasAuthority]) _ _
      · exact ht
    · exact ht
  unfold State.takeConsumption
  split
  · exact hconsume (h.withHand _)
  · exact h

/-- R106: the parked position and the excursion are none of the laws' concern. -/
theorem State.MoversSound.watchRest (h : s.MoversSound) (u : PositionUpdate) : (s.watchRest u).MoversSound := by
  have hopen : ∀ away, (s.setMover u.mover { s.msu.get u.mover with uncommandedOpen := away }).MoversSound :=
    fun _ => h.setMover (h.records u.mover)
  unfold State.watchRest
  dsimp only
  split
  · split
    · exact (hopen _).takeCause _
    · exact hopen _
  · exact h

/-- R97, R100, R106. -/
theorem State.MoversSound.followMover (h : s.MoversSound) (u : PositionUpdate) : (s.followMover u).MoversSound := by
  unfold State.followMover
  split
  · exact h.watchRest u
  · exact h.watchRest u
  · next hm _ =>
    split
    · exact h.comeToRest (by simp [hm, MoverState.hasAuthority]) _ _
    · exact h
  · next hm _ =>
    split
    · exact h.endTrip hm _
    · exact h
  all_goals exact h

theorem State.MoversSound.takeUpdateMsu (h : s.MoversSound) (m : Mover) : (s.takeUpdateMsu m).MoversSound := by
  have hfirst : ∀ {t : State} (u : PositionUpdate), t.MoversSound → (t.recordFirst u).MoversSound := by
    intro t u ht
    unfold State.recordFirst
    split
    · exact ht.setMover (ht.records u.mover)
    · exact ht
  unfold State.takeUpdateMsu
  split
  · exact (hfirst _ (h.withHand _)).followMover _
  · exact h

/-- R102. -/
theorem State.MoversSound.takeDeviceChange (h : s.MoversSound) : s.takeDeviceChange.MoversSound := by
  have htrip : ∀ (t : State) q, t.MoversSound → (t.tripOnDevice q).MoversSound := by
    intro t q ht
    unfold State.tripOnDevice
    split
    · exact ht.tripMover q _ _
    · exact ht
  unfold State.takeDeviceChange
  split
  · unfold State.followDevice
    split
    · exact foldl_preserves State.MoversSound _ htrip _ _ (h.withHand _)
    · exact h.withHand _
  · exact h

/-- R107. -/
theorem State.MoversSound.clearMover (h : s.MoversSound) (hm : s.moverState m = .halted) : (s.clearMover m).MoversSound := by
  refine State.MoversSound.parkingConversion ?_ m
  exact h.change ((h.records m).clears hm _) rfl rfl rfl rfl

/-- R65: the record of a mover that a grant takes from Parked to Permitted, and what is handed on. -/
theorem State.permit_eq (s : State) (m : Mover) : s.permit m = (s.setMover m { s.msu.get m with
    state := .permitted, haltCauses := [], uncommandedOpen := false, relayClosed := true
    readbackTimer := (s.msu.get m).readbackTimer || !(s.msu.get m).relayClosed }).handMoverChange m .permitted := by
  simp [State.permit, State.commandRelay_close, State.setMover_setMover]

/-- R65: the ceilings at a grant, after the lead has been formed anew where the grant is from Parked or a reversal. -/
theorem State.MoversSound.computeGranted (h : s.MoversSound) (hm : (s.moverState m).hasAuthority = true) (fresh : Bool) :
    ((if fresh then s.restartFurthest m else s).computeCeilingsNow m fresh).MoversSound := by
  split
  · exact State.MoversSound.computeCeilingsNow h.of_records (by simpa [State.moverState] using hm) _
  · exact h.computeCeilingsNow hm _

/-- R65: the authority record of a grant: its direction, its end and its source. -/
def State.authorised (s : State) (port : Port) (m : Mover) (d : Direction) (position : Int) : State :=
  s.setAuthority m { s.authorityOf m with direction := some d, authorityEnd := some position, source := some port }

theorem State.grantMove_parked (hm : s.moverState m = .parked) (port : Port) (d : Direction) (position : Int) :
    s.grantMove port m d position
      = (((s.authorised port m d position).permit m).restartFurthest m).computeCeilingsNow m true := by
  simp only [State.grantMove, State.authorised, State.isFresh, hm, beq_self_eq_true, Bool.true_or, if_true]

theorem State.grantMove_moving (hm : s.moverState m ≠ .parked) (port : Port) (d : Direction) (position : Int) :
    s.grantMove port m d position = (if s.isReversal m d then (s.authorised port m d position).restartFurthest m
      else s.authorised port m d position).computeCeilingsNow m (s.isReversal m d) := by
  simp only [State.grantMove, State.authorised, State.isFresh, beq_eq_false_iff_ne.mpr hm, Bool.false_or, if_neg hm]

/-- R65: a grant. It is made to a Parked mover or to one with authority. -/
theorem State.MoversSound.grantMove (h : s.MoversSound) (port : Port) (d : Direction) (position : Int)
    (hm : s.moverState m = .parked ∨ (s.moverState m).hasAuthority = true) :
    (s.grantMove port m d position).MoversSound := by
  by_cases hparked : s.moverState m = .parked
  · have hpermitted : ((s.authorised port m d position).permit m).MoversSound := by
      rw [State.permit_eq]
      exact h.change ((h.records m).permitted hparked (b := { s.authorityOf m with
        direction := some d, authorityEnd := some position, source := some port }) ⟨nofun, nofun⟩ _) rfl rfl rfl rfl
    rw [State.grantMove_parked hparked]
    refine hpermitted.computeGranted ?_ true
    simp [State.moverState, State.permit_eq, State.setMover, MoverState.hasAuthority]
  · have hauth := hm.resolve_left hparked
    have hgiven : (s.authorised port m d position).MoversSound := h.regiven hauth rfl ⟨nofun, nofun⟩ rfl rfl rfl
    rw [State.grantMove_moving hparked]
    exact hgiven.computeGranted hauth _

end

/-! ## The device state and the relay test (R136 to R142) -/

section
variable {s t : State} {m : Mover}

/-- The laws of a mover whose records are left alone, where its own test, if one was in its close phase, still is. -/
theorem State.MoverSound.of_step (h : s.MoverSound m) (hmsu : t.msu.get m = s.msu.get m)
    (hauth : t.asu.authority = s.asu.authority)
    (hstep : s.dsu.armingStep = some (m, .close) → t.dsu.armingStep = some (m, .close)) : t.MoverSound m := by
  rw [State.moverSound_iff, State.authorityOf, hmsu, hauth]
  exact (State.moverSound_iff.mp h).underTest hstep

/-- The laws of a mover whose record is a new one, met with the authority as it stands. -/
theorem State.MoverSound.of_get {r : MoverRec} (hget : t.msu.get m = r) (hauth : t.asu.authority = s.asu.authority)
    (hr : r.SoundWith (s.authorityOf m) (t.dsu.armingStep = some (m, .close))) : t.MoverSound m := by
  rw [State.moverSound_iff, State.authorityOf, hget, hauth]
  exact hr

/-- What ASU, MSU, DSU and SLU hand on is none of the laws' concern. -/
theorem State.MoversSound.post (h : s.MoversSound) (b : Block) (r : List Port) (n : Notice) : (s.post b r n).MoversSound := h

theorem State.MoversSound.handFault (h : s.MoversSound) (f : FaultMessage) : (s.handFault f).MoversSound := h

theorem State.MoversSound.raise (h : s.MoversSound) (c : CauseMessage) : (s.raise c).MoversSound := h.of_records

theorem State.MoversSound.outputsOff (h : s.MoversSound) : s.outputsOff.MoversSound := h.of_records

theorem State.MoversSound.handCut (h : s.MoversSound) (e : CutEvent) : (s.handCut e).MoversSound := h.of_records

theorem State.MoversSound.reply (h : s.MoversSound) (p : Port) (tag : Byte) (a : Answer) :
    (s.reply p tag a).MoversSound := h.of_records

/-- R136: a change of the device state, other than to or from Arming, while no storage write is in flight. -/
theorem State.MoversSound.changeDevice (h : s.MoversSound) (hfrom : s.dsu.state ≠ .arming) {d : DeviceState}
    (hto : d ≠ .arming) (hcommit : s.cs.commit = none) : (s.changeDevice d).MoversSound := by
  have hstep := h.step_none hfrom
  rw [State.changeDevice_eq]
  exact ⟨h.1, by simp [hstep, hto], fun hc => absurd hcommit hc⟩

/-- R138, R139: Arming that fails opens the relay under test and goes to Standby. -/
theorem State.MoversSound.failArming (h : s.MoversSound) (hs : s.dsu.state = .arming) (item : Nat) :
    (s.failArming item).MoversSound := by
  obtain ⟨m, ph, hstep⟩ := h.step_some hs
  have hcommit := h.commit_none (by simp [hs])
  rw [State.failArming_eq s m ph item hstep, State.changeDevice_eq]
  refine ⟨fun o => ?_, by simp, fun hc => absurd hcommit hc⟩
  by_cases ho : o = m
  · subst ho
    exact State.MoverSound.of_get (PerMover.get_set_self _ _ _) rfl ((h.records o).opened _ _)
  · refine (h.1 o).of_step (PerMover.get_set_of_ne _ _ _ _ ho) rfl fun hclose => ?_
    rw [hstep] at hclose
    cases hclose
    exact absurd rfl ho

/-- R142: entry to Locked opens every relay. -/
theorem State.MoversSound.enterLocked (h : s.MoversSound) (hs : s.dsu.state.isActive = true) (fault : Cause) :
    (s.enterLocked fault).MoversSound := by
  have hcommit := h.commit_none fun hconfiguring => by simp [hconfiguring, DeviceState.isActive] at hs
  rw [State.enterLocked_eq]
  refine ⟨fun o => ?_, by simp, fun hc => absurd hcommit hc⟩
  exact State.MoverSound.of_get (PerMover.get_ofFn _ o) rfl ((h.records o).opened _ _)

theorem State.MoversSound.takeDeviceFault (h : s.MoversSound) (fault : Cause) : (s.takeDeviceFault fault).MoversSound := by
  unfold State.takeDeviceFault
  split
  · next hs => exact h.enterLocked hs fault
  · exact h

/-- R101. -/
theorem State.MoversSound.tripTimerExpires (h : s.MoversSound) (m : Mover) : (s.tripTimerExpires m).MoversSound := by
  unfold State.tripTimerExpires
  dsimp only
  split
  · exact ((h.setMover (h.records m).timerExpires).withHand _).takeDeviceFault _
  · exact h

/-- R104. -/
theorem State.MoversSound.readbackTimerExpires (h : s.MoversSound) (m : Mover) :
    (s.readbackTimerExpires m).MoversSound := by
  have hstopped : (s.setMover m { s.msu.get m with readbackTimer := false }).MoversSound := h.setMover (h.records m)
  unfold State.readbackTimerExpires
  dsimp only
  split
  · split
    · exact (hstopped.withHand _).takeDeviceFault _
    · exact hstopped
  · exact h

/-- R139: the test passes, once no relay is in the close phase of its test. -/
theorem State.passArming_sound (hmovers : ∀ m, s.MoverSound m) (hcommit : s.cs.commit = none)
    (hopen : ∀ m, s.dsu.armingStep ≠ some (m, .close)) : s.passArming.MoversSound := by
  rw [State.passArming, State.changeDevice_eq]
  exact ⟨fun m => (hmovers m).of_step rfl rfl fun hclose => absurd hclose (hopen m), by simp [State.endArmingStep],
    fun hc => absurd hcommit hc⟩

/-- R138: a phase begins, after the open phase of another relay or a phase of its own. -/
theorem State.beginPhase_movers (hmovers : ∀ m, s.MoverSound m) {x : Mover × Phase}
    (hnext : ∀ m, s.dsu.armingStep = some (m, .close) → m = x.1) (m : Mover) : (s.beginPhase x).MoverSound m := by
  obtain ⟨n, ph⟩ := x
  rw [State.beginPhase_eq]
  by_cases hm : m = n
  · subst hm
    have hclosed : ph.commandsClosed = true → (some (m, ph) : Option (Mover × Phase)) = some (m, .close) := by
      cases ph <;> simp [Phase.commandsClosed]
    exact State.MoverSound.of_get (PerMover.get_set_self _ _ _) rfl
      ((State.moverSound_iff.mp (hmovers m)).commanded hclosed)
  · exact (hmovers m).of_step (PerMover.get_set_of_ne _ _ _ _ hm) rfl fun hclose => absurd (hnext m hclose) hm

/-- R138: the test goes on from a phase. What is asked of the phase before it is that it leaves no relay closed for its
test but the one whose open phase comes next. -/
theorem continueTest_sound (n : Nat) (x : Option (Mover × Phase)) (s : State) (hmovers : ∀ m, s.MoverSound m)
    (hs : s.dsu.state = .arming) (hcommit : s.cs.commit = none)
    (hnext : ∀ m, s.dsu.armingStep = some (m, .close) → x = some (m, .open)) : (continueTest n x s).MoversSound := by
  induction n generalizing x s with
  | zero =>
    cases x with
    | none => exact State.passArming_sound hmovers hcommit fun m hm => nomatch hnext m hm
    | some x =>
      have hbegun := State.beginPhase_movers hmovers (x := x) fun m hm => by cases hnext m hm; rfl
      exact ⟨hbegun, iff_of_true nofun hs, fun hc => absurd hcommit hc⟩
  | succ n ih =>
    cases x with
    | none => exact State.passArming_sound hmovers hcommit fun m hm => nomatch hnext m hm
    | some x =>
      have hbegun := State.beginPhase_movers hmovers (x := x) fun m hm => by cases hnext m hm; rfl
      simp only [continueTest]
      split
      · refine ih _ _ hbegun hs hcommit fun m hm => ?_
        cases (hm : some x = some (m, .close))
        rfl
      · exact ⟨hbegun, iff_of_true nofun hs, fun hc => absurd hcommit hc⟩

/-- R137. -/
theorem State.MoversSound.beginArming (h : s.MoversSound) (hs : s.dsu.state = .standby) : s.beginArming.MoversSound := by
  have hstep := h.step_none (by simp [hs])
  have hcommit := h.commit_none (by simp [hs])
  rw [State.beginArming, State.changeDevice_eq]
  exact continueTest_sound _ _ _ h.1 rfl hcommit fun m hm => nomatch hstep.symm.trans hm

/-- R104, R138. -/
theorem State.MoversSound.contactShows (h : s.MoversSound) (m : Mover) (level : Bool) :
    (s.contactShows m level).MoversSound := by
  unfold State.contactShows
  split
  · next x hx =>
    have hs : s.dsu.state = .arming := h.2.1.mp (by simp [hx])
    split
    · refine continueTest_sound _ _ _ h.1 hs (h.commit_none (by simp [hs])) fun o ho => ?_
      cases hx.symm.trans ho
      rfl
    · exact h
  · exact h

/-- R138: a phase fails. -/
theorem State.MoversSound.stepTimerExpires (h : s.MoversSound) : s.stepTimerExpires.MoversSound := by
  unfold State.stepTimerExpires
  split
  · split
    · next x hx =>
      have hs : s.dsu.state = .arming := h.2.1.mp (by simp [hx])
      unfold State.failPhase
      split
      · exact h.failArming hs _
      · have hposted : ((s.handFault ⟨.relayStuck, none, some x.1, none, CauseData.nothing⟩).postArmingFailed
            (10 + moverNumber x.1)).MoversSound := (h.handFault _).post _ _ _
        refine hposted.enterLocked ?_ _
        simp [hs, DeviceState.isActive]
    · exact h
  · exact h

/-- R139. -/
theorem State.MoversSound.takeValidityChange (h : s.MoversSound) (a : Axis) : (s.takeValidityChange a).MoversSound := by
  unfold State.takeValidityChange
  split
  · unfold State.followValidity
    split
    · next hfails => exact (h.withHand _).failArming hfails.1 _
    · exact h.withHand _
  · exact h

/-- R140: the end of Disarming. -/
theorem State.MoversSound.takeMoverChange (h : s.MoversSound) : s.takeMoverChange.MoversSound := by
  unfold State.takeMoverChange
  split
  · unfold State.testDisarmed
    split
    · next hends =>
      have hs : s.dsu.state = .disarming := hends.1
      exact (h.withHand _).changeDevice (by simp [hs]) (by simp) (h.commit_none (by simp [hs]))
    · exact h.withHand _
  · exact h

/-! ## Loop openings (R143, R144) -/

/-- R144: in Arming the test fails; in Armed and Disarming the device goes to Standby. -/
theorem State.MoversSound.deviceOnOpening (h : s.MoversSound) (hs : s.dsu.state.isActive = true) :
    s.deviceOnOpening.MoversSound := by
  unfold State.deviceOnOpening
  split
  · next harming => exact h.failArming harming _
  · next harming =>
    refine h.changeDevice harming (by simp) (h.commit_none ?_)
    intro hconfiguring
    simp [hconfiguring, DeviceState.isActive] at hs

theorem State.MoversSound.actOnOpening (h : s.MoversSound) (hs : s.dsu.state.isActive = true) (mark : Bool) :
    (s.actOnOpening mark).MoversSound := by
  have hoff : ((s.raise ⟨.safetyLoop, .all, { CauseData.nothing with discrepancyMark := mark }⟩).outputsOff).MoversSound :=
    (h.raise _).outputsOff
  exact ((hoff.handCut _).deviceOnOpening (by simpa using hs)).post _ _ _

theorem State.MoversSound.openLoop (h : s.MoversSound) (mark : Bool) : (s.openLoop mark).MoversSound := by
  have hopened : (s.withSlu { s.slu with loop := .opened, discrepancyTimer := false }).MoversSound := h.of_records
  unfold State.openLoop
  dsimp only
  split
  · next hactive => exact hopened.actOnOpening hactive _
  · exact hopened

theorem State.MoversSound.followChannels (h : s.MoversSound) : s.followChannels.MoversSound := by
  unfold State.followChannels
  dsimp only
  split
  · split
    · exact h
    · split
      · exact h.openLoop _
      · exact h
  · split
    · exact h
    · split
      · exact h.openLoop _
      · exact h
  · split <;> exact h

theorem State.MoversSound.channelSettles (h : s.MoversSound) (c : LoopChannel) : (s.channelSettles c).MoversSound := by
  unfold State.channelSettles
  split
  · exact State.MoversSound.followChannels (h.of_records rfl rfl rfl rfl)
  · exact h

theorem State.MoversSound.discrepancyExpires (h : s.MoversSound) : s.discrepancyExpires.MoversSound := by
  unfold State.discrepancyExpires
  split
  · split
    · exact h.openLoop _
    · exact h
  · exact h

/-! ## The storage write (R11 to R13) and resets (R147) -/

/-- R12: of MSU's records the image taken up touches the parked positions alone. -/
theorem State.MoversSound.takeUpImage (h : s.MoversSound) : s.takeUpImage.MoversSound := by
  have hcs : s.takeUpImage.cs = s.cs := s.takeUpImage_frame.1
  have hauth : s.takeUpImage.asu = s.asu := s.takeUpImage_frame.2.1
  have hdsu : s.takeUpImage.dsu = s.dsu := by simp
  refine ⟨fun m => ?_, by rw [hdsu]; exact h.2.1, by rw [hcs, hdsu]; exact h.2.2⟩
  rw [State.moverSound_iff, State.takeUpImage_msu, State.authorityOf, hauth, hdsu]
  unfold MoverRec.reparked
  split <;> exact h.records m

/-- R11: the write succeeds, and no write is in flight any more. -/
theorem State.MoversSound.writeSucceeds (h : s.MoversSound) (hs : s.dsu.state = .configuring) (c : CommitRec) (img : Image) :
    (s.writeSucceeds c img).MoversSound := by
  have htaken : ∀ {t : State}, t.MoversSound → t.dsu = s.dsu → t.cs.commit = none →
      (t.takeUpImage.changeDevice .standby).MoversSound := by
    intro t ht hdsu hcommit
    have hstate : t.takeUpImage.dsu.state ≠ .arming := by simp [hdsu, hs]
    exact ht.takeUpImage.changeDevice hstate (by simp) (by simpa using hcommit)
  have hstored : (s.imageStored c img).MoversSound := ⟨h.1, h.2.1, nofun⟩
  unfold State.writeSucceeds
  exact (htaken hstored rfl rfl).reply _ _ _

/-- R13: the write fails. -/
theorem State.MoversSound.writeFails (h : s.MoversSound) (hs : s.dsu.state = .configuring) (c : CommitRec) :
    (s.writeFails c).MoversSound := by
  have hfailed : ((s.withCs { s.cs with stored := tornStore s.freeCount, valid := false, commit := none }).withFreeCount
      (s.freeCount + 1)).MoversSound := ⟨h.1, h.2.1, nofun⟩
  have hstate : s.dsu.state ≠ .arming := by simp [hs]
  have hchanged := hfailed.changeDevice hstate (d := .unconfigured) (by simp) rfl
  exact hchanged.reply _ _ _

theorem State.MoversSound.endWrite (h : s.MoversSound) (ok : Bool) : (s.endWrite ok).MoversSound := by
  unfold State.endWrite
  split
  · next c img hc _ =>
    have hs : s.dsu.state = .configuring := (h.2.2 (by simp [hc])).1
    split
    · exact h.writeSucceeds hs c img
    · exact h.writeFails hs c
  · exact h

/-- R60, R110, R147: the records of a reset. -/
theorem State.resetTo_moversSound (s : State) (k : ResetKind) : (s.resetTo k).MoversSound := by
  refine ⟨fun m => ?_, ?_, ?_⟩
  · have hauth : (s.resetTo k).authorityOf m = .initial := PerMover.get_ofFn _ m
    rw [State.moverSound_iff, hauth, State.resetTo_msu, PerMover.get_ofFn]
    simp [MoverRec.SoundWith, MoverRec.Sound, MoverRec.initial, Authority.Sound, Authority.initial, Timer.isRunning,
      MoverState.hasAuthority]
  · rw [State.resetTo_dsu]
    cases s.storeAtReset.passes <;> simp [Dsu.atReset]
  · rw [State.resetTo_cs]
    simp [Cs.atReset_none]

/-! ## The requests -/

/-- R47: a RELEASE draws the end of a mover with authority back. -/
theorem settleRelease_moversSound (p : Port) (r : Request) (h : s.MoversSound) : (settleRelease p r s).1.MoversSound := by
  unfold settleRelease State.releaseRange
  split
  · exact h
  · next m _ =>
    have hzones : ∀ zt, (s.commitZones zt).MoversSound := fun zt => h.of_records
    dsimp only
    split
    · exact hzones _
    · split
      · exact h
      · dsimp only
        split
        · next hm => exact (hzones _).shortenAuthority (by simpa [State.moverState] using hm)
        · exact hzones _

/-- R61 to R65: a MOVE is granted to no Tripped and no Halted mover. -/
theorem settleMove_moversSound (p : Port) (r : Request) (h : s.MoversSound) : (settleMove p r s).1.MoversSound := by
  unfold settleMove
  split
  · split
    · next m d _ _ =>
      unfold State.askMove
      split
      · exact h
      · exact h
      · next hgranted _ =>
        dsimp only
        split
        · exact h
        · refine h.grantMove p d _ ?_
          have hmoves : s.moverState m ≠ .halted ∧ s.moverState m ≠ .tripped := by
            unfold State.moveRefusal at hgranted
            (repeat' split at hgranted) <;> simp_all
          cases hm : s.moverState m with
          | parked => exact .inl rfl
          | permitted | stopping => exact .inr rfl
          | tripped => exact absurd hm hmoves.2
          | halted => exact absurd hm hmoves.1
    · exact h
  · exact h

theorem settleStop_moversSound (p : Port) (r : Request) (h : s.MoversSound) : (settleStop p r s).1.MoversSound := by
  unfold settleStop State.stopMover
  split
  · exact h
  · split
    · exact h.takeCause _
    all_goals exact h

theorem settleClear_moversSound (p : Port) (r : Request) (h : s.MoversSound) : (settleClear p r s).1.MoversSound := by
  unfold settleClear State.askClear
  split
  · split
    · exact h
    · split
      · exact h
      · exact h
      · exact h
      · exact h
      · next hm =>
        split
        · exact h
        · exact h.clearMover hm
  · exact h

/-- R141: the permits are none of the laws' concern. -/
theorem settlePermits_moversSound (p : Port) (r : Request) (h : s.MoversSound) : (settlePermits p r s).1.MoversSound := by
  unfold settlePermits
  split <;> exact h

theorem settleArm_moversSound (p : Port) (r : Request) (h : s.MoversSound) : (settleArm p r s).1.MoversSound := by
  unfold settleArm
  split
  · exact h
  · exact h
  · exact h
  · exact h
  · exact h
  · exact h
  · next hs =>
    split
    · exact h
    · exact h.beginArming hs

theorem settleStandby_moversSound (p : Port) (r : Request) (h : s.MoversSound) : (settleStandby p r s).1.MoversSound := by
  have hleaves : ∀ {d : DeviceState}, s.dsu.state = .armed → d ≠ .arming → (s.changeDevice d).MoversSound :=
    fun hs hd => h.changeDevice (by simp [hs]) hd (h.commit_none (by simp [hs]))
  unfold settleStandby
  split
  · exact h
  · exact h
  · exact h
  · exact h
  · exact h
  · next hs => exact h.failArming hs _
  · next hs =>
    split
    · exact hleaves hs (by simp)
    · exact (hleaves hs (by simp)).withHand _

theorem settleFaultClear_moversSound (p : Port) (r : Request) (h : s.MoversSound) :
    (settleFaultClear p r s).1.MoversSound := by
  unfold settleFaultClear
  split <;> exact h

/-- R8: a CONFIG WRITE leaves a working copy and the device in Configuring. -/
theorem settleConfigWrite_moversSound (p : Port) (r : Request) (h : s.MoversSound) :
    (settleConfigWrite p r s).1.MoversSound := by
  unfold settleConfigWrite
  dsimp only
  split
  · exact h
  · split
    · exact h
    · next htaken =>
      split
      · exact h
      · have hwritten : ∀ img, (s.withCs { s.cs with working := some img }).MoversSound :=
          fun img => ⟨h.1, h.2.1, fun hc => ⟨(h.2.2 hc).1, nofun⟩⟩
        unfold State.toConfiguring
        split
        · exact hwritten _
        · next hs =>
          refine (hwritten _).changeDevice ?_ (by simp) (h.commit_none hs)
          intro harming
          exact htaken (by simp [State.takesConfigWrite, show s.dsu.state = .arming from harming])

/-- R10, R11: a storage write starts in Configuring alone, on the working copy. -/
theorem settleCommit_moversSound (p : Port) (r : Request) (h : s.MoversSound) : (settleCommit p r s).1.MoversSound := by
  unfold settleCommit
  split
  · exact h
  · split
    · next hs _ =>
      split
      · exact h
      · exact ⟨h.1, h.2.1, fun _ => ⟨hs, nofun⟩⟩
    · exact h

/-! ## Every command keeps the laws -/

/-- A command whose frame leaves the four blocks as they were. -/
theorem State.MoversSound.of_frame (h : s.MoversSound) {o : Host.Outcome State Fault Refusal} {Q : State → Prop}
    (hframe : ∃ t, o = .next t ∧ Q t)
    (hkept : ∀ t, Q t → t.msu = s.msu ∧ t.asu = s.asu ∧ t.dsu = s.dsu ∧ t.cs = s.cs := by intro t ht; simp [ht]) :
    ∃ t, o = .next t ∧ t.MoversSound := by
  obtain ⟨t, ho, ht⟩ := hframe
  obtain ⟨hmsu, hasu, hdsu, hcs⟩ := hkept t ht
  exact ⟨t, ho, h.of_records hmsu (by rw [hasu]) hdsu hcs⟩

/-- A command that the part takes only while it runs keeps the laws where its effect does. -/
theorem State.MoversSound.whileRunning (h : s.MoversSound) {f : State → State} (hf : (f s).MoversSound) :
    ∃ t, s.whileRunning f = .next t ∧ t.MoversSound := by
  refine ⟨_, rfl, ?_⟩
  split
  · exact h
  · exact hf

/-- A request command whose settlement keeps the laws. -/
theorem State.MoversSound.served (h : s.MoversSound) {row : Instr} {settle : Settlement}
    (hsettle : ∀ p r (t : State), t.MoversSound → (settle p r t).1.MoversSound) :
    ∃ t, (s.whileRunning fun s => s.serve row settle) = .next t ∧ t.MoversSound :=
  h.whileRunning (f := (·.serve row settle)) (State.serve_preserves h row (fun _ _ ht => ht) hsettle)

end

/-- Every command keeps the laws: resets set the records anew; the commands of ASU, MSU, DSU and CS, and the expiries by
which a loop opens, act on them; no other command touches them. -/
theorem exec_keeps_moversSound {s : State} (h : s.MoversSound) (i : Instr) : ∃ t, exec i s = .next t ∧ t.MoversSound := by
  cases i with
  | powerOnReset => exact ⟨_, rfl, s.resetTo_moversSound _⟩
  | lineReset =>
    refine h.whileRunning ?_
    split
    · exact s.resetTo_moversSound _
    · exact h
  | resetLineRelease =>
    refine ⟨_, rfl, ?_⟩
    split
    · exact s.lineReleased.resetTo_moversSound _
    · exact h
  | commandedReset =>
    refine h.whileRunning ?_
    split
    · exact s.resetTo_moversSound _
    · exact h
  | release => exact h.served fun p r _ => settleRelease_moversSound p r
  | move => exact h.served fun p r _ => settleMove_moversSound p r
  | stop => exact h.served fun p r _ => settleStop_moversSound p r
  | clear => exact h.served fun p r _ => settleClear_moversSound p r
  | permitsOff | permitsOn => exact h.served fun p r _ => settlePermits_moversSound p r
  | arm => exact h.served fun p r _ => settleArm_moversSound p r
  | standby => exact h.served fun p r _ => settleStandby_moversSound p r
  | faultClear => exact h.served fun p r _ => settleFaultClear_moversSound p r
  | configWrite => exact h.served fun p r _ => settleConfigWrite_moversSound p r
  | commit => exact h.served fun p r _ => settleCommit_moversSound p r
  | storageWriteComplete ok => exact h.whileRunning (f := (·.endWrite ok)) (h.endWrite ok)
  | validityChange a => exact h.whileRunning (f := (·.takeValidityChange a)) (h.takeValidityChange a)
  | positionUpdateASU m => exact h.whileRunning (f := (·.takeUpdateAsu m)) (h.takeUpdateAsu m)
  | authorityConsumed m => exact h.whileRunning (f := (·.takeConsumption m)) (h.takeConsumption m)
  | positionUpdateMSU m => exact h.whileRunning (f := (·.takeUpdateMsu m)) (h.takeUpdateMsu m)
  | immediateCauseTaken n => exact h.whileRunning (f := (·.takeCauseOf .immediate n)) (h.takeCauseOf _ n)
  | controlledCauseTaken n => exact h.whileRunning (f := (·.takeCauseOf .controlled n)) (h.takeCauseOf _ n)
  | holdCauseTaken n => exact h.whileRunning (f := (·.takeCauseOf .hold n)) (h.takeCauseOf _ n)
  | deviceStateChangeMSU => exact h.whileRunning (f := State.takeDeviceChange) h.takeDeviceChange
  | tripTimerExpiry m => exact h.whileRunning (f := (·.tripTimerExpires m)) (h.tripTimerExpires m)
  | readbackTimerExpiry m => exact h.whileRunning (f := (·.readbackTimerExpires m)) (h.readbackTimerExpires m)
  | readbackContactChange m closed =>
    have hshown : (s.setMover m { s.msu.get m with readbackClosed := closed }).MoversSound := h.setMover (h.records m)
    exact hshown.whileRunning (f := (·.contactShows m closed)) (hshown.contactShows m closed)
  | stepTimerExpiry => exact h.whileRunning (f := State.stepTimerExpires) h.stepTimerExpires
  | moverStateChange => exact h.whileRunning (f := State.takeMoverChange) h.takeMoverChange
  | loopFilterExpiry c => exact h.whileRunning (f := (·.channelSettles c)) (h.channelSettles c)
  | discrepancyTimerExpiry => exact h.whileRunning (f := State.discrepancyExpires) h.discrepancyExpires
  | reserve => exact h.of_frame (execReserve_frame s)
  | barrierClose => exact h.of_frame (execBarrierClose_frame s)
  | barrierOpen => exact h.of_frame (execBarrierOpen_frame s)
  | braceEngage => exact h.of_frame (execBraceEngage_frame s)
  | braceWithdraw => exact h.of_frame (execBraceWithdraw_frame s)
  | braceClear => exact h.of_frame (execBraceClear_frame s)
  | positionUpdateZT m => exact h.of_frame (execPositionUpdateZT_frame m s)
  | braceSwitchLoss => exact h.of_frame (execBraceSwitchLoss_frame s)
  | resetLineAssertion => exact h.of_frame (execResetLineAssertion_frame s)
  | completeFrame p => exact h.of_frame (execCompleteFrame_frame p s)
  | frameTimerExpiry p => exact h.of_frame (execFrameTimerExpiry_frame p s)
  | replyFrameSent p => exact h.of_frame (execReplyFrameSent_frame p s)
  | silenceTimerExpiry p => exact h.of_frame (execSilenceTimerExpiry_frame p s)
  | unknownRequestCode => exact h.of_frame (execUnknownRequestCode_frame s)
  | status => exact h.of_frame (execStatus_frame s)
  | moverStatus => exact h.of_frame (execMoverStatus_frame s)
  | notice => exact h.of_frame (execNotice_frame s)
  | mask => exact h.of_frame (execMask_frame s)
  | reset => exact h.of_frame (execReset_frame s)
  | faultRead => exact h.of_frame (execFaultRead_frame s)
  | configRead => exact h.of_frame (execConfigRead_frame s)
  | readingArrival bus f => exact h.of_frame (execReadingArrival_frame bus f s)
  | gapTimerExpiry a role => exact h.of_frame (execGapTimerExpiry_frame a role s)
  | lossTimerExpiry a => exact h.of_frame (execLossTimerExpiry_frame a s)
  | loopChannelChange c closed => exact h.of_frame (execLoopChannelChange_frame c closed s)
  | driveTripInputChange m active => exact h.of_frame (execDriveTripInputChange_frame m active s)
  | driveTripFilterExpiry m => exact h.of_frame (execDriveTripFilterExpiry_frame m s)
  | braceSwitchChange b engaged withdrawn => exact h.of_frame (execBraceSwitchChange_frame b engaged withdrawn s)
  | operationTimerExpiry b => exact h.of_frame (execOperationTimerExpiry_frame b s)
  | cutShort => exact h.of_frame (execCutShort_frame s)
  | demandConditionTest src => exact h.of_frame (execDemandConditionTest_frame s src)
  | anemometerPulse which => exact h.of_frame (execAnemometerPulse_frame which s)
  | intervalClosure => exact h.of_frame (execIntervalClosure_frame s)
  | noticePosting src => exact h.of_frame (execNoticePosting_frame src s)
  | causeHandover n => exact h.of_frame (execCauseHandover_frame n s)
  | stationPortByte p b framingError => exact h.of_frame (execStationPortByte_frame p b framingError s)

/-- Settles O57: the command taken off the queue keeps the laws, and the queue is none of theirs. -/
theorem everyStepKeepsMoversSound : Obligations.EveryStepKeepsMoversSound := by
  intro s t hs hstep
  unfold step at hstep
  split at hstep
  · cases hstep
    exact hs
  · next c rest _ =>
    obtain ⟨u, hu, hsound⟩ := exec_keeps_moversSound (s := s.withPending rest) hs c
    obtain rfl : u = t := Host.Outcome.next.inj (hu.symm.trans hstep)
    exact hsound

end Sys2Proof.Machine
end

section
/-! SUPPORT. Positions in a direction of travel, and the clip of a position update (R63, R66). It settles O30. -/

namespace Sys2Proof.Machine

/-! ## Positions in a direction (00_scope.md: ahead of, more advanced) -/

section
variable {d : Direction} {x y : Int}

@[simp] theorem Direction.sign_south : Direction.south.sign = 1 := rfl
@[simp] theorem Direction.sign_north : Direction.north.sign = -1 := rfl

theorem moreAdvanced_iff : moreAdvanced d x y = true ↔ y * d.sign < x * d.sign := by
  simp [moreAdvanced, mul_comm]

/-- Positions that stand level in a direction are the same. -/
theorem Direction.eq_of_mul_sign {d : Direction} (h : x * d.sign = y * d.sign) : x = y := by
  cases d <;> simpa using h

theorem lessAdvancedOf_le : lessAdvancedOf d x y * d.sign ≤ x * d.sign ∧ lessAdvancedOf d x y * d.sign ≤ y * d.sign := by
  unfold lessAdvancedOf
  split
  · next h => exact ⟨(moreAdvanced_iff.mp h).le, le_rfl⟩
  · next h => exact ⟨le_rfl, not_lt.mp (mt moreAdvanced_iff.mpr h)⟩

theorem lessAdvancedOf_eq_or : lessAdvancedOf d x y = x ∨ lessAdvancedOf d x y = y := by
  unfold lessAdvancedOf
  split
  · exact .inr rfl
  · exact .inl rfl

end

/-- The least advanced of a position and others is one of them. -/
theorem leastAdvanced_mem (d : Direction) (x : Int) (ys : List Int) :
    leastAdvanced d x ys = x ∨ leastAdvanced d x ys ∈ ys := by
  induction ys generalizing x with
  | nil => exact .inl rfl
  | cons y ys ih =>
    obtain hx | hmem := ih (lessAdvancedOf d x y)
    · obtain hfirst | hsecond := lessAdvancedOf_eq_or (d := d) (x := x) (y := y)
      · exact .inl (hx.trans hfirst)
      · exact .inr (List.mem_cons.mpr (.inl (hx.trans hsecond)))
    · exact .inr (List.mem_cons_of_mem y hmem)

/-- The least advanced of a position and others is more advanced than none of them. -/
theorem leastAdvanced_le (d : Direction) (x : Int) (ys : List Int) :
    ∀ y ∈ x :: ys, leastAdvanced d x ys * d.sign ≤ y * d.sign := by
  induction ys generalizing x with
  | nil => simp [leastAdvanced]
  | cons z ys ih =>
    obtain ⟨hx, hz⟩ := lessAdvancedOf_le (d := d) (x := x) (y := z)
    intro y hy
    have hleast := ih (lessAdvancedOf d x z)
    rcases List.mem_cons.mp hy with rfl | hy
    · exact (hleast _ List.mem_cons_self).trans hx
    · rcases List.mem_cons.mp hy with rfl | hy
      · exact (hleast _ List.mem_cons_self).trans hz
      · exact hleast y (List.mem_cons_of_mem _ hy)

/-! ## Clip positions (R63) -/

theorem Extent.overlaps_iff {e : Extent} {z : ZoneRec} : e.overlaps z = true ↔ e.low < z.stop ∧ z.start ≤ e.high := by
  simp [Extent.overlaps]

/-- The clip position another panel gives, in words of its body and of both panels' positions. -/
theorem clipPosition_eq_some {d : Direction} {gap x : Int} {run : List ZoneRec} {mine theirs : Motion} :
    clipPosition d gap run mine theirs = some x
      ↔ (∃ z ∈ run, theirs.body.low < z.stop ∧ z.start ≤ theirs.body.high)
        ∧ ((d = .south ∧ greatest mine.values < least theirs.values ∧ x = theirs.body.low - gap)
          ∨ (d = .north ∧ greatest theirs.values < least mine.values ∧ x = theirs.body.high + gap)) := by
  cases d
  · simp [clipPosition, liesAhead, Extent.overlaps_iff, @eq_comm _ x]
    tauto
  · simp [clipPosition, liesAhead, Extent.overlaps_iff, @eq_comm _ x]
    tauto

theorem mem_clipPositions {view : Mover → Option Motion} {m : Mover} {d : Direction} {gap x : Int} {run : List ZoneRec}
    {mine : Motion} :
    x ∈ clipPositions view m d gap run mine
      ↔ isPanel m = true ∧ ∃ q ∈ panels, q ≠ m ∧ ∃ o, view q = some o ∧ clipPosition d gap run mine o = some x := by
  unfold clipPositions
  split
  · next hm =>
    simp only [hm, List.mem_filterMap, List.mem_filter, bne_iff_ne, and_assoc, true_and]
    refine exists_congr fun q => and_congr_right fun _ => and_congr_right fun _ => ?_
    cases view q <;> simp
  · next hm => simp [hm]

/-! ## The clip (R66) -/

/-- The authority end the clip gives a mover: that of a mover without authority, direction, end or motion stays. -/
def State.clippedEnd (s : State) (view : Mover → Option Motion) (m : Mover) : Option Int :=
  match (s.authorityOf m).direction, (s.authorityOf m).authorityEnd, view m with
  | some d, some e, some mo =>
    if (s.moverState m).hasAuthority then
      some (leastAdvanced d e (clipPositions view m d (s.params m).clipGap (heldRun (s.zt.zones (pathOf m)) m d mo.lead) mo))
    else some e
  | _, e, _ => e

/-- A mover's authority record with the end the clip gives it. -/
def State.clippedRecord (s : State) (view : Mover → Option Motion) (m : Mover) : Authority :=
  { s.authorityOf m with authorityEnd := s.clippedEnd view m }

section
variable {s : State} {view : Mover → Option Motion} {m : Mover} {d : Direction} {e : Int}

/-- The clip where it does something. -/
theorem State.clippedEnd_clipped {mo : Motion} (hd : (s.authorityOf m).direction = some d)
    (he : (s.authorityOf m).authorityEnd = some e) (hmo : view m = some mo) (hm : (s.moverState m).hasAuthority = true) :
    s.clippedEnd view m = some (leastAdvanced d e
      (clipPositions view m d (s.params m).clipGap (heldRun (s.zt.zones (pathOf m)) m d mo.lead) mo)) := by
  simp only [State.clippedEnd, hd, he, hmo, hm, if_true]

/-- The clip where the record lacks the direction or the end, or there is no motion or no authority. -/
theorem State.clippedEnd_kept (h : ∀ d e mo, (s.authorityOf m).direction = some d → (s.authorityOf m).authorityEnd = some e →
    view m = some mo → (s.moverState m).hasAuthority = false) : s.clippedEnd view m = (s.authorityOf m).authorityEnd := by
  unfold State.clippedEnd
  split
  · next d e mo hd he hmo => simp [h d e mo hd he hmo, he]
  · rfl

end

theorem State.setAuthority_self (s : State) (m : Mover) : s.setAuthority m (s.authorityOf m) = s := by
  simp [State.setAuthority, State.authorityOf, State.withAsu, PerMover.set_get_self]

theorem State.clipOne_eq (s : State) (view : Mover → Option Motion) (m : Mover) :
    s.clipOne view m = s.setAuthority m (s.clippedRecord view m) := by
  have hkept : s.clippedEnd view m = (s.authorityOf m).authorityEnd → s = s.setAuthority m (s.clippedRecord view m) := by
    intro hend
    rw [State.clippedRecord, hend]
    exact (s.setAuthority_self m).symm
  unfold State.clipOne
  dsimp only
  split
  · next d e mo hd he hmo =>
    split
    · next hm => rw [State.clippedRecord, State.clippedEnd_clipped hd he hmo hm]
    · next hm => exact hkept (State.clippedEnd_kept fun _ _ _ _ _ _ => by simpa using hm)
  · next hnone => exact hkept (State.clippedEnd_kept fun d e mo hd he hmo => absurd hmo (hnone d e mo hd he))

section
variable {s t : State} {view : Mover → Option Motion} {m q : Mover}

/-- The clip of a mover reads its own authority record, its state, its parameters and the zones. -/
theorem State.clippedRecord_congr (hauth : t.authorityOf m = s.authorityOf m) (hstate : t.moverState m = s.moverState m)
    (hparams : t.params m = s.params m) (hzt : t.zt = s.zt) : t.clippedRecord view m = s.clippedRecord view m := by
  simp only [State.clippedRecord, State.clippedEnd, hauth, hstate, hparams, hzt]

/-- The clip of several movers, each taken once. -/
theorem State.foldl_clipOne_authorityOf {l : List Mover} (hl : l.Nodup) (s : State) :
    (l.foldl (fun t m => t.clipOne view m) s).authorityOf q
      = if q ∈ l then s.clippedRecord view q else s.authorityOf q := by
  induction l generalizing s with
  | nil => simp
  | cons m l ih =>
    obtain ⟨hm, hl⟩ := List.nodup_cons.mp hl
    rw [List.foldl_cons, ih hl, State.clipOne_eq]
    by_cases hq : q = m
    · subst hq
      simp [hm, State.setAuthority_authorityOf]
    · have hauth : (s.setAuthority m (s.clippedRecord view m)).authorityOf q = s.authorityOf q :=
        PerMover.get_set_of_ne _ _ _ _ hq
      rw [State.clippedRecord_congr hauth rfl rfl rfl, hauth]
      simp [hq]

theorem State.clipOne_asu (s : State) (view : Mover → Option Motion) (m : Mover) :
    s.clipOne view m = { s with asu := { s.asu with authority := (s.clipOne view m).asu.authority } } := by
  rw [State.clipOne_eq]
  rfl

theorem State.foldl_clipOne_asu (l : List Mover) (s : State) : l.foldl (fun t m => t.clipOne view m) s
    = { s with asu := { s.asu with authority := (l.foldl (fun t m => t.clipOne view m) s).asu.authority } } := by
  induction l generalizing s with
  | nil => rfl
  | cons m l ih =>
    rw [List.foldl_cons, ih, State.clipOne_asu]

end

/-- The clip of a position update writes authority records alone. -/
theorem State.clipAll_asu (s : State) (u : PositionUpdate) :
    s.clipAll u = { s with asu := { s.asu with authority := (s.clipAll u).asu.authority } } := by
  unfold State.clipAll
  split
  · exact State.foldl_clipOne_asu _ _
  · rfl

theorem mem_panels {m : Mover} : m ∈ panels ↔ isPanel m = true := by cases m <;> decide

/-- The clip of a position update, mover by mover. -/
theorem State.clipAll_authorityOf (s : State) (u : PositionUpdate) (m : Mover) : (s.clipAll u).authorityOf m
    = if isPanel u.mover = true ∧ isPanel m = true then s.clippedRecord (s.viewWith u) m else s.authorityOf m := by
  unfold State.clipAll
  split
  · next hu =>
    rw [State.foldl_clipOne_authorityOf (by decide : panels.Nodup)]
    simp [hu, mem_panels]
  · next hu => simp [hu]

section
variable {s : State} {view : Mover → Option Motion} {m : Mover} {d : Direction} {e : Int}

/-- A mover without authority, or without an end, keeps its record. -/
theorem State.clippedRecord_eq_self (h : (s.moverState m).hasAuthority = false ∨ (s.authorityOf m).authorityEnd = none) :
    s.clippedRecord view m = s.authorityOf m := by
  have hend : s.clippedEnd view m = (s.authorityOf m).authorityEnd :=
    State.clippedEnd_kept fun d e mo _ he _ => h.resolve_right (by simp [he])
  rw [State.clippedRecord, hend]

/-- R66: the clip only shortens. -/
theorem State.clippedEnd_le (hd : (s.authorityOf m).direction = some d) (he : (s.authorityOf m).authorityEnd = some e) :
    ∃ e', s.clippedEnd view m = some e' ∧ e' * d.sign ≤ e * d.sign := by
  have hstays : ∃ e', some e = some e' ∧ e' * d.sign ≤ e * d.sign := ⟨e, rfl, le_rfl⟩
  simp only [State.clippedEnd, hd, he]
  split
  · next hd' he' _ =>
    cases hd'
    cases he'
    split
    · exact ⟨_, rfl, leastAdvanced_le _ _ _ _ List.mem_cons_self⟩
    · exact hstays
  · exact hstays

end

/-- Settles O30: each panel with authority takes the least advanced of its end and its clip positions. -/
theorem clipOnlyShortens : Obligations.ClipOnlyShortens := by
  intro s u m t view
  have hrecord : t.authorityOf m = _ := s.clipAll_authorityOf u m
  refine ⟨?_, ?_, ?_, ?_, s.clipAll_asu u⟩
  · rw [hrecord]
    split
    · exact ⟨_, rfl⟩
    · exact ⟨_, rfl⟩
  · intro hnone
    rw [hrecord]
    split
    · next hpanels =>
      refine State.clippedRecord_eq_self ?_
      simpa [hpanels.1, hpanels.2] using hnone
    · rfl
  · intro d e hd he
    rw [hrecord]
    split
    · exact State.clippedEnd_le hd he
    · exact ⟨e, he, le_rfl⟩
  · intro d e mo hm hu hstate hd he hmo clips
    have hauth : (s.moverState m).hasAuthority = true := MoverState.hasAuthority_iff.mpr hstate
    have hclips : ∀ x, x ∈ clipPositions (s.viewWith u) m d (s.params m).clipGap
        (heldRun (s.zt.zones (pathOf m)) m d mo.lead) mo ↔ clips x := by
      intro x
      simp only [mem_clipPositions, clipPosition_eq_some, hm, true_and]
      rfl
    refine ⟨_, ?_, (leastAdvanced_mem d e _).imp_right (hclips _).mp, fun x hx => leastAdvanced_le d e _ x ?_⟩
    · rw [hrecord, if_pos ⟨hu, hm⟩]
      exact State.clippedEnd_clipped hd he hmo hauth
    · rcases hx with rfl | hx
      · exact List.mem_cons_self
      · exact List.mem_cons_of_mem _ ((hclips x).mpr hx)

end Sys2Proof.Machine
end

section
/-! SUPPORT. The end a MOVE settles on: candidate, stopping-point floor and stop target in turn (R63, R64). It settles
O26. -/

namespace Sys2Proof.Machine

section
variable {d : Direction} {target stop authorityBound x : Int} {bounds : List Int} {c : SettledEnd}

/-! ## The candidate end (R63) -/

theorem candidateEnd_le (hx : x ∈ target :: bounds) : (candidateEnd d target bounds).position * d.sign ≤ x * d.sign :=
  leastAdvanced_le d target bounds x hx

theorem candidateEnd_clamped_iff :
    (candidateEnd d target bounds).clamped = true ↔ ∃ x ∈ bounds, x * d.sign < target * d.sign := by
  simp only [candidateEnd, List.any_eq_true, moreAdvanced_iff]

/-- R63: unless it is clamped, the candidate is the target, for no bound lies short of it. -/
theorem candidateEnd_unclamped (h : (candidateEnd d target bounds).clamped = false) :
    (candidateEnd d target bounds).position = target := by
  obtain htarget | hbound := leastAdvanced_mem d target bounds
  · exact htarget
  · have hshort : ¬ (candidateEnd d target bounds).position * d.sign < target * d.sign := fun hlt => by
      rw [candidateEnd_clamped_iff.mpr ⟨_, hbound, hlt⟩] at h
      cases h
    exact Direction.eq_of_mul_sign (le_antisymm (candidateEnd_le List.mem_cons_self) (not_lt.mp hshort))

/-! ## The stopping-point floor (R64, step 1) -/

/-- Where the candidate falls short of the stopping point, the floor takes the lesser of that point and the bound of the
authority run; otherwise the candidate stands. -/
theorem floorEnd_cases (d : Direction) (stop authorityBound : Int) (c : SettledEnd) :
    (c.position * d.sign < stop * d.sign
        ∧ floorEnd d stop authorityBound c = ⟨lessAdvancedOf d stop authorityBound, true⟩)
      ∨ (stop * d.sign ≤ c.position * d.sign ∧ floorEnd d stop authorityBound c = c) := by
  unfold floorEnd
  split
  · next h => exact .inl ⟨moreAdvanced_iff.mp h, rfl⟩
  · next h => exact .inr ⟨not_lt.mp (mt moreAdvanced_iff.mpr h), rfl⟩

/-- R64: the floored end lies within its candidate's bound or within that of the authority run. -/
theorem floorEnd_le_or (d : Direction) (stop authorityBound : Int) (c : SettledEnd) :
    (floorEnd d stop authorityBound c).position * d.sign ≤ c.position * d.sign
      ∨ (floorEnd d stop authorityBound c).position * d.sign ≤ authorityBound * d.sign := by
  obtain ⟨-, hfloor⟩ | ⟨-, hfloor⟩ := floorEnd_cases d stop authorityBound c
  · exact .inr (hfloor ▸ lessAdvancedOf_le.2)
  · exact .inl (by rw [hfloor])

/-- R64: the floored end falls short of the stopping point only at the bound of the authority run. -/
theorem floorEnd_short (h : (floorEnd d stop authorityBound c).position * d.sign < stop * d.sign) :
    (floorEnd d stop authorityBound c).position = authorityBound := by
  obtain ⟨-, hfloor⟩ | ⟨hle, hfloor⟩ := floorEnd_cases d stop authorityBound c
  · rw [hfloor] at h ⊢
    obtain hstop | hbound := lessAdvancedOf_eq_or (d := d) (x := stop) (y := authorityBound)
    · rw [hstop] at h
      exact absurd h (lt_irrefl _)
    · exact hbound
  · rw [hfloor] at h
    exact absurd h hle.not_gt

/-- R64: beyond the stopping point the floored end is the candidate. -/
theorem floorEnd_beyond (h : stop * d.sign < (floorEnd d stop authorityBound c).position * d.sign) :
    floorEnd d stop authorityBound c = c := by
  obtain ⟨-, hfloor⟩ | ⟨-, hfloor⟩ := floorEnd_cases d stop authorityBound c
  · rw [hfloor] at h
    exact absurd h lessAdvancedOf_le.1.not_gt
  · exact hfloor

theorem floorEnd_unclamped (h : (floorEnd d stop authorityBound c).clamped = false) :
    floorEnd d stop authorityBound c = c := by
  obtain ⟨-, hfloor⟩ | ⟨-, hfloor⟩ := floorEnd_cases d stop authorityBound c
  · rw [hfloor] at h
    cases h
  · exact hfloor

/-- R64: the floored end is at or short of every position that the candidate and the stopping point are. -/
theorem floorEnd_le (hc : c.position * d.sign ≤ x * d.sign) (hstop : stop * d.sign ≤ x * d.sign) :
    (floorEnd d stop authorityBound c).position * d.sign ≤ x * d.sign := by
  obtain ⟨-, hfloor⟩ | ⟨-, hfloor⟩ := floorEnd_cases d stop authorityBound c
  · exact hfloor ▸ lessAdvancedOf_le.1.trans hstop
  · rwa [hfloor]

theorem floorEnd_clamped (h : c.clamped = true) : (floorEnd d stop authorityBound c).clamped = true := by
  obtain ⟨-, hfloor⟩ | ⟨-, hfloor⟩ := floorEnd_cases d stop authorityBound c
  · rw [hfloor]
  · rwa [hfloor]

/-! ## The stop target of a Stopping mover (R64, step 2) -/

/-- Either the end stands, or the stop target is short of it and taken. -/
theorem limitEnd_cases (d : Direction) (stopTarget : Option Int) (c : SettledEnd) :
    limitEnd d stopTarget c = c
      ∨ (stopTarget = some (limitEnd d stopTarget c).position ∧ (limitEnd d stopTarget c).clamped = true
        ∧ (limitEnd d stopTarget c).position * d.sign < c.position * d.sign) := by
  unfold limitEnd
  split
  · next t =>
    split
    · next h => exact .inr ⟨rfl, rfl, moreAdvanced_iff.mp h⟩
    · exact .inl rfl
  · exact .inl rfl

theorem limitEnd_le (d : Direction) (stopTarget : Option Int) (c : SettledEnd) :
    (limitEnd d stopTarget c).position * d.sign ≤ c.position * d.sign := by
  obtain hlimit | ⟨-, -, hlt⟩ := limitEnd_cases d stopTarget c
  · rw [hlimit]
  · exact hlt.le

theorem limitEnd_le_stopTarget (d : Direction) (x : Int) (c : SettledEnd) :
    (limitEnd d (some x) c).position * d.sign ≤ x * d.sign := by
  unfold limitEnd
  dsimp only
  split
  · exact le_rfl
  · next h => exact not_lt.mp (mt moreAdvanced_iff.mpr h)

end

/-- Settles O26: the candidate end, floored at the stopping point and limited to a stop target. -/
theorem settledEndStaysOnHeldTrack : Obligations.SettledEndStaysOnHeldTrack := by
  intro s m d target mo g zs lead heldBound authorityBound stop clips e
  let bounds := heldBound :: clipPositions s.motionOf m d g.clipGap (heldRun zs m d lead) mo
  let candidate := candidateEnd d target bounds
  let floored := floorEnd d stop authorityBound candidate
  let stopTarget := if s.moverState m = .stopping then (s.authorityOf m).stopTarget else none
  have he : e = limitEnd d stopTarget floored := rfl
  have hbounds : ∀ x, x = heldBound ∨ clips x ↔ x ∈ bounds := by
    intro x
    simp only [bounds, List.mem_cons, mem_clipPositions, clipPosition_eq_some]
    rfl
  have hlimited : stopTarget = some e.position →
      s.moverState m = .stopping ∧ (s.authorityOf m).stopTarget = some e.position := by
    intro h
    simp only [stopTarget] at h
    split at h
    · next hstopping => exact ⟨hstopping, h⟩
    · cases h
  have hle : e.position * d.sign ≤ floored.position * d.sign := limitEnd_le d stopTarget floored
  have hheld : candidate.position * d.sign ≤ heldBound * d.sign :=
    candidateEnd_le (List.mem_cons_of_mem _ List.mem_cons_self)
  refine ⟨?_, ?_, ?_, ?_, ?_, ?_, ?_⟩
  · obtain hcandidate | hauthority := floorEnd_le_or d stop authorityBound candidate
    · exact .inl ((hle.trans hcandidate).trans hheld)
    · exact .inr (hle.trans hauthority)
  · intro x hstopping hx
    have hstop : stopTarget = some x := by simp only [stopTarget, hstopping, hx, if_true]
    rw [he, hstop]
    exact limitEnd_le_stopTarget d x floored
  · intro hshort
    obtain hstands | ⟨htaken, -, -⟩ := limitEnd_cases d stopTarget floored
    · rw [← he] at hstands
      rw [hstands] at hshort ⊢
      exact .inl (floorEnd_short hshort)
    · exact .inr (hlimited htaken)
  · intro hunclamped
    obtain hstands | ⟨-, hclamped, -⟩ := limitEnd_cases d stopTarget floored
    · rw [← he] at hstands
      rw [hstands] at hunclamped ⊢
      have hfloored : floored = candidate := floorEnd_unclamped hunclamped
      rw [hfloored] at hunclamped ⊢
      exact candidateEnd_unclamped hunclamped
    · cases hunclamped.symm.trans hclamped
  · intro x hx hstop
    have hmem : x ∈ target :: bounds := List.mem_cons.mpr (hx.imp_right (hbounds x).mp)
    exact hle.trans (floorEnd_le (candidateEnd_le hmem) hstop)
  · intro hbeyond
    obtain hstands | ⟨htaken, -, -⟩ := limitEnd_cases d stopTarget floored
    · rw [← he] at hstands
      rw [hstands] at hbeyond ⊢
      have hfloored : floored = candidate := floorEnd_beyond hbeyond
      rw [hfloored]
      obtain htarget | hbound := leastAdvanced_mem d target bounds
      · exact .inl htarget
      · obtain hfirst | hclip := (hbounds candidate.position).mpr hbound
        · exact .inr (.inl hfirst)
        · exact .inr (.inr (.inl hclip))
    · exact .inr (.inr (.inr (hlimited htaken)))
  · intro x hx hshort
    have hcandidate : candidate.clamped = true := candidateEnd_clamped_iff.mpr ⟨x, (hbounds x).mp hx, hshort⟩
    obtain hstands | ⟨-, hclamped, -⟩ := limitEnd_cases d stopTarget floored
    · rw [he, hstands]
      exact floorEnd_clamped hcandidate
    · exact hclamped

end Sys2Proof.Machine
end

section
/-! SUPPORT. The ceiling computation: the caps and their descents, the least of the terms of the untrimmed ceiling, skew
trim, and the ceilings of a mover's axes (R68 to R73, R82, R83). It settles O28 and O29. -/

namespace Sys2Proof.Machine

/-! ## Stage 4: caps and cap descents (R71, R72) -/

section
variable {g : MoverParams} {d : Direction} {lead target : Int} {a : Authority} {c : CapDescent}

/-- R71: the target cap, halved for a panel outside Calm and halved again while an axis is Substituted. -/
theorem targetCapOf_eq (g : MoverParams) (m : Mover) (wind : WindState) (substituted : Bool) :
    targetCapOf g (isPanel m) wind substituted
      = let v := if isPanel m = true ∧ wind ≠ .calm then g.maxSpeed / 2 else g.maxSpeed
        if substituted = true then v / 2 else v := by
  simp [targetCapOf]

/-- R72: what is left of a cap descent at a lead. -/
def CapDescent.left (c : CapDescent) (d : Direction) (lead : Int) : Int := max 0 ((c.point - lead) * d.sign)

theorem workDescent_capInUse (g : MoverParams) (d : Direction) (lead : Int) (a : Authority) :
    (workDescent g d lead a).capInUse = match a.descent with
      | none => a.capInUse
      | some c => if c.left d lead = 0 then c.toCap
        else min c.fromCap (isqrt (c.toCap * c.toCap + 2 * g.deceleration * c.left d lead)) := by
  unfold workDescent
  cases a.descent with
  | none => rfl
  | some c => exact apply_ite Authority.capInUse _ _ _

/-- R72: a descent with nothing left to go has ended. -/
theorem workDescent_descent_eq_some :
    (workDescent g d lead a).descent = some c ↔ a.descent = some c ∧ c.left d lead ≠ 0 := by
  unfold workDescent
  cases hdescent : a.descent with
  | none => simp [hdescent]
  | some x =>
    dsimp only [CapDescent.left]
    split
    · next hend =>
      simp only [reduceCtorEq, false_iff, not_and, not_not, Option.some.injEq]
      rintro rfl
      exact hend
    · next hend =>
      simp only [Option.some.injEq]
      constructor
      · rintro rfl
        exact ⟨rfl, hend⟩
      · exact And.left

theorem compareCap_of_le (h : a.capInUse ≤ target) :
    compareCap g d lead target a = { a with targetCap := target, capInUse := target, descent := none } := if_pos h

/-- R71: a descent to the target cap goes on. -/
theorem compareCap_under (h : target < a.capInUse) (hdescent : a.descent = some c) (hc : c.toCap = target) :
    compareCap g d lead target a = { a with targetCap := target } := by
  simp [compareCap, h.not_ge, hdescent, hc]

/-- R72: otherwise a descent to it starts at the lead. -/
theorem compareCap_starts (h : target < a.capInUse) (hdescent : ∀ c, a.descent = some c → c.toCap ≠ target) :
    compareCap g d lead target a
      = { a with targetCap := target, descent := some (startDescent g d lead a.capInUse target) } := by
  unfold compareCap
  rw [if_neg h.not_ge]
  cases hc : a.descent with
  | none => rfl
  | some c => exact if_neg (hdescent c hc)

end

/-! ## Stages 1 to 3 and 5: the untrimmed ceiling is the least of its terms (R69, R70, R73) -/

/-- The least of a list, or a value where the list is empty. -/
theorem isLeast_min?_getD (xs : List Int) (v : Int) : IsLeast {x | x ∈ xs ∨ x = v ∧ xs = []} (xs.min?.getD v) := by
  cases h : xs.min? with
  | none =>
    have hnil : xs = [] := List.min?_eq_none_iff.mp h
    subst hnil
    simp [IsLeast, lowerBounds]
  | some x =>
    obtain ⟨hmem, hle⟩ := List.min?_eq_some_iff.mp h
    refine ⟨.inl hmem, ?_⟩
    rintro y (hy | ⟨-, hnil⟩)
    · exact hle y hy
    · rw [hnil] at hmem
      cases hmem

/-- Where a zone's near boundary lies (R70). -/
theorem nearBoundary_eq (d : Direction) (z : ZoneRec) : nearBoundary d z = if d = .south then z.start else z.stop := by
  cases d <;> rfl

/-- A zone ahead of a body does not overlap it. -/
theorem not_overlaps_of_zoneAhead {d : Direction} {b : Extent} {z : ZoneRec} (h : zoneAhead d b z = true) :
    ¬ (b.low < z.stop ∧ z.start ≤ b.high) := by
  cases d <;> simp only [zoneAhead, decide_eq_true_eq] at h <;> omega

section
variable {g : MoverParams} {d : Direction} {zs : List ZoneRec} {body : Extent} {lead e : Int}

/-- Stage 2: the ceilings of the zones under the body, or the maximum speed where there is none. -/
theorem isLeast_vHere (g : MoverParams) (zs : List ZoneRec) (body : Extent) :
    IsLeast {v | (∃ z ∈ zs, (body.low < z.stop ∧ z.start ≤ body.high) ∧ v = z.ceiling)
      ∨ v = g.maxSpeed ∧ ∀ z ∈ zs, ¬ (body.low < z.stop ∧ z.start ≤ body.high)} (vHere g zs body) := by
  unfold vHere
  convert isLeast_min?_getD ((zs.filter fun z => body.overlaps z).map (·.ceiling)) g.maxSpeed using 1
  refine Set.ext fun v => ?_
  simp only [Set.mem_ofPred_eq, List.mem_map, List.mem_filter, Extent.overlaps_iff, List.map_eq_nil_iff,
    List.filter_eq_nil_iff, and_assoc, @eq_comm _ v]

/-- A ceiling is below that of stage 2 just where it is below that of every zone under the body, and below the maximum
speed where there is none. -/
theorem lt_vHere_iff {y : Int} : y < vHere g zs body
    ↔ (∀ w ∈ zs, (body.low < w.stop ∧ w.start ≤ body.high) → y < w.ceiling)
      ∧ ((∀ w ∈ zs, ¬ (body.low < w.stop ∧ w.start ≤ body.high)) → y < g.maxSpeed) := by
  obtain ⟨hterm, hle⟩ := isLeast_vHere g zs body
  refine ⟨fun hy => ⟨fun w hw hover => hy.trans_le (hle (.inl ⟨w, hw, hover, rfl⟩)),
    fun hnone => hy.trans_le (hle (.inr ⟨rfl, hnone⟩))⟩, ?_⟩
  rintro ⟨hover, hnone⟩
  obtain ⟨w, hw, hmeets, hv⟩ | ⟨hv, hfree⟩ := hterm
  · exact hv ▸ hover w hw hmeets
  · exact hv ▸ hnone hfree

/-- R70: a slower zone ahead: it lies ahead of the body, its near boundary short of E + dir × B, and its ceiling is below
that of every zone under the body. -/
def slowerAhead (g : MoverParams) (d : Direction) (zs : List ZoneRec) (body : Extent) (e : Int) (z : ZoneRec) : Prop :=
  ¬ (body.low < z.stop ∧ z.start ≤ body.high) ∧ zoneAhead d body z = true
    ∧ (if d = .south then z.start else z.stop) * d.sign < (e + d.sign * g.bodyMargin) * d.sign
    ∧ (∀ w ∈ zs, (body.low < w.stop ∧ w.start ≤ body.high) → z.ceiling < w.ceiling)
    ∧ ((∀ w ∈ zs, ¬ (body.low < w.stop ∧ w.start ≤ body.high)) → z.ceiling < g.maxSpeed)

theorem slowerAhead_iff {z : ZoneRec} : slowerAhead g d zs body e z
    ↔ (aheadInReach g d body e z && decide (z.ceiling < vHere g zs body)) = true := by
  simp only [slowerAhead, aheadInReach, Bool.and_eq_true, moreAdvanced_iff, decide_eq_true_eq, lt_vHere_iff,
    nearBoundary_eq, and_assoc]
  exact ⟨And.right, fun h => ⟨not_overlaps_of_zoneAhead h.1, h⟩⟩

/-- Stage 3: the speeds for the slower zones ahead, or the maximum speed where there is none. -/
theorem isLeast_vAhead (g : MoverParams) (d : Direction) (zs : List ZoneRec) (body : Extent) (lead e : Int) :
    IsLeast {v | (∃ z ∈ zs, slowerAhead g d zs body e z ∧ v = vZone g d lead z)
      ∨ v = g.maxSpeed ∧ ∀ z ∈ zs, ¬ slowerAhead g d zs body e z}
      (vAhead g d zs body lead e (vHere g zs body)) := by
  unfold vAhead
  convert isLeast_min?_getD ((zs.filter fun z => aheadInReach g d body e z && decide (z.ceiling < vHere g zs body)).map
    (vZone g d lead)) g.maxSpeed using 1
  refine Set.ext fun v => ?_
  simp only [Set.mem_ofPred_eq, List.mem_map, List.mem_filter, ← slowerAhead_iff, List.map_eq_nil_iff,
    List.filter_eq_nil_iff, and_assoc, @eq_comm _ v]

/-- The terms of the untrimmed ceiling, listed or grouped by stages. -/
theorem or_and_or_regroup {cap brake here ahead max noneHere noneAhead : Prop} :
    (cap ∨ brake ∨ here ∨ ahead ∨ max ∧ (noneHere ∨ noneAhead))
      ↔ (cap ∨ brake) ∨ (here ∨ max ∧ noneHere) ∨ (ahead ∨ max ∧ noneAhead) := by
  tauto

/-- R73: the untrimmed ceiling is the least of the cap, the braking speed, and what stages 2 and 3 give. -/
theorem isLeast_vPerm (g : MoverParams) (d : Direction) (zs : List ZoneRec) (mo : Motion) (e cap : Int) :
    IsLeast {v | v = cap ∨ v = vBrake g d mo.lead e
      ∨ (∃ z ∈ zs, (mo.body.low < z.stop ∧ z.start ≤ mo.body.high) ∧ v = z.ceiling)
      ∨ (∃ z ∈ zs, slowerAhead g d zs mo.body e z ∧ v = vZone g d mo.lead z)
      ∨ (v = g.maxSpeed ∧ ((∀ z ∈ zs, ¬ (mo.body.low < z.stop ∧ z.start ≤ mo.body.high))
        ∨ ∀ z ∈ zs, ¬ slowerAhead g d zs mo.body e z))} (vPerm g d zs mo e cap) := by
  obtain ⟨hterm, hle⟩ := ((isLeast_singleton (a := cap)).union (isLeast_singleton (a := vBrake g d mo.lead e))).union
    ((isLeast_vHere g zs mo.body).union (isLeast_vAhead g d zs mo.body mo.lead e))
  exact ⟨or_and_or_regroup.mpr hterm, fun v hv => hle (or_and_or_regroup.mp hv)⟩

end

/-! ## Stage 6: skew trim (R82, R83) -/

theorem lagOf_eq (d : Direction) (xs : List Int) : lagOf d xs = if d = .south then least xs else greatest xs := by
  cases d <;> rfl

/-- R83: trim leaves a ceiling between 0 and the untrimmed one. -/
theorem trimmed_bounds {g : MoverParams} {perm : Int} (hperm : 0 ≤ perm) (hwidth : 0 < g.trimWidth) (excess : Int) :
    0 ≤ trimmed g perm excess ∧ trimmed g perm excess ≤ perm := by
  unfold trimmed
  split
  · exact ⟨hperm, le_rfl⟩
  · split
    · next hover hunder =>
      have hleft : 0 ≤ g.trimThreshold + g.trimWidth - excess := by omega
      refine ⟨Int.ediv_nonneg (mul_nonneg hperm hleft) hwidth.le, Int.ediv_le_of_le_mul hwidth ?_⟩
      exact mul_le_mul_of_nonneg_left (by omega) hperm
    · exact ⟨le_rfl, hperm⟩

/-- The ceilings of the axes listed are replaced, those of the others are not. -/
theorem setCeilings_get (cs : PerAxis CeilingRec) (f : Int → Int) (xs : List (Axis × Int)) (y : Axis) :
    (∃ x ∈ xs, x.1 = y ∧ (setCeilings cs f xs).get y = { cs.get y with ceiling := f x.2 })
      ∨ (∀ x ∈ xs, x.1 ≠ y) ∧ (setCeilings cs f xs).get y = cs.get y := by
  induction xs generalizing cs with
  | nil => exact .inr ⟨nofun, rfl⟩
  | cons x xs ih =>
    have hcons : setCeilings cs f (x :: xs) = setCeilings (cs.modify x.1 fun c => { c with ceiling := f x.2 }) f xs := rfl
    rw [hcons]
    by_cases hx : y = x.1
    · subst hx
      obtain ⟨z, hz, hzy, hget⟩ | ⟨-, hget⟩ := ih (cs.modify x.1 fun c => { c with ceiling := f x.2 })
      · refine .inl ⟨z, List.mem_cons_of_mem x hz, hzy, ?_⟩
        rw [hget, PerAxis.get_modify, if_pos rfl]
      · refine .inl ⟨x, List.mem_cons_self, rfl, ?_⟩
        rw [hget, PerAxis.get_modify, if_pos rfl]
    · have hmod : (cs.modify x.1 fun c => { c with ceiling := f x.2 }).get y = cs.get y := by
        rw [PerAxis.get_modify, if_neg hx]
      obtain ⟨z, hz, hzy, hget⟩ | ⟨hnone, hget⟩ := ih (cs.modify x.1 fun c => { c with ceiling := f x.2 })
      · exact .inl ⟨z, List.mem_cons_of_mem x hz, hzy, by rw [hget, hmod]⟩
      · refine .inr ⟨fun z hz => ?_, by rw [hget, hmod]⟩
        rcases List.mem_cons.mp hz with rfl | hz
        · exact Ne.symm hx
        · exact hnone z hz

/-- Where each axis is listed once, it has the ceiling of its own position. -/
theorem setCeilings_get_of_mem {cs : PerAxis CeilingRec} {f : Int → Int} {xs : List (Axis × Int)}
    (hxs : (xs.map (·.1)).Nodup) {x : Axis × Int} (hx : x ∈ xs) :
    (setCeilings cs f xs).get x.1 = { cs.get x.1 with ceiling := f x.2 } := by
  obtain ⟨z, hz, hzx, hget⟩ | ⟨hnone, -⟩ := setCeilings_get cs f xs x.1
  · obtain rfl : z = x := List.inj_on_of_nodup_map hxs hz hx hzx
    exact hget
  · exact absurd rfl (hnone x hx)

theorem setCeilings_get_of_not_mem {cs : PerAxis CeilingRec} {f : Int → Int} {xs : List (Axis × Int)} {y : Axis}
    (hy : ∀ x ∈ xs, x.1 ≠ y) : (setCeilings cs f xs).get y = cs.get y := by
  obtain ⟨z, hz, hzy, -⟩ | ⟨-, hget⟩ := setCeilings_get cs f xs y
  · exact absurd hzy (hy z hz)
  · exact hget

/-! ## The computation (R68) -/

/-- The authority record that a computation of the ceilings gives a mover with a direction and an end. -/
def State.ceilinged (s : State) (m : Mover) (mo : Motion) (work : CapWork) (d : Direction) (e : Int) : Authority :=
  let a := stageCap (s.params m) d mo.lead (targetCapOf (s.params m) (isPanel m) s.wm.state mo.substituted) work
    (s.authorityOf m)
  { a with untrimmed := vPerm (s.params m) d (s.zt.zones (pathOf m)) mo e a.capInUse }

section
variable {s : State} {m : Mover} {mo : Motion} {work : CapWork} {d : Direction} {e : Int}

theorem State.computeCeilings_eq (hd : (s.authorityOf m).direction = some d)
    (he : (s.authorityOf m).authorityEnd = some e) : s.computeCeilings m mo work = s.withAsu { s.asu with
      authority := s.asu.authority.set m (s.ceilinged m mo work d e)
      ceilings := setCeilings s.asu.ceilings
        (fun x => trimmed (s.params m) (s.ceilinged m mo work d e).untrimmed (leadExcess d (lagOf d mo.values) x))
        mo.positions } := by
  simp only [State.computeCeilings, hd, he]
  rfl

theorem State.computeCeilings_authorityOf (hd : (s.authorityOf m).direction = some d)
    (he : (s.authorityOf m).authorityEnd = some e) :
    (s.computeCeilings m mo work).authorityOf m = s.ceilinged m mo work d e := by
  rw [State.computeCeilings_eq hd he]
  exact PerMover.get_set_self _ _ _

/-- Stage 4 writes the caps and the descent, stage 5 the untrimmed ceiling. -/
theorem State.ceilinged_eq (s : State) (m : Mover) (mo : Motion) (work : CapWork) (d : Direction) (e : Int) :
    s.ceilinged m mo work d e = { s.authorityOf m with
      targetCap := (s.ceilinged m mo work d e).targetCap, capInUse := (s.ceilinged m mo work d e).capInUse
      descent := (s.ceilinged m mo work d e).descent, untrimmed := (s.ceilinged m mo work d e).untrimmed } := by
  obtain ⟨_, _, _, hcaps⟩ := stageCap_caps (s.params m) d mo.lead
    (targetCapOf (s.params m) (isPanel m) s.wm.state mo.substituted) work (s.authorityOf m)
  simp only [State.ceilinged, hcaps]

end

/-- Settles O28: stage 4 by the work asked and the descent under way, stage 5 as the least of its terms, stage 6 axis by
axis. -/
theorem ceilingsComputedByStages : Obligations.CeilingsComputedByStages := by
  intro s m mo work d e hd he hnodup g a zs t b wind target left worked under meets near slower brake entering term
  have ht : t = _ := State.computeCeilings_eq hd he
  have hb : b = s.ceilinged m mo work d e := State.computeCeilings_authorityOf hd he
  have htarget : targetCapOf g (isPanel m) s.wm.state mo.substituted = target := targetCapOf_eq g m _ _
  have hworked : (workDescent g d mo.lead a).capInUse = worked := workDescent_capInUse g d mo.lead a
  have hunder : ∀ c, (workDescent g d mo.lead a).descent = some c ↔ under c := fun c => workDescent_descent_eq_some
  have hcompared : work = .compared → b = { compareCap g d mo.lead target (workDescent g d mo.lead a) with
      untrimmed := b.untrimmed } := by
    rintro rfl
    rw [hb, ← htarget]
    rfl
  refine ⟨?_, ?_, ?_, ?_, ?_, ?_, ?_, ?_, ?_, ?_⟩
  · rw [ht]
    rfl
  · rw [ht]
    rfl
  · intro q hq
    rw [ht]
    exact PerMover.get_set_of_ne _ _ _ _ hq
  · rw [hb]
    exact s.ceilinged_eq m mo work d e
  · rintro rfl
    rw [hb]
    exact ⟨rfl, rfl, rfl⟩
  · rintro rfl
    rw [hb, ← htarget]
    exact ⟨rfl, rfl, rfl⟩
  · intro hwork
    have hb := hcompared hwork
    refine ⟨?_, fun hle => ?_, fun c hlt hc hto => ?_, fun hlt hnone => ?_⟩
    · obtain ⟨_, _, hcaps⟩ := compareCap_caps g d mo.lead target (workDescent g d mo.lead a)
      rw [hb, hcaps]
    · rw [hb, compareCap_of_le (hworked ▸ hle)]
      exact ⟨rfl, rfl⟩
    · rw [hb, compareCap_under (hworked ▸ hlt) ((hunder c).mpr hc) hto]
      exact ⟨hworked, (hunder c).mpr hc⟩
    · rw [hb, compareCap_starts (hworked ▸ hlt) fun c hc => hnone c ((hunder c).mp hc)]
      exact ⟨hworked, by rw [hworked]; rfl⟩
  · have hleast := isLeast_vPerm g d zs mo e b.capInUse
    have huntrimmed : b.untrimmed = vPerm g d zs mo e b.capInUse := by
      rw [hb]
      rfl
    rw [huntrimmed]
    have hterm : ∀ v, term v ↔ v ∈ {v | v = b.capInUse ∨ v = vBrake g d mo.lead e
        ∨ (∃ z ∈ zs, (mo.body.low < z.stop ∧ z.start ≤ mo.body.high) ∧ v = z.ceiling)
        ∨ (∃ z ∈ zs, slowerAhead g d zs mo.body e z ∧ v = vZone g d mo.lead z)
        ∨ (v = g.maxSpeed ∧ ((∀ z ∈ zs, ¬ (mo.body.low < z.stop ∧ z.start ≤ mo.body.high))
          ∨ ∀ z ∈ zs, ¬ slowerAhead g d zs mo.body e z))} := by
      intro v
      have hentering : ∀ z, vZone g d mo.lead z = entering z := fun z => by simp only [vZone, nearBoundary_eq]; rfl
      simp only [hentering]
      rfl
    exact ⟨(hterm _).mpr hleast.1, fun v hv => hleast.2 ((hterm v).mp hv)⟩
  · intro x hx excess
    rw [ht]
    refine (setCeilings_get_of_mem hnodup hx).trans ?_
    rw [lagOf_eq, ← hb]
    rfl
  · intro y hy
    rw [ht]
    exact setCeilings_get_of_not_mem hy

/-! ## Bounds of the ceilings (R73) -/

theorem isqrt_nonneg (x : Int) : 0 ≤ isqrt x := Int.natCast_nonneg _

/-- R71: the target cap lies between 0 and the maximum speed. -/
theorem targetCapOf_bounds {g : MoverParams} (hmax : 0 ≤ g.maxSpeed) (panel : Bool) (wind : WindState)
    (substituted : Bool) :
    0 ≤ targetCapOf g panel wind substituted ∧ targetCapOf g panel wind substituted ≤ g.maxSpeed := by
  unfold targetCapOf
  dsimp only
  split <;> split <;> omega

/-- R72: the cap in use along a descent lies between 0 and the maximum speed where the descent's caps do. -/
theorem workDescent_bounds {g : MoverParams} {a : Authority} (hcap : 0 ≤ a.capInUse ∧ a.capInUse ≤ g.maxSpeed)
    (hdescent : ∀ c, a.descent = some c → 0 ≤ c.fromCap ∧ c.fromCap ≤ g.maxSpeed ∧ 0 ≤ c.toCap ∧ c.toCap ≤ g.maxSpeed)
    (d : Direction) (lead : Int) :
    0 ≤ (workDescent g d lead a).capInUse ∧ (workDescent g d lead a).capInUse ≤ g.maxSpeed := by
  rw [workDescent_capInUse]
  cases hc : a.descent with
  | none => exact hcap
  | some c =>
    obtain ⟨hfrom, hfromMax, hto, htoMax⟩ := hdescent c hc
    dsimp only
    split
    · exact ⟨hto, htoMax⟩
    · exact ⟨le_min hfrom (isqrt_nonneg _), (min_le_left _ _).trans hfromMax⟩

/-- R71: the comparison leaves the cap in use within bounds that hold of it and of the target cap. -/
theorem compareCap_bounds {a : Authority} {low high target : Int} (hcap : low ≤ a.capInUse ∧ a.capInUse ≤ high)
    (htarget : low ≤ target ∧ target ≤ high) (g : MoverParams) (d : Direction) (lead : Int) :
    low ≤ (compareCap g d lead target a).capInUse ∧ (compareCap g d lead target a).capInUse ≤ high := by
  unfold compareCap
  split
  · exact htarget
  · split
    · split <;> exact hcap
    · exact hcap

/-- R69 to R73: the untrimmed ceiling lies between 0 and a cap, where cap, maximum speed and zone ceilings are not
negative. -/
theorem vPerm_bounds {g : MoverParams} {zs : List ZoneRec} (hmax : 0 ≤ g.maxSpeed) (hzs : ∀ z ∈ zs, 0 ≤ z.ceiling)
    {cap : Int} (hcap : 0 ≤ cap) (d : Direction) (mo : Motion) (e : Int) :
    0 ≤ vPerm g d zs mo e cap ∧ vPerm g d zs mo e cap ≤ cap := by
  obtain ⟨hterm, hle⟩ := isLeast_vPerm g d zs mo e cap
  have hbrake : 0 ≤ vBrake g d mo.lead e := by
    unfold vBrake
    dsimp only
    split
    · exact isqrt_nonneg _
    · exact le_rfl
  refine ⟨?_, hle (.inl rfl)⟩
  rcases hterm with hv | hv | ⟨z, hz, -, hv⟩ | ⟨z, -, -, hv⟩ | ⟨hv, -⟩
  · rwa [hv]
  · rwa [hv]
  · rw [hv]
    exact hzs z hz
  · rw [hv]
    exact isqrt_nonneg _
  · rwa [hv]

/-- Settles O29: cap first, then the untrimmed ceiling by the cap, then trim by the untrimmed ceiling. -/
theorem ceilingsWithinBounds : Obligations.CeilingsWithinBounds := by
  intro s m mo work d e g a hd he hmax hwidth hzs hcap hcapMax hdescent t
  have ht : t = _ := State.computeCeilings_eq hd he
  have hb : t.authorityOf m = s.ceilinged m mo work d e := State.computeCeilings_authorityOf hd he
  have htarget := targetCapOf_bounds hmax (isPanel m) s.wm.state mo.substituted
  have hcapInUse : 0 ≤ (s.ceilinged m mo work d e).capInUse ∧ (s.ceilinged m mo work d e).capInUse ≤ g.maxSpeed := by
    cases work with
    | afresh => exact htarget
    | compared => exact compareCap_bounds (workDescent_bounds ⟨hcap, hcapMax⟩ hdescent d mo.lead) htarget g d mo.lead
    | asItStands => exact ⟨hcap, hcapMax⟩
  have hperm := vPerm_bounds hmax hzs hcapInUse.1 d mo e
  rw [hb]
  refine ⟨hperm.1, hperm.2.trans hcapInUse.2, hcapInUse.1, hcapInUse.2, fun x hx => ?_⟩
  rw [ht]
  obtain ⟨z, -, -, hget⟩ | ⟨hnone, -⟩ := setCeilings_get s.asu.ceilings
    (fun x => trimmed g (s.ceilinged m mo work d e).untrimmed (leadExcess d (lagOf d mo.values) x)) mo.positions x.1
  · dsimp only [State.withAsu_asu]
    rw [hget]
    exact trimmed_bounds hperm.1 hwidth _
  · exact absurd rfl (hnone x hx)

end Sys2Proof.Machine
end

section
/-! SUPPORT. ASU's work on a position update: the spread test and supervision (R68, R74 to R79, R86 to R88). It settles
O31 and O32. -/

namespace Sys2Proof.Machine

/-! ## What an update lacks -/

theorem pairPositions_eq_none {l : List (Axis × Option Int)} (h : ∃ x ∈ l, x.2 = none) : pairPositions l = none := by
  induction l with
  | nil =>
    obtain ⟨_, hx, -⟩ := h
    cases hx
  | cons x l ih =>
    obtain ⟨a, position⟩ := x
    cases position with
    | none => rfl
    | some y =>
      obtain ⟨z, hz, hnone⟩ := h
      rcases List.mem_cons.mp hz with rfl | hz
      · cases hnone
      · rw [pairPositions, ih ⟨z, hz, hnone⟩]
        rfl

section
variable {s : State} {u : PositionUpdate} {m : Mover}

/-- R68: an update that lacks the lead, the body or an axis position carries no motion. -/
theorem PositionUpdate.motion_eq_none (h : u.lead = none ∨ u.body = none ∨ ∃ x ∈ u.axes, x.position = none) :
    u.motion = none := by
  unfold PositionUpdate.motion
  split
  · next hlead hbody hpositions =>
    obtain hnone | hnone | ⟨x, hx, hnone⟩ := h
    · cases hnone.symm.trans hlead
    · cases hnone.symm.trans hbody
    · cases (pairPositions_eq_none ⟨_, List.mem_map_of_mem hx, hnone⟩).symm.trans hpositions
  · rfl

theorem State.spreadTest_motionless (hmo : u.motion = none) : s.spreadTest u = s := by
  unfold State.spreadTest
  rw [hmo]

theorem State.supervise_leadless (hlead : u.lead = none) : s.supervise u = s := by
  unfold State.supervise
  dsimp only
  split
  · next hsome => cases hlead.symm.trans hsome
  · rfl

/-! ## Postings and causes that depend on a condition -/

theorem State.ite_post (s : State) (c : Prop) [Decidable c] (b : Block) (r : List Port) (n : Notice) :
    (if c then s.post b r n else s)
      = s.withHand { s.hand with postings := s.hand.postings ++ if c then [⟨b, r, n⟩] else [] } := by
  split
  · rfl
  · rw [List.append_nil]
    rfl

theorem State.ite_raise (s : State) (p : Prop) [Decidable p] (c : CauseMessage) :
    (if p then s.raise c else s) = s.withHand { s.hand with causes := s.hand.causes ++ if p then [c] else [] } := by
  split
  · rfl
  · rw [List.append_nil]
    rfl

/-- ASU's causes carry the same data however many are raised. -/
theorem State.raiseEach_eq (s : State) (u : PositionUpdate) (cs : List Cause) : s.raiseEach u cs
    = s.withHand { s.hand with causes := s.hand.causes ++ cs.map fun c => ⟨c, .one u.mover, s.asuData u⟩ } := by
  induction cs generalizing s with
  | nil =>
    rw [List.map_nil, List.append_nil]
    rfl
  | cons c cs ih =>
    have hraised : s.raiseEach u (c :: cs) = (s.raiseAsu u c).raiseEach u cs := rfl
    rw [hraised, ih, List.map_cons, List.append_cons]
    rfl

/-! ## The spread test (R86 to R88) -/

theorem PositionUpdate.tested_iff : u.tested = true ↔ ∀ x ∈ u.axes, x.validity = .valid ∨ x.validity = .substituted := by
  simp [PositionUpdate.tested]

theorem State.spreadTest_untested (h : u.tested = false) : s.spreadTest u = s := by
  unfold State.spreadTest
  split
  · rfl
  · rw [h]
    rfl

/-- R86 to R88: a test that is made settles both excursions, and says each one as it opens. -/
theorem State.spreadTest_tested {mo : Motion} (hmo : u.motion = some mo) (h : u.tested = true) : s.spreadTest u =
    let g := s.params u.mover
    let k := s.asu.skew.get u.mover
    let spread := greatest mo.values - least mo.values
    { s with
      asu := { s.asu with
        skew := s.asu.skew.set u.mover ⟨some spread, decide (g.skewAlarm ≤ spread), decide (g.skewTrip ≤ spread)⟩ }
      hand := { s.hand with
        postings := s.hand.postings ++ (if g.skewAlarm ≤ spread ∧ k.alarmOpen = false then
          [⟨.asu, [ownerOf u.mover, .venue], ⟨.skewAlarm, 4, .mover u.mover, spread⟩⟩] else [])
        causes := s.hand.causes ++ (if g.skewTrip ≤ spread ∧ k.tripOpen = false then
          [⟨.skewTrip, .one u.mover, s.asuData u⟩] else []) } } := by
  simp only [State.spreadTest, hmo, h, if_true, State.raiseAsu, State.ite_post, State.ite_raise, Bool.and_eq_true,
    decide_eq_true_eq, Bool.not_eq_true']
  rfl

/-- R88: what the causes of ASU carry, whatever the mover's state. -/
theorem State.asuData_base (s : State) (u : PositionUpdate) :
    (s.asuData u).axis = some u.axis ∧ (s.asuData u).lead = u.lead
      ∧ (s.asuData u).primary = (s.pos.primary.get u.axis).lastPosition
      ∧ (s.asuData u).check = (s.pos.check.get u.axis).lastPosition ∧ (s.asuData u).speed = some u.axisSpeed := by
  unfold State.asuData
  dsimp only
  split <;> exact ⟨rfl, rfl, rfl, rfl, rfl⟩

/-- R88: with authority they carry its source and end and the axis ceiling as well. -/
theorem State.asuData_authority (h : (s.moverState u.mover).hasAuthority = true) : s.asuData u =
    { CauseData.nothing with
      axis := some u.axis, source := (s.authorityOf u.mover).source, lead := u.lead
      primary := (s.pos.primary.get u.axis).lastPosition, check := (s.pos.check.get u.axis).lastPosition
      speed := some u.axisSpeed, axisCeiling := some (s.asu.ceilings.get u.axis).ceiling
      authorityEnd := (s.authorityOf u.mover).authorityEnd } := if_pos h

theorem State.asuData_withoutAuthority (h : (s.moverState u.mover).hasAuthority = false) : s.asuData u =
    { CauseData.nothing with
      axis := some u.axis, lead := u.lead, primary := (s.pos.primary.get u.axis).lastPosition
      check := (s.pos.check.get u.axis).lastPosition, speed := some u.axisSpeed } := if_neg (by simp [h])

/-! ## The work on an update (R68) -/

/-- ASU takes the oldest update of its mover. -/
theorem exec_positionUpdateASU {rest : List PositionUpdate} (hr : s.slu.heldInReset = false)
    (ht : Taken (fun x : PositionUpdate => x.mover == m) 0 s.hand.toAsu u rest) :
    exec (.positionUpdateASU m) s = .next ((s.withHand { s.hand with toAsu := rest }).superviseUpdate u) := by
  have hexec : exec (.positionUpdateASU m) s = s.whileRunning fun s => s.takeUpdateAsu m := rfl
  rw [hexec, State.whileRunning_of_running hr, State.takeUpdateAsu, takeNth_of_taken ht]

theorem State.superviseUpdate_moving {mo : Motion} (h : (s.moverState u.mover).hasAuthority = true)
    (hmo : u.motion = some mo) :
    s.superviseUpdate u = (((s.clipAll u).computeCeilings u.mover mo .compared).spreadTest u).supervise u := by
  simp only [State.superviseUpdate, h, if_true, hmo]

theorem State.superviseUpdate_motionless (h : (s.moverState u.mover).hasAuthority = true) (hmo : u.motion = none) :
    s.superviseUpdate u = (s.clipAll u).supervise u := by
  simp only [State.superviseUpdate, h, if_true, hmo, State.spreadTest_motionless hmo]

theorem State.superviseUpdate_still (h : (s.moverState u.mover).hasAuthority = false) :
    s.superviseUpdate u = (s.clipAll u).spreadTest u := by
  simp [State.superviseUpdate, h]

end

/-- A mover without authority is Parked, Tripped or Halted. -/
theorem MoverState.hasAuthority_eq_false {st : MoverState} (h : st = .parked ∨ st = .tripped ∨ st = .halted) :
    st.hasAuthority = false := by
  rcases h with rfl | rfl | rfl <;> rfl

/-- Settles O31: the work by the mover's state, and the spread test by what the update carries. -/
theorem asuWorksInOrderAndTestsSpread : Obligations.AsuWorksInOrderAndTestsSpread := by
  refine ⟨?_, ?_, ?_⟩
  · intro s m u rest hr ht s1
    obtain rfl : u.mover = m := by simpa using ht.meets
    have hexec := exec_positionUpdateASU hr ht
    refine ⟨fun hstate => ?_, fun hstate => ?_⟩
    · have hauth := MoverState.hasAuthority_iff.mpr hstate
      exact ⟨fun mo hmo => hexec.trans (congrArg _ (State.superviseUpdate_moving hauth hmo)),
        fun hmo => hexec.trans (congrArg _ (State.superviseUpdate_motionless hauth hmo))⟩
    · exact hexec.trans (congrArg _ (State.superviseUpdate_still (MoverState.hasAuthority_eq_false hstate)))
  · exact fun s u => ⟨PositionUpdate.motion_eq_none, State.spreadTest_motionless, State.supervise_leadless⟩
  · intro s u mo hmo m g k spread authority tested
    have hauth : (s.moverState m).hasAuthority = true ↔ authority := MoverState.hasAuthority_iff
    refine ⟨fun h => State.spreadTest_untested (by simpa using mt PositionUpdate.tested_iff.mp h), fun h => ?_⟩
    obtain ⟨haxis, hlead, hprimary, hcheck, hspeed⟩ := s.asuData_base u
    refine ⟨s.asuData u, State.spreadTest_tested hmo (PositionUpdate.tested_iff.mpr h), haxis, hlead, hprimary, hcheck,
      hspeed, fun hmoving => ?_, fun hstill => ?_⟩
    · rw [State.asuData_authority (hauth.mpr hmoving)]
      exact ⟨rfl, rfl, rfl⟩
    · rw [State.asuData_withoutAuthority (by simpa using mt hauth.mp hstill)]
      exact ⟨rfl, rfl, rfl⟩

/-! ## Supervision (R74 to R79) -/

section
variable {s : State} {u : PositionUpdate} {d : Direction} {e l v : Int}

/-- The ceiling records with the axis read marked by R75 and counted by R76. -/
def State.supervisedCeilings (s : State) (u : PositionUpdate) (v : Int) : PerAxis CeilingRec :=
  let c := s.asu.ceilings.get u.axis
  s.asu.ceilings.set u.axis ⟨c.ceiling, decide (c.ceiling < v),
    if interventionSpeed c.ceiling < v ∧ c.overCount = 0 then 1 else 0⟩

/-- Whether an axis of the mover is marked over its ceiling once the axis read has been (R75). -/
def State.overMarked (s : State) (u : PositionUpdate) (v : Int) : Bool :=
  (axesOf u.mover).any fun a => ((s.supervisedCeilings u v).get a).overMark

/-- The causes that supervision raises (R76, R77). -/
def State.supervisionCauses (s : State) (u : PositionUpdate) (d : Direction) (e l v : Int) : List Cause :=
  let c := s.asu.ceilings.get u.axis
  (if interventionSpeed c.ceiling < v ∧ c.overCount ≠ 0 then [.overspeed] else [])
    ++ (if 0 < (l - e) * d.sign then [.overrun] else [])
    ++ (if 50 < (u.furthest.getD l - l) * d.sign then [.rollback] else [])

theorem State.superviseCeiling_eq (s : State) (u : PositionUpdate) (v : Int) : s.superviseCeiling u v =
    { s with
      asu := { s.asu with
        ceilings := s.asu.ceilings.set u.axis
          { s.asu.ceilings.get u.axis with overMark := decide ((s.asu.ceilings.get u.axis).ceiling < v) }
        authority := s.asu.authority.set u.mover { s.authorityOf u.mover with overspeedOpen := s.overMarked u v } }
      hand := { s.hand with
        postings := s.hand.postings ++ (if s.overMarked u v = true ∧ (s.authorityOf u.mover).overspeedOpen = false then
          [⟨.asu, [ownerOf u.mover], ⟨.overspeedWarning, 3, .mover u.mover, v⟩⟩] else []) } } := by
  have hmarked : ((axesOf u.mover).any fun a => ((s.asu.ceilings.set u.axis { s.asu.ceilings.get u.axis with
      overMark := decide ((s.asu.ceilings.get u.axis).ceiling < v) }).get a).overMark) = s.overMarked u v := by
    refine congrArg (axesOf u.mover).any (funext fun a => ?_)
    simp only [State.supervisedCeilings, PerAxis.get_set]
    split <;> rfl
  simp only [State.superviseCeiling, hmarked, State.ite_post, Bool.and_eq_true, Bool.not_eq_true']
  rfl

/-- R76: the second update in a row above the intervention speed raises OVERSPEED and starts the count anew. -/
theorem State.superviseIntervention_eq (s : State) (u : PositionUpdate) (v : Int) : s.superviseIntervention u v =
    let c := s.asu.ceilings.get u.axis
    (s.withAsu { s.asu with
      ceilings := s.asu.ceilings.set u.axis
        { c with overCount := if interventionSpeed c.ceiling < v ∧ c.overCount = 0 then 1 else 0 } },
      decide (interventionSpeed c.ceiling < v ∧ c.overCount ≠ 0)) := by
  by_cases habove : interventionSpeed (s.asu.ceilings.get u.axis).ceiling < v <;>
    by_cases hcount : (s.asu.ceilings.get u.axis).overCount = 0 <;>
    simp [State.superviseIntervention, habove, hcount]

/-- R75 and R76 together. -/
theorem State.superviseAxis_eq (s : State) (u : PositionUpdate) (v : Int) :
    (s.superviseCeiling u v).superviseIntervention u v =
      ({ s with
        asu := { s.asu with
          ceilings := s.supervisedCeilings u v
          authority := s.asu.authority.set u.mover { s.authorityOf u.mover with overspeedOpen := s.overMarked u v } }
        hand := { s.hand with
          postings := s.hand.postings ++ (if s.overMarked u v = true ∧ (s.authorityOf u.mover).overspeedOpen = false then
            [⟨.asu, [ownerOf u.mover], ⟨.overspeedWarning, 3, .mover u.mover, v⟩⟩] else []) } },
        decide (interventionSpeed (s.asu.ceilings.get u.axis).ceiling < v ∧ (s.asu.ceilings.get u.axis).overCount ≠ 0)) := by
  simp only [State.superviseIntervention_eq, State.superviseCeiling_eq, State.withAsu, PerAxis.get_set_self,
    PerAxis.set_set, State.supervisedCeilings]

/-- What the data of ASU's causes read. -/
theorem State.asuData_congr {t : State} (hpos : t.pos = s.pos) (hmsu : t.msu = s.msu)
    (hsource : (t.authorityOf u.mover).source = (s.authorityOf u.mover).source)
    (hend : (t.authorityOf u.mover).authorityEnd = (s.authorityOf u.mover).authorityEnd)
    (hceiling : (t.asu.ceilings.get u.axis).ceiling = (s.asu.ceilings.get u.axis).ceiling) :
    t.asuData u = s.asuData u := by
  have hstate : t.moverState u.mover = s.moverState u.mover := by rw [State.moverState, hmsu, State.moverState]
  unfold State.asuData
  rw [hpos, hstate, hsource, hend, hceiling]

/-- The data of ASU's causes are those of the state before: supervision touches marks and counts alone. -/
theorem State.supervised_asuData (s : State) (u : PositionUpdate) (v : Int) :
    ((s.superviseCeiling u v).superviseIntervention u v).1.asuData u = s.asuData u := by
  rw [State.superviseAxis_eq]
  refine State.asuData_congr rfl rfl ?_ ?_ ?_
  · simp [State.authorityOf]
  · simp [State.authorityOf]
  · simp [State.supervisedCeilings]

theorem consumedAt_iff {g : MoverParams} {standstill : Bool} :
    consumedAt g d l e standstill = true ↔ standstill = true ∧ (e - l) * d.sign ≤ g.stopMargin + 200 := by
  simp [consumedAt]

theorem State.ite_handConsumed (s : State) (p : Prop) [Decidable p] (m : Mover) :
    (if p then s.handConsumed m else s)
      = s.withHand { s.hand with consumed := s.hand.consumed ++ if p then [m] else [] } := by
  split
  · rfl
  · rw [List.append_nil]
    rfl

/-- R75 to R79 of a mover with direction, end and lead. -/
theorem State.supervise_eq (hd : (s.authorityOf u.mover).direction = some d)
    (he : (s.authorityOf u.mover).authorityEnd = some e) (hl : u.lead = some l) : s.supervise u =
    let m := u.mover
    let v := u.axisSpeed * d.sign
    let causes := s.supervisionCauses u d e l v
    { s with
      asu := { s.asu with
        ceilings := s.supervisedCeilings u v
        authority := s.asu.authority.set m { s.authorityOf m with overspeedOpen := s.overMarked u v } }
      hand := { s.hand with
        postings := s.hand.postings ++ (if s.overMarked u v = true ∧ (s.authorityOf m).overspeedOpen = false then
          [⟨.asu, [ownerOf m], ⟨.overspeedWarning, 3, .mover m, v⟩⟩] else [])
        causes := s.hand.causes ++ causes.map fun c => ⟨c, .one m, s.asuData u⟩
        consumed := s.hand.consumed ++ (if s.moverState m = .permitted ∧ causes = [] ∧ u.standstill = true
          ∧ (e - l) * d.sign ≤ (s.params m).stopMargin + 200 then [m] else []) } } := by
  have hcauses : ((if ((s.superviseCeiling u (u.axisSpeed * d.sign)).superviseIntervention u (u.axisSpeed * d.sign)).2 = true
      then [Cause.overspeed] else []) ++ (if overruns d l e = true then [Cause.overrun] else [])
      ++ (if rollsBack d l (u.furthest.getD l) = true then [Cause.rollback] else []))
      = s.supervisionCauses u d e l (u.axisSpeed * d.sign) := by
    simp only [State.superviseAxis_eq, overruns, rollsBack, decide_eq_true_eq]
    rfl
  simp only [State.supervise, hd, he, hl, hcauses, consumedAt_iff, State.ite_handConsumed, State.raiseEach_eq,
    State.supervised_asuData]
  rw [State.superviseAxis_eq, ← hd, ← he]
  rfl

end

/-- Settles O32: field by field from the state after supervision. -/
theorem supervisionChecksMotion : Obligations.SupervisionChecksMotion := by
  intro s u d e l hstate hd he hl m v c intervention causes data t marked
  have ht : t = _ := State.supervise_eq hd he hl
  have hceilings : t.asu.ceilings = s.supervisedCeilings u v := by rw [ht]
  have hauthority : t.asu.authority
      = s.asu.authority.set m { s.authorityOf m with overspeedOpen := s.overMarked u v } := by rw [ht]
  have hown : t.authorityOf m = { s.authorityOf m with overspeedOpen := s.overMarked u v } := by
    rw [State.authorityOf, hauthority]
    exact PerMover.get_set_self _ _ _
  have hmarked : s.overMarked u v = true ↔ marked := by
    simp only [marked, hceilings]
    exact List.any_eq_true
  have hdata : s.asuData u = data := by
    rw [State.asuData_authority (MoverState.hasAuthority_iff.mpr hstate), hl, he]
  have hpostings : t.hand.postings = s.hand.postings ++ (if s.overMarked u v = true ∧ (s.authorityOf m).overspeedOpen = false
      then [⟨.asu, [ownerOf m], ⟨.overspeedWarning, 3, .mover m, v⟩⟩] else []) := by rw [ht]
  refine ⟨?_, ?_, ⟨?_, ?_⟩, ⟨_, hown⟩, ?_, ?_, ?_, ?_, ?_, ?_⟩
  · rw [hceilings]
    exact PerAxis.get_set_self _ _ _
  · intro a ha
    rw [hceilings]
    exact PerAxis.get_set_of_ne _ _ _ _ ha
  · intro h
    rw [hown]
    exact hmarked.mpr h
  · intro h
    rw [hown]
    simpa using mt hmarked.mp h
  · intro q hq
    rw [State.authorityOf, hauthority]
    exact PerMover.get_set_of_ne _ _ _ _ hq
  · intro h hclosed
    rw [hpostings, if_pos ⟨hmarked.mpr h, hclosed⟩]
  · intro h
    rw [hpostings, if_neg, List.append_nil]
    rintro ⟨hover, hclosed⟩
    obtain hnot | hopen := h
    · exact hnot (hmarked.mp hover)
    · cases hclosed.symm.trans hopen
  · rw [← hdata, ht]
    rfl
  · rw [ht]
    rfl
  · rw [ht]

end Sys2Proof.Machine
end

section
/-! SUPPORT. What MSU makes of a consumption and of a position update (R79, R97, R100, R105, R106). It settles O33. -/

namespace Sys2Proof.Machine

section
variable {s : State} {m : Mover} {u : PositionUpdate} {d : Direction} {e l q : Int}

/-! ## AUTHORITY_CONSUMED (R79) -/

/-- MSU takes the oldest consumption of its mover. -/
theorem exec_authorityConsumed {rest : List Mover} (hr : s.slu.heldInReset = false)
    (ht : Taken (fun x : Mover => x == m) 0 s.hand.consumed m rest) :
    exec (.authorityConsumed m) s = .next ((s.withHand { s.hand with consumed := rest }).consume m) := by
  have hexec : exec (.authorityConsumed m) s = s.whileRunning fun s => s.takeConsumption m := rfl
  rw [hexec, State.whileRunning_of_running hr, State.takeConsumption, takeNth_of_taken ht]

/-- A consumption of a mover no longer Permitted, or without direction, end or lead, is dropped. -/
theorem State.consume_dropped (h : s.moverState m ≠ .permitted ∨ (s.authorityOf m).direction = none
    ∨ (s.authorityOf m).authorityEnd = none ∨ (s.pos.movers.get m).lead = none) : s.consume m = s := by
  unfold State.consume
  dsimp only
  split
  · next hstate hd he hl =>
    rw [hstate, hd, he, hl] at h
    simp at h
  · rfl

/-- R79: otherwise the mover parks where the test holds still. -/
theorem State.consume_tested (hstate : s.moverState m = .permitted) (hd : (s.authorityOf m).direction = some d)
    (he : (s.authorityOf m).authorityEnd = some e) (hl : (s.pos.movers.get m).lead = some l) :
    s.consume m = if (s.pos.movers.get m).standstill = true ∧ (e - l) * d.sign ≤ (s.params m).stopMargin + 200 then
      s.comeToRest m .parked l else s := by
  simp only [State.consume, hstate, hd, he, hl, consumedAt_iff]

/-! ## POSITION_UPDATE_MSU -/

/-- MSU takes the oldest update of its mover. -/
theorem exec_positionUpdateMSU {rest : List PositionUpdate} (hr : s.slu.heldInReset = false)
    (ht : Taken (fun x : PositionUpdate => x.mover == m) 0 s.hand.toMsu u rest) : exec (.positionUpdateMSU m) s
      = .next (((s.withHand { s.hand with toMsu := rest }).recordFirst u).followMover u) := by
  have hexec : exec (.positionUpdateMSU m) s = s.whileRunning fun s => s.takeUpdateMsu m := rfl
  rw [hexec, State.whileRunning_of_running hr, State.takeUpdateMsu, takeNth_of_taken ht]

theorem State.recordFirst_first (h : u.first = true) :
    s.recordFirst u = s.setMover u.mover { s.msu.get u.mover with parkedPosition := u.lead } := if_pos h

theorem State.recordFirst_later (h : u.first = false) : s.recordFirst u = s := if_neg (by simp [h])

/-! ## Movers at rest (R105, R106) -/

theorem State.followMover_atRest (h : s.moverState u.mover = .parked ∨ s.moverState u.mover = .halted) :
    s.followMover u = s.watchRest u := by
  obtain hstate | hstate := h
  · simp only [State.followMover, hstate]
  · simp only [State.followMover, hstate]

theorem State.watchRest_unplaced (h : u.lead = none ∨ (s.msu.get u.mover).parkedPosition = none) : s.watchRest u = s := by
  unfold State.watchRest
  dsimp only
  split
  · next hlead hparked =>
    rw [hlead, hparked] at h
    simp at h
  · rfl

/-- R106: the excursion follows the distance, and its opening is UNCOMMANDED MOTION. -/
theorem State.watchRest_placed (hlead : u.lead = some l) (hparked : (s.msu.get u.mover).parkedPosition = some q) :
    s.watchRest u =
      let s1 := s.setMover u.mover { s.msu.get u.mover with uncommandedOpen := decide (100 < max (l - q) (q - l)) }
      if 100 < max (l - q) (q - l) ∧ (s.msu.get u.mover).uncommandedOpen = false then
        s1.takeCause ⟨.uncommandedMotion, .one u.mover, { CauseData.nothing with
          axis := some u.axis, lead := some l, parked := some q, speed := some u.axisSpeed }⟩
      else s1 := by
  simp only [State.watchRest, hlead, hparked, absInt, neg_sub, Bool.and_eq_true, decide_eq_true_eq, Bool.not_eq_true',
    motionData]

theorem State.watchRest_near (hlead : u.lead = some l) (hparked : (s.msu.get u.mover).parkedPosition = some q)
    (hnear : max (l - q) (q - l) ≤ 100) :
    s.watchRest u = s.setMover u.mover { s.msu.get u.mover with uncommandedOpen := false } := by
  simp [State.watchRest_placed hlead hparked, hnear.not_gt]

theorem State.watchRest_away (hlead : u.lead = some l) (hparked : (s.msu.get u.mover).parkedPosition = some q)
    (haway : 100 < max (l - q) (q - l)) (hopen : (s.msu.get u.mover).uncommandedOpen = true) : s.watchRest u = s := by
  rw [State.watchRest_placed hlead hparked]
  simp only [haway, hopen, decide_true, Bool.true_eq_false, and_false, if_false]
  rw [← hopen]
  exact congrArg s.withMsu (PerMover.set_get_self _ _)

theorem State.watchRest_opens (hlead : u.lead = some l) (hparked : (s.msu.get u.mover).parkedPosition = some q)
    (haway : 100 < max (l - q) (q - l)) (hclosed : (s.msu.get u.mover).uncommandedOpen = false) :
    s.watchRest u = (s.setMover u.mover { s.msu.get u.mover with uncommandedOpen := true }).takeCause
      ⟨.uncommandedMotion, .one u.mover, { CauseData.nothing with
        axis := some u.axis, lead := some l, parked := some q, speed := some u.axisSpeed }⟩ := by
  simp only [State.watchRest_placed hlead hparked, haway, hclosed, decide_true, and_self, if_true]

/-- R105: the first lead is the parked position, and so no excursion from it. -/
theorem State.watchRest_first (hlead : u.lead = some l) :
    (s.setMover u.mover { s.msu.get u.mover with parkedPosition := some l }).watchRest u
      = s.setMover u.mover { s.msu.get u.mover with parkedPosition := some l, uncommandedOpen := false } := by
  have hget : (s.setMover u.mover { s.msu.get u.mover with parkedPosition := some l }).msu.get u.mover
      = { s.msu.get u.mover with parkedPosition := some l } := PerMover.get_set_self _ _ _
  rw [State.watchRest_near hlead (q := l) (by rw [hget]) (by simp), hget, State.setMover_setMover]

/-! ## Moving movers (R97, R100) -/

/-- A Permitted mover, and a moving one that is not at standstill, is left as it is. -/
theorem State.followMover_moving (h : s.moverState u.mover = .permitted
    ∨ ((s.moverState u.mover = .stopping ∨ s.moverState u.mover = .tripped) ∧ u.standstill = false)) :
    s.followMover u = s := by
  unfold State.followMover
  obtain hstate | ⟨hstate | hstate, hmoves⟩ := h
  · simp only [hstate]
  · cases hlead : u.lead <;> simp [hstate, hmoves]
  · cases hlead : u.lead <;> simp [hstate, hmoves]

theorem State.followMover_stopping (hstate : s.moverState u.mover = .stopping) (hlead : u.lead = some l)
    (hstill : u.standstill = true) : s.followMover u
      = s.comeToRest u.mover (if (s.msu.get u.mover).stopEnd = some .halted then .halted else .parked) l := by
  simp only [State.followMover, hstate, hlead, hstill, if_true]

theorem State.followMover_tripped (hstate : s.moverState u.mover = .tripped) (hlead : u.lead = some l)
    (hstill : u.standstill = true) : s.followMover u = s.endTrip u.mover l := by
  simp only [State.followMover, hstate, hlead, hstill, if_true]

/-- An update without a lead changes nothing. -/
theorem State.followMover_leadless (hlead : u.lead = none) : s.followMover u = s := by
  have hrest := State.watchRest_unplaced (s := s) (.inl hlead)
  cases hstate : s.moverState u.mover with
  | parked => exact (State.followMover_atRest (.inl hstate)).trans hrest
  | halted => exact (State.followMover_atRest (.inr hstate)).trans hrest
  | permitted => exact State.followMover_moving (.inl hstate)
  | stopping | tripped => simp only [State.followMover, hstate, hlead]

end

/-- Settles O33: each hand-over taken, then by the mover's state and what the update says. -/
theorem msuEndsStopsAndWatchesRest : Obligations.MsuEndsStopsAndWatchesRest := by
  refine ⟨?_, ?_⟩
  · intro s m rest hr ht s0 k
    have hexec := exec_authorityConsumed hr ht
    have hdropped : s0.consume m = s0 → exec (.authorityConsumed m) s = .next s0 := fun h => hexec.trans (congrArg _ h)
    refine ⟨fun hstate => hdropped (State.consume_dropped (.inl hstate)),
      fun hnone => hdropped (State.consume_dropped (.inr hnone)), fun d e l hstate hd he hl => ?_⟩
    have htested := State.consume_tested (s := s0) hstate hd he hl
    refine ⟨fun hfails => hdropped (htested.trans (if_neg ?_)), fun hstill hshort => ?_⟩
    · rintro ⟨hstill, hshort⟩
      obtain hmoves | hfar := hfails
      · cases hmoves.symm.trans hstill
      · exact hshort.not_gt hfar
    · rw [if_pos ⟨hstill, hshort⟩, State.comeToRest_parked] at htested
      exact hexec.trans (congrArg _ htested)
  · intro s m u rest hr ht s0 k act atRest
    obtain rfl : u.mover = m := by simpa using ht.meets
    have hexec : act = .next ((s0.recordFirst u).followMover u) := exec_positionUpdateMSU hr ht
    have hlater : u.first = false → ∀ {t}, s0.followMover u = t → act = .next t := by
      rintro hfirst t rfl
      rw [hexec, State.recordFirst_later hfirst]
    refine ⟨fun hfirst hlead => hlater hfirst (State.followMover_leadless hlead), fun l hlead => ?_⟩
    refine ⟨?_, ?_, ?_, ?_, ?_, ?_, ?_⟩
    · exact fun hfirst hmoving => hlater hfirst (State.followMover_moving hmoving)
    · intro hrest hfirst
      rw [hexec, State.recordFirst_first hfirst, hlead, State.followMover_atRest, State.watchRest_first hlead]
      rwa [State.moverState, State.setMover, State.withMsu_msu, PerMover.get_set_self]
    · exact fun hrest hfirst hparked =>
        hlater hfirst ((State.followMover_atRest (s := s0) hrest).trans (State.watchRest_unplaced (.inr hparked)))
    · intro q hrest hfirst hparked
      have hwatch := fun {t} (h : s0.watchRest u = t) => hlater hfirst ((State.followMover_atRest (s := s0) hrest).trans h)
      exact ⟨fun hnear => hwatch (State.watchRest_near hlead hparked hnear),
        fun haway hopen => hwatch (State.watchRest_away hlead hparked haway hopen),
        fun haway hclosed => hwatch (State.watchRest_opens hlead hparked haway hclosed)⟩
    · intro hfirst hstill hstate hend
      refine hlater hfirst ((State.followMover_stopping (s := s0) hstate hlead hstill).trans ?_)
      rw [if_neg (show ¬ (s0.msu.get u.mover).stopEnd = some .halted from fun h => nomatch hend.symm.trans h)]
      exact State.comeToRest_parked _ _ _
    · intro hfirst hstill hstate hend
      refine hlater hfirst ((State.followMover_stopping (s := s0) hstate hlead hstill).trans ?_)
      rw [if_pos (show (s0.msu.get u.mover).stopEnd = some .halted from hend)]
      exact State.comeToRest_halted _ _ _
    · exact fun hfirst hstill hstate => hlater hfirst (State.followMover_tripped hstate hlead hstill)

end Sys2Proof.Machine
end

section
/-! SUPPORT. MOVE: its operands, its refusals in order, and the end that leaves no room (R61, R62, R64). It settles
O25. -/

namespace Sys2Proof.Machine

/-! ## The operands (R61) -/

/-- R61: the direction byte is +1 or -1. -/
theorem directionOfByte_eq_some {b : Byte} {d : Direction} :
    directionOfByte b = some d ↔ b = BitVec.ofInt 8 d.sign := by
  constructor
  · intro h
    unfold directionOfByte at h
    split at h
    · next hb =>
      cases h
      exact BitVec.eq_of_toInt_eq hb
    · split at h
      · next hb =>
        cases h
        exact BitVec.eq_of_toInt_eq hb
      · cases h
  · rintro rfl
    cases d <;> rfl

theorem directionOfByte_eq_none {b : Byte} (hsouth : b ≠ 1#8) (hnorth : b ≠ 255#8) : directionOfByte b = none := by
  cases h : directionOfByte b with
  | none => rfl
  | some d =>
    have hb := directionOfByte_eq_some.mp h
    cases d
    · exact absurd hb hsouth
    · exact absurd hb hnorth

theorem requestRow_move {r : Request} (h : codeOfByte r.code = some .move) : requestRow r = .move := by
  simp [requestRow, h]

section
variable {s : State} {p : Port} {r : Request} {m : Mover} {d : Direction} {mo : Motion}

theorem exec_move (h : s.Served p r .move) {t : State} {a : Answer} (hs : settleMove p r (s.takeHead p) = (t, some a)) :
    exec .move s = .next (t.reply p r.tag a) :=
  serve_answers h (requestRow_move h.code) hs

theorem settleMove_notArmed (h : s.dsu.state ≠ .armed) : settleMove p r s = (s, some ⟨.notArmed, false, []⟩) := if_neg h

theorem settleMove_badRequest (harmed : s.dsu.state = .armed)
    (h : (∀ m, fieldAt r.body 0 ≠ moverNumber m) ∨ (byteAt r.body 1 ≠ 1#8 ∧ byteAt r.body 1 ≠ 255#8)) :
    settleMove p r s = (s, some ⟨.badRequest, false, []⟩) := by
  rw [settleMove, if_pos harmed]
  obtain hmover | ⟨hsouth, hnorth⟩ := h
  · rw [moverOfNumber_none.mpr hmover]
    rfl
  · rw [directionOfByte_eq_none hsouth hnorth]
    cases moverOfNumber (fieldAt r.body 0) <;> rfl

theorem settleMove_named (harmed : s.dsu.state = .armed) (hm : fieldAt r.body 0 = moverNumber m)
    (hd : byteAt r.body 1 = BitVec.ofInt 8 d.sign) : settleMove p r s = s.askMove p m d (int32At r.body 2) := by
  simp only [settleMove, harmed, if_true, moverOfNumber_iff.mpr hm, directionOfByte_eq_some.mpr hd]

/-! ## The conditions of R62 -/

theorem State.isReversal_iff : s.isReversal m d = true ↔ ∃ x, (s.authorityOf m).direction = some x ∧ x ≠ d := by
  unfold State.isReversal
  cases (s.authorityOf m).direction <;> simp

theorem State.refusesReversal_iff : s.refusesReversal m d = true
    ↔ (∃ x, (s.authorityOf m).direction = some x ∧ x ≠ d) ∧ (s.moverState m = .stopping
      ∨ (s.moverState m = .permitted ∧ (s.pos.movers.get m).standstill = false)) := by
  rw [State.refusesReversal, Bool.and_eq_true, State.isReversal_iff]
  cases s.moverState m <;> simp

theorem Validity.barsGrant_iff {v : Validity} : v.barsGrant = true ↔ v ≠ .valid ∧ v ≠ .substituted := by
  cases v <;> simp [Validity.barsGrant]

theorem State.readerBars_iff : s.readerBars m = true
    ↔ (∃ a ∈ axesOf m, (s.pos.axes.get a).validity ≠ .valid ∧ (s.pos.axes.get a).validity ≠ .substituted)
      ∨ (s.pos.movers.get m).body = none := by
  simp [State.readerBars, Validity.barsGrant_iff]

theorem State.bodyNotHeld_iff : s.bodyNotHeld m = true
    ↔ ∃ z ∈ s.zt.zones (pathOf m), bodyOverlaps (s.pos.movers.get m).body z = true ∧ z.holder ≠ some m := by
  simp [State.bodyNotHeld]

theorem State.moveRefusal_eq_none (hpermits : s.dsu.permits = true) (hlink : (s.spu.ports.get .venue).link ≠ .silent)
    (hstate : ¬ (s.moverState m = .halted ∨ s.moverState m = .tripped)) (hreversal : ¬ s.refusesReversal m d = true)
    (hwind : ¬ (isPanel m = true ∧ s.wm.state.barsPanels = true)) (hreader : ¬ s.readerBars m = true)
    (hheld : ¬ s.bodyNotHeld m = true) : s.moveRefusal m d = none := by
  rw [State.moveRefusal, if_neg (by simp [hpermits]), if_neg hlink, if_neg hstate, if_neg hreversal, if_neg hwind,
    if_neg hreader, if_neg hheld]

/-- Whether a grant would be from Parked or a reversal (R65). -/
theorem State.isFresh_iff : s.isFresh m d = true
    ↔ s.moverState m = .parked ∨ ∃ x, (s.authorityOf m).direction = some x ∧ x ≠ d := by
  rw [State.isFresh, Bool.or_eq_true, State.isReversal_iff, beq_iff_eq]

/-- Taking the head of a queue changes nothing that R62 reads. -/
theorem State.takeHead_moveRefusal (s : State) (p : Port) (m : Mover) (d : Direction) :
    (s.takeHead p).moveRefusal m d = s.moveRefusal m d := by
  simp only [State.moveRefusal, State.takeHead_link]
  rfl

/-! ## The answers of a MOVE -/

theorem State.askMove_refused {o : ReplyOutcome} (h : s.moveRefusal m d = some o) (target : Int) :
    s.askMove p m d target = (s, some ⟨o, false, []⟩) := by
  simp only [State.askMove, h]
  rfl

/-- R64: an authority that would leave no room is answered and not given. -/
theorem State.askMove_noRoom {target : Int} (h : s.moveRefusal m d = none) (hmo : s.motionOf m = some mo)
    (hfresh : s.isFresh m d = true)
    (hroom : ((s.settleEnd m d target mo).position - leadOf (s.params m) mo.values d) * d.sign ≤ (s.params m).stopMargin + 200) :
    s.askMove p m d target = (s, some ⟨.done, true,
      moveBody m d (s.settleEnd m d target mo).position (s.authorityOf m).untrimmed⟩) := by
  have hnone : noRoom (s.params m) d (leadOf (s.params m) mo.values d) (s.settleEnd m d target mo).position = true :=
    decide_eq_true hroom
  simp only [State.askMove, h, hmo, hfresh, hnone, Bool.and_self, if_true]
  rfl

/-- R65: a MOVE that meets no refusal and leaves room is granted. -/
theorem State.askMove_granted {target : Int} (h : s.moveRefusal m d = none) (hmo : s.motionOf m = some mo)
    (hroom : s.isFresh m d = true →
      (s.params m).stopMargin + 200 < ((s.settleEnd m d target mo).position - leadOf (s.params m) mo.values d) * d.sign) :
    let e := s.settleEnd m d target mo
    let t := s.grantMove p m d e.position
    s.askMove p m d target = (t, some ⟨.done, e.clamped, moveBody m d e.position (t.authorityOf m).untrimmed⟩) := by
  have hnone : (s.isFresh m d && noRoom (s.params m) d (leadOf (s.params m) mo.values d)
      (s.settleEnd m d target mo).position) = false := by
    cases hfresh : s.isFresh m d with
    | false => rfl
    | true => simpa [noRoom] using hroom hfresh
  simp only [State.askMove, h, hmo, hnone, Bool.false_eq_true, if_false]
  rfl

end

/-- Settles O25: the checks of R61, then those of R62 one after another, then R64. -/
theorem moveRefusedInOrder : Obligations.MoveRefusedInOrder := by
  intro s p r h
  refine ⟨fun hstate => exec_move h (settleMove_notArmed (s := s.takeHead p) hstate),
    fun harmed hbad => exec_move h (settleMove_badRequest (s := s.takeHead p) harmed hbad),
    fun m d harmed hm hd => ?_⟩
  intro refused reversing c3 c4 c5 c6 c7
  have hnamed : settleMove p r (s.takeHead p) = _ := settleMove_named (s := s.takeHead p) harmed hm hd
  have hrefused : ∀ {o}, s.moveRefusal m d = some o → refused o := fun ho =>
    exec_move h (hnamed.trans (State.askMove_refused ((s.takeHead_moveRefusal p m d).trans ho) _))
  have h4 : s.refusesReversal m d = true ↔ c4 := State.refusesReversal_iff
  have h5 : isPanel m = true ∧ s.wm.state.barsPanels = true ↔ c5 := and_congr_right fun _ => WindState.barsPanels_iff
  have h6 : s.readerBars m = true ↔ c6 := State.readerBars_iff
  have h7 : s.bodyNotHeld m = true ↔ c7 := State.bodyNotHeld_iff
  refine ⟨fun h1 => hrefused (if_pos h1), fun h1 => ?_⟩
  have hpermits : ¬ s.dsu.permits = false := by simp [h1]
  refine ⟨fun h2 => hrefused ?_, fun h2 => ⟨fun h3 => hrefused ?_, fun h3 => ⟨fun hc4 => hrefused ?_, fun hc4 =>
    ⟨fun hc5 => hrefused ?_, fun hc5 => ⟨fun hc6 => hrefused ?_, fun hc6 => ⟨fun hc7 => hrefused ?_,
      fun hc7 mo hmo hfresh => ?_⟩⟩⟩⟩⟩⟩
  · rw [State.moveRefusal, if_neg hpermits, if_pos h2]
  · rw [State.moveRefusal, if_neg hpermits, if_neg h2, if_pos h3]
  · rw [State.moveRefusal, if_neg hpermits, if_neg h2, if_neg h3, if_pos (h4.mpr hc4)]
  · rw [State.moveRefusal, if_neg hpermits, if_neg h2, if_neg h3, if_neg (mt h4.mp hc4), if_pos (h5.mpr hc5)]
  · rw [State.moveRefusal, if_neg hpermits, if_neg h2, if_neg h3, if_neg (mt h4.mp hc4), if_neg (mt h5.mp hc5),
      if_pos (h6.mpr hc6)]
  · rw [State.moveRefusal, if_neg hpermits, if_neg h2, if_neg h3, if_neg (mt h4.mp hc4), if_neg (mt h5.mp hc5),
      if_neg (mt h6.mp hc6), if_pos (h7.mpr hc7)]
  · intro e hroom
    have hnone : s.moveRefusal m d = none :=
      State.moveRefusal_eq_none h1 h2 h3 (mt h4.mp hc4) (mt h5.mp hc5) (mt h6.mp hc6) (mt h7.mp hc7)
    exact exec_move h (hnamed.trans (State.askMove_noRoom (s := s.takeHead p)
      ((s.takeHead_moveRefusal p m d).trans hnone) hmo (State.isFresh_iff.mpr hfresh) hroom))

end Sys2Proof.Machine
end

section
/-! SUPPORT. The grant of a MOVE: the mover's records before its ceilings are computed, and the motion they are computed
from (R65). It settles O24. -/

namespace Sys2Proof.Machine

/-! ## A motion and the positions it holds -/

theorem allPresent_of_pairPositions {l : List (Axis × Option Int)} {xs : List (Axis × Int)}
    (h : pairPositions l = some xs) : allPresent (l.map (·.2)) = some (xs.map (·.2)) ∧ xs.map (·.1) = l.map (·.1) := by
  induction l generalizing xs with
  | nil =>
    cases h
    exact ⟨rfl, rfl⟩
  | cons x l ih =>
    obtain ⟨a, position⟩ := x
    cases position with
    | none => cases h
    | some y =>
      obtain ⟨ys, hys, rfl⟩ := Option.map_eq_some_iff.mp h
      obtain ⟨hpresent, haxes⟩ := ih hys
      simp [allPresent, hpresent, haxes]

section
variable {s t : State} {m : Mover} {d : Direction} {mo : Motion}

theorem State.motionOf_eq_some : s.motionOf m = some mo
    ↔ (s.pos.movers.get m).lead = some mo.lead ∧ (s.pos.movers.get m).body = some mo.body
      ∧ pairPositions ((axesOf m).map fun a => (a, (s.pos.axes.get a).position)) = some mo.positions
      ∧ (s.pos.movers.get m).speed = mo.speed
      ∧ ((axesOf m).any fun a => (s.pos.axes.get a).validity == .substituted) = mo.substituted := by
  unfold State.motionOf
  dsimp only
  constructor
  · intro h
    split at h
    · next hlead hbody hpositions =>
      cases h
      exact ⟨hlead, hbody, hpositions, rfl, rfl⟩
    · cases h
  · rintro ⟨hlead, hbody, hpositions, hspeed, hsubstituted⟩
    rw [hlead, hbody, hpositions, hspeed, hsubstituted]

/-- The positions of a motion are those POS has of the mover's axes. -/
theorem State.positions_of_motionOf (h : s.motionOf m = some mo) : s.pos.positions m = some mo.values := by
  obtain ⟨-, -, hpositions, -, -⟩ := State.motionOf_eq_some.mp h
  have hpresent := (allPresent_of_pairPositions hpositions).1
  rwa [List.map_map] at hpresent

/-- A motion lists the mover's own axes, each once. -/
theorem State.axes_of_motionOf (h : s.motionOf m = some mo) : mo.positions.map (·.1) = axesOf m := by
  obtain ⟨-, -, hpositions, -, -⟩ := State.motionOf_eq_some.mp h
  rw [(allPresent_of_pairPositions hpositions).2, List.map_map]
  exact List.map_id _

theorem axesOf_nodup (m : Mover) : (axesOf m).Nodup := by cases m <;> decide

/-- R31, R65: the motion of a mover whose lead is formed in a direction from its positions, its body with it. -/
def Motion.reformed (mo : Motion) (g : MoverParams) (d : Direction) : Motion :=
  { mo with lead := leadOf g mo.values d, body := bodyOf g mo.values }

/-! ## The records of a grant (R65) -/

/-- MSU's record of a mover granted a MOVE. -/
def State.grantedRecord (s : State) (m : Mover) : MoverRec :=
  if s.moverState m = .parked then { s.msu.get m with
    state := .permitted, haltCauses := [], uncommandedOpen := false, relayClosed := true
    readbackTimer := (s.msu.get m).readbackTimer || !(s.msu.get m).relayClosed }
  else s.msu.get m

/-- POS's record of a mover granted a MOVE in a direction. -/
def State.grantedPlace (s : State) (m : Mover) (d : Direction) (mo : Motion) : PosMover :=
  if s.isFresh m d = true then { s.pos.movers.get m with
    body := some (bodyOf (s.params m) mo.values), lead := some (leadOf (s.params m) mo.values d)
    furthest := some (leadOf (s.params m) mo.values d) }
  else s.pos.movers.get m

/-- The motion from which a grant computes the ceilings. -/
def State.grantedMotion (s : State) (m : Mover) (d : Direction) (mo : Motion) : Motion :=
  if s.isFresh m d = true then mo.reformed (s.params m) d else mo

/-- What a grant does with the cap. -/
def State.grantWork (s : State) (m : Mover) (d : Direction) : CapWork :=
  if s.isFresh m d = true then .afresh else .asItStands

/-- The state of a grant before the ceilings are computed. -/
def State.granting (s : State) (port : Port) (m : Mover) (d : Direction) (mo : Motion) (position : Int) : State :=
  { s with
    asu := { s.asu with authority := s.asu.authority.set m { s.authorityOf m with
      direction := some d, authorityEnd := some position, source := some port } }
    msu := s.msu.set m (s.grantedRecord m)
    pos := { s.pos with movers := s.pos.movers.set m (s.grantedPlace m d mo) }
    hand := { s.hand with
      moverChanges := s.hand.moverChanges ++ if s.moverState m = .parked then [⟨m, .permitted⟩] else [] } }

/-- R32, R65: the lead formed with the recorded direction, and the furthest lead set to it. -/
theorem State.restartFurthest_eq {xs : List Int} (h : s.pos.positions m = some xs) (hd : s.directionOf m = d) :
    s.restartFurthest m = s.withPos { s.pos with movers := s.pos.movers.set m { s.pos.movers.get m with
      body := some (bodyOf (s.params m) xs), lead := some (leadOf (s.params m) xs d)
      furthest := some (leadOf (s.params m) xs d) } } := by
  simp [State.restartFurthest, State.formGeometry, h, hd, State.withPos, PerMover.modify]

section
variable {port : Port} {position : Int}

theorem State.authorised_directionOf (s : State) (port : Port) (m : Mover) (d : Direction) (position : Int) :
    (s.authorised port m d position).directionOf m = d := by
  rw [State.directionOf, State.authorised, State.setAuthority_authorityOf]
  rfl

/-- The mover's motion at the grant. -/
theorem State.granting_motionOf (h : s.motionOf m = some mo) :
    (s.granting port m d mo position).motionOf m = some (s.grantedMotion m d mo) := by
  obtain ⟨hlead, hbody, hpositions, hspeed, hsubstituted⟩ := State.motionOf_eq_some.mp h
  have hget : (s.granting port m d mo position).pos.movers.get m = s.grantedPlace m d mo := PerMover.get_set_self _ _ _
  rw [State.motionOf_eq_some, hget]
  unfold State.grantedPlace State.grantedMotion
  split
  · exact ⟨rfl, rfl, hpositions, hspeed, hsubstituted⟩
  · exact ⟨hlead, hbody, hpositions, hspeed, hsubstituted⟩

/-- A grant from Parked: MSU's record, POS's and what is handed on. -/
theorem State.granting_parked (h : s.motionOf m = some mo) (hparked : s.moverState m = .parked) :
    ((s.authorised port m d position).permit m).restartFurthest m = s.granting port m d mo position := by
  have hfresh : s.isFresh m d = true := State.isFresh_iff.mpr (.inl hparked)
  rw [State.permit_eq]
  refine Eq.trans (State.restartFurthest_eq (d := d) (xs := mo.values) ?_ ?_) ?_
  · exact State.positions_of_motionOf h
  · exact s.authorised_directionOf port m d position
  · simp only [State.granting, State.grantedRecord, State.grantedPlace, hparked, hfresh, if_true]
    rfl

/-- A reversal of a moving mover: POS's record alone. -/
theorem State.granting_reversal (h : s.motionOf m = some mo) (hmoving : s.moverState m ≠ .parked)
    (hfresh : s.isFresh m d = true) :
    (s.authorised port m d position).restartFurthest m = s.granting port m d mo position := by
  refine Eq.trans (State.restartFurthest_eq (d := d) (xs := mo.values) ?_ ?_) ?_
  · exact State.positions_of_motionOf h
  · exact s.authorised_directionOf port m d position
  · simp only [State.granting, State.grantedRecord, State.grantedPlace, hmoving, hfresh, if_true, if_false,
      PerMover.set_get_self, List.append_nil]
    rfl

/-- Any other grant: the authority record alone. -/
theorem State.granting_stale (hmoving : s.moverState m ≠ .parked) (hfresh : s.isFresh m d = false) (mo : Motion) :
    s.authorised port m d position = s.granting port m d mo position := by
  simp only [State.granting, State.grantedRecord, State.grantedPlace, hmoving, hfresh, if_false, Bool.false_eq_true,
    PerMover.set_get_self, List.append_nil]
  rfl

/-- R65: a grant from Parked forms the lead anew, and so does a reversal; both set the cap afresh. -/
theorem State.grantMove_eq (h : s.motionOf m = some mo) (port : Port) (position : Int) : s.grantMove port m d position
    = (s.granting port m d mo position).computeCeilings m (s.grantedMotion m d mo) (s.grantWork m d) := by
  have hnow : (s.granting port m d mo position).computeCeilingsNow m (s.isFresh m d)
      = (s.granting port m d mo position).computeCeilings m (s.grantedMotion m d mo) (s.grantWork m d) := by
    rw [State.computeCeilingsNow, State.granting_motionOf h]
    rfl
  rw [← hnow]
  by_cases hparked : s.moverState m = .parked
  · rw [State.grantMove_parked hparked, State.granting_parked h hparked, State.isFresh_iff.mpr (.inl hparked)]
  · have hreversal : s.isFresh m d = s.isReversal m d := by
      rw [State.isFresh, beq_eq_false_iff_ne.mpr hparked, Bool.false_or]
    rw [State.grantMove_moving hparked, ← hreversal]
    split
    · next hfresh => rw [State.granting_reversal h hparked hfresh]
    · next hfresh => rw [State.granting_stale hparked (by simpa using hfresh) mo]

/-- The authority record before the ceilings are computed. -/
theorem State.granting_authorityOf (s : State) (port : Port) (m : Mover) (d : Direction) (mo : Motion) (position : Int) :
    (s.granting port m d mo position).authorityOf m = { s.authorityOf m with
      direction := some d, authorityEnd := some position, source := some port } := PerMover.get_set_self _ _ _

/-- The authority record of a mover granted a MOVE. -/
def State.grantedAuthority (s : State) (port : Port) (m : Mover) (d : Direction) (mo : Motion) (position : Int) :
    Authority :=
  (s.granting port m d mo position).ceilinged m (s.grantedMotion m d mo) (s.grantWork m d) d position

/-- R65: the state after a grant. -/
theorem State.grantMove_withAsu (h : s.motionOf m = some mo) (port : Port) (position : Int) :
    s.grantMove port m d position = (s.granting port m d mo position).withAsu { s.asu with
      authority := s.asu.authority.set m (s.grantedAuthority port m d mo position)
      ceilings := setCeilings s.asu.ceilings (fun x => trimmed (s.params m)
        (s.grantedAuthority port m d mo position).untrimmed (leadExcess d (lagOf d mo.values) x)) mo.positions } := by
  have hmotion : (s.grantedMotion m d mo).positions = mo.positions := by
    unfold State.grantedMotion
    split <;> rfl
  have hauthority := s.granting_authorityOf port m d mo position
  rw [State.grantMove_eq h, State.computeCeilings_eq (by rw [hauthority]) (by rw [hauthority]), Motion.values, hmotion]
  simp only [State.granting, PerMover.set_set]
  rfl

theorem State.grantedAuthority_eq (s : State) (port : Port) (m : Mover) (d : Direction) (mo : Motion) (position : Int) :
    let b := s.grantedAuthority port m d mo position
    b = { s.authorityOf m with
      direction := some d, authorityEnd := some position, source := some port
      targetCap := b.targetCap, capInUse := b.capInUse, descent := b.descent, untrimmed := b.untrimmed } := by
  dsimp only
  rw [State.grantedAuthority, State.ceilinged_eq, State.granting_authorityOf]

/-- R65, R71: a grant from Parked or a reversal sets the cap afresh. -/
theorem State.grantedAuthority_fresh (hfresh : s.isFresh m d = true) (port : Port) (mo : Motion) (position : Int) :
    (s.grantedAuthority port m d mo position).descent = none
      ∧ (s.grantedAuthority port m d mo position).targetCap
        = targetCapOf (s.params m) (isPanel m) s.wm.state mo.substituted
      ∧ (s.grantedAuthority port m d mo position).capInUse
        = targetCapOf (s.params m) (isPanel m) s.wm.state mo.substituted := by
  simp only [State.grantedAuthority, State.grantWork, State.grantedMotion, hfresh, if_true]
  exact ⟨rfl, rfl, rfl⟩

/-- Any other grant uses the cap as it stands (log 34). -/
theorem State.grantedAuthority_stale (hfresh : s.isFresh m d = false) (port : Port) (mo : Motion) (position : Int) :
    (s.grantedAuthority port m d mo position).targetCap = (s.authorityOf m).targetCap
      ∧ (s.grantedAuthority port m d mo position).capInUse = (s.authorityOf m).capInUse
      ∧ (s.grantedAuthority port m d mo position).descent = (s.authorityOf m).descent := by
  have hgranting := s.granting_authorityOf port m d mo position
  simp only [State.grantedAuthority, State.grantWork, hfresh, Bool.false_eq_true, if_false, State.ceilinged, stageCap,
    hgranting, and_self]

/-- Any other grant computes the ceilings from the authority record alone and the motion as it is. -/
theorem State.grantMove_stale (h : s.motionOf m = some mo) (hfresh : s.isFresh m d = false) (port : Port) (position : Int) :
    s.grantMove port m d position = (s.authorised port m d position).computeCeilings m mo .asItStands := by
  have hmoving : s.moverState m ≠ .parked := fun hparked => by
    rw [State.isFresh_iff.mpr (.inl hparked)] at hfresh
    cases hfresh
  rw [State.grantMove_eq h, ← State.granting_stale hmoving hfresh, State.grantedMotion, State.grantWork, hfresh]
  rfl

end

end

/-! ## The conditions of a grant (R62) -/

section
variable {s : State} {m : Mover} {d : Direction} {b : Extent}

theorem State.reversal_allowed (h : ∀ x, (s.authorityOf m).direction = some x → x ≠ d → s.moverState m = .parked
    ∨ (s.moverState m = .permitted ∧ (s.pos.movers.get m).standstill = true)) : ¬ s.refusesReversal m d = true := by
  rw [State.refusesReversal_iff]
  rintro ⟨⟨x, hx, hne⟩, hmoves⟩
  obtain hparked | ⟨hpermitted, hstill⟩ := h x hx hne
  · simp [hparked] at hmoves
  · simp [hpermitted, hstill] at hmoves

theorem State.wind_allowed (h : isPanel m = true → s.wm.state = .calm ∨ s.wm.state = .reduced) :
    ¬ (isPanel m = true ∧ s.wm.state.barsPanels = true) := by
  rw [WindState.barsPanels_iff]
  rintro ⟨hpanel, hbars⟩
  obtain hcalm | hreduced := h hpanel
  · simp [hcalm] at hbars
  · simp [hreduced] at hbars

theorem State.readers_allowed
    (h : ∀ a ∈ axesOf m, (s.pos.axes.get a).validity = .valid ∨ (s.pos.axes.get a).validity = .substituted)
    (hbody : (s.pos.movers.get m).body = some b) : ¬ s.readerBars m = true := by
  rw [State.readerBars_iff, hbody]
  rintro (⟨a, ha, hvalid, hsubstituted⟩ | habsent)
  · exact (h a ha).elim hvalid hsubstituted
  · cases habsent

theorem State.body_held (hbody : (s.pos.movers.get m).body = some b)
    (h : ∀ z ∈ s.zt.zones (pathOf m), b.overlaps z = true → z.holder = some m) : ¬ s.bodyNotHeld m = true := by
  rw [State.bodyNotHeld_iff, hbody]
  rintro ⟨z, hz, hover, hother⟩
  exact hother (h z hz hover)

end

/-- Settles O24: none of R62's conditions holds, and what a grant leaves is read from its state. -/
theorem moveGranted : Obligations.MoveGranted := by
  intro s p r m d b mo h harmed hm hd hpermits hlink hhalted htripped hreverses hwind hvalid hbody hheld hmo g e lead fresh
    hroom
  have hfresh : s.isFresh m d = true ↔ fresh := State.isFresh_iff
  have hnone : s.moveRefusal m d = none :=
    State.moveRefusal_eq_none hpermits hlink (not_or.mpr ⟨hhalted, htripped⟩) (State.reversal_allowed hreverses)
      (State.wind_allowed hwind) (State.readers_allowed hvalid hbody) (State.body_held hbody hheld)
  let t := (s.takeHead p).grantMove p m d e.position
  have hexec : exec .move s
      = .next (t.reply p r.tag ⟨.done, e.clamped, moveBody m d e.position (t.authorityOf m).untrimmed⟩) :=
    exec_move h ((settleMove_named (s := s.takeHead p) harmed hm hd).trans (State.askMove_granted (s := s.takeHead p)
      ((s.takeHead_moveRefusal p m d).trans hnone) hmo fun hf => hroom (hfresh.mp hf)))
  have ht : t = _ := State.grantMove_withAsu (s := s.takeHead p) hmo p e.position
  have hown : t.authorityOf m = (s.takeHead p).grantedAuthority p m d mo e.position := by
    rw [ht]
    exact PerMover.get_set_self _ _ _
  have hgiven : t.authorityOf m = _ := hown.trans ((s.takeHead p).grantedAuthority_eq p m d mo e.position)
  have hrecord : t.msu.get m = s.grantedRecord m := by
    rw [ht]
    exact PerMover.get_set_self _ _ _
  have hplace : t.pos.movers.get m = s.grantedPlace m d mo := by
    rw [ht]
    exact PerMover.get_set_self _ _ _
  have hhand : t.hand = { s.hand with
      moverChanges := s.hand.moverChanges ++ if s.moverState m = .parked then [⟨m, .permitted⟩] else [] } := by
    rw [ht]
    rfl
  refine ⟨t, hexec, ?_, ?_, ?_, ?_, ?_, ?_, ?_, ?_, ?_, ?_, ?_⟩
  · rw [ht]
    rfl
  · rw [hgiven]
    exact ⟨rfl, rfl, rfl, rfl, rfl⟩
  · intro q hq
    rw [ht]
    exact ⟨PerMover.get_set_of_ne _ _ _ _ hq, PerMover.get_set_of_ne _ _ _ _ hq, PerMover.get_set_of_ne _ _ _ _ hq⟩
  · rw [ht]
    exact ⟨rfl, rfl, rfl, rfl⟩
  · intro hparked
    rw [hrecord, hhand, State.grantedRecord, if_pos hparked, if_pos hparked]
    exact ⟨rfl, rfl⟩
  · intro hmoving
    rw [hrecord, hhand, State.grantedRecord, if_neg hmoving, if_neg hmoving, List.append_nil]
    exact ⟨rfl, rfl⟩
  · intro hf
    rw [hplace, hown, State.grantedPlace, if_pos (hfresh.mpr hf)]
    exact ⟨rfl, State.grantedAuthority_fresh (s := s.takeHead p) (hfresh.mpr hf) p mo e.position⟩
  · intro hf
    have hstale : (s.takeHead p).isFresh m d = false := Bool.eq_false_iff.mpr (mt hfresh.mp hf)
    obtain ⟨htarget, hcap, hdescent⟩ := State.grantedAuthority_stale hstale p mo e.position
    rw [hplace, hown, State.grantedPlace, if_neg (mt hfresh.mp hf)]
    exact ⟨rfl, htarget, hcap, hdescent, State.grantMove_stale (s := s.takeHead p) hmo hstale p e.position⟩
  · intro mo' hmo'
    rw [ht] at hmo'
    have hmotion : (s.takeHead p).grantedMotion m d mo = mo' :=
      Option.some.inj ((State.granting_motionOf (s := s.takeHead p) (port := p) (position := e.position)
        hmo).symm.trans hmo')
    rw [hown, ← hmotion]
    rfl
  · intro a x hx
    have hnodup : (mo.positions.map (·.1)).Nodup := State.axes_of_motionOf hmo ▸ axesOf_nodup m
    rw [hown, ht]
    exact setCeilings_get_of_mem hnodup hx
  · intro a ha
    rw [ht]
    refine setCeilings_get_of_not_mem fun x hx hxa => ha ?_
    rw [← hxa, ← mem_axesOf, ← State.axes_of_motionOf hmo]
    exact List.mem_map_of_mem hx

end Sys2Proof.Machine
end
